-- ==== Sys2Proof/Word.lean ====
section
/-! DEFINITION. The word types of the model and their plainest arithmetic. -/

namespace Sys2Proof

/-- A 64-bit register value (R51). -/
abbrev Word := BitVec 64
/-- One byte. -/
abbrev Byte := BitVec 8
/-- The number of a g or f register (R51, R52). -/
abbrev RegNo := BitVec 5
/-- One 64-byte cache line (R216), byte 0 in bits [7:0]. -/
abbrev Line := BitVec 512

/-- The field of `w` bits that begins at bit `lo` of a number. -/
def bits (v lo w : Nat) : Nat := v / 2 ^ lo % 2 ^ w

/-- Replaces the field of `w` bits at bit `lo` of `v` by `x` modulo `2^w`. -/
def setBits (v lo w x : Nat) : Nat :=
  v - bits v lo w * 2 ^ lo + x % 2 ^ w * 2 ^ lo

/-- Bit `i` of a number. -/
def bit (v i : Nat) : Bool := v.testBit i

/-- A Boolean as the number of a one-bit field. -/
def b2n (b : Bool) : Nat := if b then 1 else 0

/-- The smaller of a count and its saturation limit. -/
def satInc (v lim : Nat) : Nat := if v < lim then v + 1 else lim

end Sys2Proof
end

