-- ==== Sys2Proof/Config.lean ====
section
/-! DEFINITION. What an implementation fixes: the kinds of things the commands name, and the free
values. A free value is an opaque constant without a body, so that no proof can lean on a number. -/

namespace Sys2Proof

/-- Who issues a request (R25). A core is named by its index: 0–1087 is the PCN of a tile or spare
core (R22), 1088–1091 are the Collier cores CC0–CC3. -/
inductive Agent where
  | core (p : Nat)
  | sbc
  | host
  | rp (k : Nat)
  | fx (east : Bool)
  | jtag
  deriving DecidableEq, Repr

/-- A storage error that has arisen in a core's caches and has not been read yet (R586). -/
structure Flaw where
  /-- The structure, in the encoding of R493: 0 L1I, 1 L1D, 2 L2 or Peat way, 3 Cinder buffer. -/
  st : Nat
  /-- The line, for an error in its data; the set, for one in its tags or state. -/
  at_ : Nat
  tag : Bool := false
  uc : Bool := false
  /-- The unit of the line: 8 bytes in L1D, 16 bytes elsewhere. -/
  unit : Nat := 0
  deriving DecidableEq, Repr

/-- A storage error of a slice that has not been read yet (R586): of LLC data, or of a directory entry. -/
structure SlFlaw where
  sn : Nat
  dir : Bool
  /-- The line of LLC data, or the directory set. -/
  at_ : Nat
  way : Nat := 0
  uc : Bool := false
  unit : Nat := 0
  deriving DecidableEq, Repr

/-- The storage error, if any, that a read of a protected structure finds (R234, R586): none; a correctable
error in structure `st`; an uncorrectable error in structure `st` at unit `u` of the line, of 8 bytes in L1D and of 16
bytes elsewhere. The structures of a core are numbered as in R493: 0 L1I, 1 L1D, 2 L2 or Peat way, 3 Cinder buffer. -/
inductive Upset where
  | none
  | ce (st : Nat)
  | uc (st u : Nat)
  /-- An error arises, to be found when it is next read: in a core's caches, or in a slice. -/
  | arise (f : Flaw)
  | ariseSl (f : SlFlaw)
  deriving DecidableEq, Repr

/-- The outcome of one DRAM read's check symbols (R327): clean, corrected (rank, device position), or
detected uncorrectable (rank). -/
inductive DramError where
  | none
  | ce (rank dev : Nat)
  | uc (rank : Nat)
  deriving DecidableEq, Repr

/-- The width of a write of CLK_CTSTEP (R32): 8 bytes, or one 4-byte half. -/
inductive CtHalf where
  | full | low | high
  deriving DecidableEq, Repr

/-- What a link finds on a flit (R315). -/
inductive FlitError where
  | corrected | replayed | replayFail
  deriving DecidableEq, Repr

/-- One of a target's four interrupt interfaces (R175). -/
inductive PageKind where
  | openL1 | openL2 | sealedL1 | sealedL3
  deriving DecidableEq, Repr

/-- A claim register (R369). -/
inductive ClaimReg where
  | tile (i : Nat)
  | fn (j : Nat)
  | mc
  | key (j : Nat)
  | stat
  deriving DecidableEq, Repr

/-- A debug access made on behalf of a halted core (R370), or of the Ash Record (R560). -/
inductive DebugReq where
  | readG (p : Nat) (r : RegNo)
  | writeG (p : Nat) (r : RegNo) (v : Word)
  | readF (p : Nat) (r : RegNo)
  | writeF (p : Nat) (r : RegNo) (v : BitVec 128)
  | readCr (p : Nat) (crn : BitVec 12)
  | writeCr (p : Nat) (crn : BitVec 12) (v : Word)
  | readPc (p : Nat)
  | writePc (p : Nat) (v : Word)
  | step (p : Nat)
  | resume (p : Nat)
  /-- Bytes of physical memory, within one line. -/
  | readMem (p : Nat) (pa size : Nat)
  | writeMem (p : Nat) (pa size : Nat) (v : Word)
  /-- A doubleword of the Ash Record (R560): for no core. -/
  | readAsh (off : Nat)
  deriving DecidableEq, Repr

/-- The three severities of a fault report (R489): corrected, uncorrected-contained, fatal. -/
inductive FbClass where
  | ce | uc | ft
  deriving DecidableEq, Repr

/-- What the host sends to the Supervisor Port (R458–R460). -/
inductive SpKind where
  /-- A memory request at an offset of BAR0, BAR2 or the Expansion ROM. -/
  | bar0 | bar2 | rom
  /-- A configuration request for the doubleword at an offset of the function's configuration space. -/
  | cfg
  /-- A memory request that no BAR claims, an I/O request, an AtomicOp, a message other than vendor-defined Type 1. -/
  | other
  /-- A vendor-defined message of Type 1. -/
  | vendor1
  deriving DecidableEq, Repr

/-- A request that the host sends to the Supervisor Port (R458–R463). Of a kind `other`, `write` says that it is posted. -/
structure SpTlp where
  kind : SpKind
  write : Bool
  off : Nat
  size : Nat
  data : Line := 0
  pasid : Bool := false
  atField : Nat := 0
  poisoned : Bool := false
  deriving DecidableEq, Repr

/-- The resets that reach the Supervisor Port (R465). -/
inductive SpReset where
  | hot | linkDown | flr
  deriving DecidableEq, Repr

/-- The status a card returns in a completion (R474). -/
inductive RpStatus where
  | ok | ur | ca | poisoned
  deriving DecidableEq, Repr

/-- What a card sends to a root port (R476, R481). -/
inductive RpKind where
  | mem
  /-- Assert_INTx or Deassert_INTx of wire `w`. -/
  | intx (w : Nat) (assert : Bool)
  /-- ERR_COR, ERR_NONFATAL, ERR_FATAL. -/
  | errCor | errNonfatal | errFatal
  /-- A configuration or I/O request, an AtomicOp, a vendor-defined message of Type 0. -/
  | unsupported
  /-- PM_PME, or a vendor-defined message of Type 1. -/
  | silent
  deriving DecidableEq, Repr

/-- A transaction that a card sends to a root port (R476). Of a kind `unsupported`, `write` says that it is posted. -/
structure RpTlp where
  kind : RpKind
  write : Bool
  bus : Nat
  addr : Nat
  size : Nat
  data : Line := 0
  pasid : Bool := false
  atField : Nat := 0
  poisoned : Bool := false
  deriving DecidableEq, Repr

/-- What training finds for a channel (R540 step 7): its number, the fields of `MC_CFG` and `MC_TIMING`. -/
structure TrainInfo where
  k : Nat
  cfg : Word
  timing : Word
  deriving DecidableEq, Repr

/-- A gatekeeper region that Kindling commits (R540 step 8). -/
structure RegionInfo where
  inst : Nat
  r : Nat
  base : Word
  limit : Word
  dom : Word
  deriving DecidableEq, Repr

/-- The steps 3 to 9 of the boot sequence (R540), each with what Kindling's images and the devices on the board supply. -/
inductive BootStep where
  /-- Step 3: a Kindling stage 2 is chosen, verified and started. -/
  | stage2
  /-- Step 4: the power-fail record is restored, and the Ash Record is ready. -/
  | record
  /-- Step 5: the option ROM, by 8-byte location, and the windows (number, `SP_WIN_CFG`, `SP_WIN_TGT`). -/
  | ports (rom : List (Nat × Word)) (wins : List (Nat × Word × Word))
  /-- Step 6: the Kiln and Cordwood slots are chosen; GENERATE for slots 64 and 65. -/
  | images
  /-- Step 7: what training finds, and the value of `MC_ILV` without `LOCK`. -/
  | train (cs : List TrainInfo) (ilv : Word)
  /-- Step 8: the first regions, the lines of the images that are copied into DRAM, `CORE_ENTRY`, Cordwood's entry point,
  and `LEDG_CTL.MBASE`. -/
  | regions (rs : List RegionInfo) (lines : List (Nat × Line)) (entry cwEntry mbase : Word)
  /-- Step 9: the Collier cores are released. -/
  | release
  deriving DecidableEq, Repr

/-! Free values: what the spec leaves open. -/

/-- A byte of DRAM that nothing has written under the key in force (R341, R342): by address and draw. -/
opaque freeDramByte : Nat → Nat → Byte
/-- Which of the values that an R133 register has had since the last context-synchronising event an instruction
operates under: by draw and register copy. -/
opaque freeSyncChoice : Nat → Nat → Nat
/-- Which of several matching TLB entries an access uses (R201): by draw. -/
opaque freeTlbChoice : Nat → Nat
/-- The architectural state of a Twin follower after dissolution (R380): by draw and register. -/
opaque freeFollower : Nat → Nat → Word
/-- A byte of the boot ROM image (R540), by offset. -/
opaque romByte : Nat → Byte
/-- Whether tininess is found before rounding (R85 leaves open which of the two IEEE 754 rules sets UF). -/
opaque freeTininess : Bool
/-- Whether a fused multiply-add of zero and infinity with a quiet NaN addend sets NV (open in IEEE 754). -/
opaque freeFmaInvalid : Bool
/-- The fuses: debug enables permitted, by PCN (R372). -/
opaque fuseDebug : Nat → BitVec 4

/-- `SRC` and `CLASS` of an Ash event for which R554 states neither: by type. -/
opaque freeAshSrc : Nat → BitVec 14

/-- Whether a signature over a digest verifies under a key: ECDSA P-384 (R543, R562), which the spec names and does not
define: key, digest, signature. -/
opaque sigOk : List Byte → List Byte → List Byte → Bool
/-- The fused key hashes (R544, R562), by component, and 4 for the debug key. -/
opaque fuseKeyHash : Nat → List Byte
/-- The fused minimum security versions before any SVNRAISE (R544), by component. -/
opaque fuseMinVer : Nat → Nat
/-- What the boot device holds before any STAGE: validity under the rules of R544 but for the version, build sequence,
security version, by component and slot. -/
opaque flashSlot : Nat → Nat → Bool × Nat × Nat
/-- What Field Exchange leaves open, by draw: where within ±5 ns a timestamp lies (R407, R425), and `LEN` of a frame that a
loss of link has cut short (R405). -/
opaque freeFx : Nat → Nat
/-- Vendor ID, Device ID and Revision ID of the root ports (R471 gives none), by doubleword. -/
opaque rpIdent : Nat → BitVec 32
/-- The random values of `SBC_DBGNONCE` (R562), by draw. -/
opaque freeNonce : Nat → Word
/-- Which regulators hold a fault when PMB_ALERTn falls (R576 leaves the cause to the board), by draw. -/
opaque freeAlert : Nat → BitVec 22
/-- What Kindling's software chooses at a handover to a new Kiln and the spec does not state (R548): the new `CORE_ENTRY`, the
number and priority of its SGI, by draw. -/
opaque freeKindling : Nat → Word

end Sys2Proof
end

