-- ==== Sys2Proof/Syntax.lean ====
section
/-! DEFINITION. The commands of the module: one constructor per row of the opcode table.

Operands. `p` names a core: 0–1087 is the PCN of a tile or spare core, 1088–1091 the Collier cores CC0–CC3.
`who` is the agent that issues a register write. In messages `a` is the agent ID (R25) of the sender or
receiver, `sn` a slice number, `pa` a physical address; `q` a queue or port index; `v` the value written.
`ill` marks, on one row of each major opcode, a word of that major whose sub-operation is reserved, whose reserved
field is not zero, or which the chapter calls illegal in a way that no operand shows (R56). `e` is the storage error
that the access finds (R586). -/

namespace Sys2Proof

/-- A command. -/
inductive Instr where
  /-- REGISTER_WRITE (R6): A write to a register that has no row of its own sets its fields according to their Type codes. -/
  | registerWrite (who : Agent) (off size : Nat) (v : Word)
  /-- LCNMAP_WRITE (R24): A write of CFG_LCNMAP remaps an LCN to a PCN when both PCNs are parked, and is otherwise refused with ERR set. -/
  | lcnmapWrite (who : Agent) (n : Nat) (v : Word)
  /-- TILEDIV_WRITE (R29): A write of CLK_TILEDIV sets PENDING for a new divider, or reports BUSY or DENIED_SEALED. -/
  | tiledivWrite (who : Agent) (i : Nat) (v : Word)
  /-- TILE_CLOCK_SWITCH (R29): At the next common clock edge the tile switches to its new divider and PENDING clears. -/
  | tileClockSwitch (i : Nat)
  /-- CTADJ_WRITE (R31): A write of CLK_CTADJ stores a clamped rate adjustment for chip time. -/
  | ctadjWrite (who : Agent) (v : Word)
  /-- CTSTEP_WRITE (R32): A write of CLK_CTSTEP steps CT by a signed value in one CLK_PERI cycle. -/
  | ctstepWrite (who : Agent) (half : CtHalf) (v : Word)
  /-- PLL_LOCK (R28): The root PLL locks, so LOCK reads 1 and CT starts after a power-on reset. -/
  | pllLock
  /-- PLL_LOSS_OF_LOCK (R510): On loss of PLL lock the island, Firebreak and CT move to REFCLK, UNLOCKED is set and an FT event is raised. -/
  | pllLossOfLock
  /-- ADD (R58): Writes ra + rb modulo 2^64 into rd. -/
  | add (p : Nat) (rd ra rb : RegNo) (ill : Bool)
  /-- SUB (R58): Writes ra − rb modulo 2^64 into rd. -/
  | sub (p : Nat) (rd ra rb : RegNo)
  /-- AND (R58): Writes ra AND rb into rd. -/
  | and (p : Nat) (rd ra rb : RegNo)
  /-- OR (R58): Writes ra OR rb into rd. -/
  | or (p : Nat) (rd ra rb : RegNo)
  /-- XOR (R58): Writes ra XOR rb into rd. -/
  | xor (p : Nat) (rd ra rb : RegNo)
  /-- ANDN (R58): Writes ra AND NOT rb into rd. -/
  | andn (p : Nat) (rd ra rb : RegNo)
  /-- ORN (R58): Writes ra OR NOT rb into rd. -/
  | orn (p : Nat) (rd ra rb : RegNo)
  /-- SLL (R58): Shifts ra left by rb[5:0]. -/
  | sll (p : Nat) (rd ra rb : RegNo)
  /-- SRL (R58): Shifts ra right logically by rb[5:0]. -/
  | srl (p : Nat) (rd ra rb : RegNo)
  /-- SRA (R58): Shifts ra right arithmetically by rb[5:0]. -/
  | sra (p : Nat) (rd ra rb : RegNo)
  /-- ROR (R58): Rotates ra right by rb[5:0]. -/
  | ror (p : Nat) (rd ra rb : RegNo)
  /-- SLT (R58): Writes 1 when ra < rb signed, else 0. -/
  | slt (p : Nat) (rd ra rb : RegNo)
  /-- SLTU (R58): Writes 1 when ra < rb unsigned, else 0. -/
  | sltu (p : Nat) (rd ra rb : RegNo)
  /-- MIN (R58): Writes the signed minimum of ra and rb. -/
  | min (p : Nat) (rd ra rb : RegNo)
  /-- MAX (R58): Writes the signed maximum of ra and rb. -/
  | max (p : Nat) (rd ra rb : RegNo)
  /-- ADDW (R58): Writes the sign extension of the 32-bit sum. -/
  | addw (p : Nat) (rd ra rb : RegNo)
  /-- SUBW (R58): Writes the sign extension of the 32-bit difference. -/
  | subw (p : Nat) (rd ra rb : RegNo)
  /-- SLLW (R58): Shifts ra[31:0] left by rb[4:0] and sign-extends the result. -/
  | sllw (p : Nat) (rd ra rb : RegNo)
  /-- SRLW (R58): Shifts ra[31:0] right logically and sign-extends the result. -/
  | srlw (p : Nat) (rd ra rb : RegNo)
  /-- SRAW (R58): Shifts ra[31:0] right arithmetically and sign-extends the result. -/
  | sraw (p : Nat) (rd ra rb : RegNo)
  /-- CLZ (R58): Counts the leading zeros of ra. -/
  | clz (p : Nat) (rd ra rb : RegNo)
  /-- CTZ (R58): Counts the trailing zeros of ra. -/
  | ctz (p : Nat) (rd ra rb : RegNo)
  /-- POPC (R58): Counts the one bits of ra. -/
  | popc (p : Nat) (rd ra rb : RegNo)
  /-- BSWAP (R58): Reverses the eight bytes of ra. -/
  | bswap (p : Nat) (rd ra rb : RegNo)
  /-- SEXTB (R58): Sign-extends ra[7:0]. -/
  | sextb (p : Nat) (rd ra rb : RegNo)
  /-- SEXTH (R58): Sign-extends ra[15:0]. -/
  | sexth (p : Nat) (rd ra rb : RegNo)
  /-- SEXTW (R58): Sign-extends ra[31:0]. -/
  | sextw (p : Nat) (rd ra rb : RegNo)
  /-- ADDI (R55): Writes ra + sext(imm16) into rd. -/
  | addi (p : Nat) (rd ra : RegNo) (imm : BitVec 16) (ill : Bool)
  /-- ANDI (R55): Writes ra AND zext(imm16) into rd. -/
  | andi (p : Nat) (rd ra : RegNo) (imm : BitVec 16)
  /-- ORI (R55): Writes ra OR zext(imm16) into rd. -/
  | ori (p : Nat) (rd ra : RegNo) (imm : BitVec 16)
  /-- XORI (R55): Writes ra XOR zext(imm16) into rd. -/
  | xori (p : Nat) (rd ra : RegNo) (imm : BitVec 16)
  /-- SLTI (R55): Compares ra with sext(imm16) signed and writes 1 or 0. -/
  | slti (p : Nat) (rd ra : RegNo) (imm : BitVec 16)
  /-- SLTIU (R55): Compares ra with sext(imm16) unsigned and writes 1 or 0. -/
  | sltiu (p : Nat) (rd ra : RegNo) (imm : BitVec 16)
  /-- LUI (R55): Writes sext(imm16 << 16) into rd. -/
  | lui (p : Nat) (rd ra : RegNo) (imm : BitVec 16)
  /-- ADDPCI (R55): Writes the instruction address + sext(imm16 << 16) into rd. -/
  | addpci (p : Nat) (rd ra : RegNo) (imm : BitVec 16)
  /-- SLLI (R59): Shifts ra left by an immediate amount. -/
  | slli (p : Nat) (rd ra : RegNo) (imm : BitVec 16) (ill : Bool)
  /-- SRLI (R59): Shifts ra right logically by an immediate amount. -/
  | srli (p : Nat) (rd ra : RegNo) (imm : BitVec 16)
  /-- SRAI (R59): Shifts ra right arithmetically by an immediate amount. -/
  | srai (p : Nat) (rd ra : RegNo) (imm : BitVec 16)
  /-- RORI (R59): Rotates ra right by an immediate amount. -/
  | rori (p : Nat) (rd ra : RegNo) (imm : BitVec 16)
  /-- SLLIW (R59): Shifts the 32-bit value left by an immediate amount and sign-extends the result. -/
  | slliw (p : Nat) (rd ra : RegNo) (imm : BitVec 16)
  /-- SRLIW (R59): Shifts the 32-bit value right logically by an immediate amount and sign-extends the result. -/
  | srliw (p : Nat) (rd ra : RegNo) (imm : BitVec 16)
  /-- SRAIW (R59): Shifts the 32-bit value right arithmetically by an immediate amount and sign-extends the result. -/
  | sraiw (p : Nat) (rd ra : RegNo) (imm : BitVec 16)
  /-- MLO (R60): Writes the low 64 bits of ra × rb. -/
  | mlo (p : Nat) (rd ra rb : RegNo) (ill : Bool)
  /-- MLOW (R60): Writes the sign extension of the low 32 bits of the 32-bit product. -/
  | mlow (p : Nat) (rd ra rb : RegNo)
  /-- MHUU (R60): Writes the high 64 bits of the unsigned × unsigned product. -/
  | mhuu (p : Nat) (rd ra rb : RegNo)
  /-- MHSS (R60): Writes the high 64 bits of the signed × signed product. -/
  | mhss (p : Nat) (rd ra rb : RegNo)
  /-- MHSU (R60): Writes the high 64 bits of the signed × unsigned product. -/
  | mhsu (p : Nat) (rd ra rb : RegNo)
  /-- DIV (R61): Writes the signed quotient, with the fixed results of R62. -/
  | div (p : Nat) (rd ra rb : RegNo) (ill : Bool)
  /-- DIVU (R61): Writes the unsigned quotient. -/
  | divu (p : Nat) (rd ra rb : RegNo)
  /-- REM (R61): Writes the signed remainder. -/
  | rem (p : Nat) (rd ra rb : RegNo)
  /-- REMU (R61): Writes the unsigned remainder. -/
  | remu (p : Nat) (rd ra rb : RegNo)
  /-- DIVW (R61): Writes the signed 32-bit quotient, sign-extended. -/
  | divw (p : Nat) (rd ra rb : RegNo)
  /-- DIVUW (R61): Writes the unsigned 32-bit quotient, sign-extended. -/
  | divuw (p : Nat) (rd ra rb : RegNo)
  /-- REMW (R61): Writes the signed 32-bit remainder, sign-extended. -/
  | remw (p : Nat) (rd ra rb : RegNo)
  /-- REMUW (R61): Writes the unsigned 32-bit remainder, sign-extended. -/
  | remuw (p : Nat) (rd ra rb : RegNo)
  /-- LDB (R64): Loads a byte and sign-extends it. -/
  | ldb (p : Nat) (rd ra : RegNo) (imm : BitVec 16) (e : Upset)
  /-- LDBU (R64): Loads a byte and zero-extends it. -/
  | ldbu (p : Nat) (rd ra : RegNo) (imm : BitVec 16) (e : Upset)
  /-- LDH (R64): Loads a halfword and sign-extends it. -/
  | ldh (p : Nat) (rd ra : RegNo) (imm : BitVec 16) (e : Upset)
  /-- LDHU (R64): Loads a halfword and zero-extends it. -/
  | ldhu (p : Nat) (rd ra : RegNo) (imm : BitVec 16) (e : Upset)
  /-- LDW (R64): Loads a word and sign-extends it. -/
  | ldw (p : Nat) (rd ra : RegNo) (imm : BitVec 16) (e : Upset)
  /-- LDWU (R64): Loads a word and zero-extends it. -/
  | ldwu (p : Nat) (rd ra : RegNo) (imm : BitVec 16) (e : Upset)
  /-- LDD (R64): Loads 64 bits. -/
  | ldd (p : Nat) (rd ra : RegNo) (imm : BitVec 16) (e : Upset) (ill : Bool)
  /-- STB (R64): Stores the low byte of the data register. -/
  | stb (p : Nat) (rd ra : RegNo) (imm : BitVec 16)
  /-- STH (R64): Stores the low halfword of the data register. -/
  | sth (p : Nat) (rd ra : RegNo) (imm : BitVec 16)
  /-- STW (R64): Stores the low word of the data register. -/
  | stw (p : Nat) (rd ra : RegNo) (imm : BitVec 16)
  /-- STD (R64): Stores 64 bits. -/
  | std (p : Nat) (rd ra : RegNo) (imm : BitVec 16) (ill : Bool)
  /-- FLD (R66): Loads 2, 4, 8 or 16 bytes into an f register. -/
  | fld (p : Nat) (fd ra : RegNo) (size : BitVec 2) (imm : BitVec 14) (e : Upset) (ill : Bool)
  /-- FST (R66): Stores the low bytes of an f register. -/
  | fst (p : Nat) (fd ra : RegNo) (size : BitVec 2) (imm : BitVec 14)
  /-- BEQ (R67): Branches with a delay slot when ra equals rb. -/
  | beq (p : Nat) (ra rb : RegNo) (t a : Bool) (disp : BitVec 14) (ill : Bool)
  /-- BNE (R67): Branches with a delay slot when ra differs from rb. -/
  | bne (p : Nat) (ra rb : RegNo) (t a : Bool) (disp : BitVec 14)
  /-- BLT (R67): Branches when ra < rb signed. -/
  | blt (p : Nat) (ra rb : RegNo) (t a : Bool) (disp : BitVec 14)
  /-- BGE (R67): Branches when ra ≥ rb signed. -/
  | bge (p : Nat) (ra rb : RegNo) (t a : Bool) (disp : BitVec 14)
  /-- BLTU (R67): Branches when ra < rb unsigned. -/
  | bltu (p : Nat) (ra rb : RegNo) (t a : Bool) (disp : BitVec 14)
  /-- BGEU (R67): Branches when ra ≥ rb unsigned. -/
  | bgeu (p : Nat) (ra rb : RegNo) (t a : Bool) (disp : BitVec 14)
  /-- J (R67): Jumps to a PC-relative target after the delay slot. -/
  | j (p : Nat) (a : Bool) (disp : BitVec 25) (ill : Bool)
  /-- JAL (R67): Jumps and writes the link address into g30. -/
  | jal (p : Nat) (a : Bool) (disp : BitVec 25)
  /-- JR (R67): Jumps to the address in ra. -/
  | jr (p : Nat) (rd ra rb : RegNo) (a ill : Bool)
  /-- JALR (R67): Jumps to ra and writes the link address into rd. -/
  | jalr (p : Nat) (rd ra rb : RegNo) (a : Bool)
  /-- RET (R67): Returns to the address in ra. -/
  | ret (p : Nat) (rd ra rb : RegNo) (a : Bool)
  /-- LDA (R75): Loads with acquire order. -/
  | lda (p : Nat) (rd ra rb : RegNo) (size : BitVec 2) (oacq orel : Bool) (resv : BitVec 2) (e : Upset) (ill : Bool)
  /-- STL (R75): Stores with release order. -/
  | stl (p : Nat) (rd ra rb : RegNo) (size : BitVec 2) (oacq orel : Bool) (resv : BitVec 2)
  /-- LDX (R77): Loads and arms the exclusive monitor with write permission. -/
  | ldx (p : Nat) (rd ra rb : RegNo) (size : BitVec 2) (oacq orel : Bool) (resv : BitVec 2) (e : Upset)
  /-- STX (R77): Stores when the monitor holds and writes 0 or 1 to rd as status. -/
  | stx (p : Nat) (rd ra rb : RegNo) (size : BitVec 2) (oacq orel : Bool) (resv : BitVec 2) (e : Upset)
  /-- ATSWP (R75): Atomically swaps memory with rb. -/
  | atswp (p : Nat) (rd ra rb : RegNo) (size : BitVec 2) (oacq orel : Bool) (resv : BitVec 2) (e : Upset)
  /-- ATADD (R75): Atomically adds rb to memory. -/
  | atadd (p : Nat) (rd ra rb : RegNo) (size : BitVec 2) (oacq orel : Bool) (resv : BitVec 2) (e : Upset) (ill : Bool)
  /-- ATCLR (R75): Atomically clears the bits of rb in memory. -/
  | atclr (p : Nat) (rd ra rb : RegNo) (size : BitVec 2) (oacq orel : Bool) (resv : BitVec 2) (e : Upset)
  /-- ATSET (R75): Atomically sets the bits of rb in memory. -/
  | atset (p : Nat) (rd ra rb : RegNo) (size : BitVec 2) (oacq orel : Bool) (resv : BitVec 2) (e : Upset)
  /-- ATFLP (R75): Atomically inverts the bits of rb in memory. -/
  | atflp (p : Nat) (rd ra rb : RegNo) (size : BitVec 2) (oacq orel : Bool) (resv : BitVec 2) (e : Upset)
  /-- ATSMAX (R75): Atomically stores the signed maximum. -/
  | atsmax (p : Nat) (rd ra rb : RegNo) (size : BitVec 2) (oacq orel : Bool) (resv : BitVec 2) (e : Upset)
  /-- ATSMIN (R75): Atomically stores the signed minimum. -/
  | atsmin (p : Nat) (rd ra rb : RegNo) (size : BitVec 2) (oacq orel : Bool) (resv : BitVec 2) (e : Upset)
  /-- ATUMAX (R75): Atomically stores the unsigned maximum. -/
  | atumax (p : Nat) (rd ra rb : RegNo) (size : BitVec 2) (oacq orel : Bool) (resv : BitVec 2) (e : Upset)
  /-- ATUMIN (R75): Atomically stores the unsigned minimum. -/
  | atumin (p : Nat) (rd ra rb : RegNo) (size : BitVec 2) (oacq orel : Bool) (resv : BitVec 2) (e : Upset)
  /-- ATCAS (R75): Atomically compares memory with rd and swaps in rb on a match. -/
  | atcas (p : Nat) (rd ra rb : RegNo) (size : BitVec 2) (oacq orel : Bool) (resv : BitVec 2) (e : Upset)
  /-- BCOPY (R81): Copies 64-byte units in ascending order, updating its registers per unit. -/
  | bcopy (p : Nat) (rd ra rb : RegNo) (e : Upset) (ill : Bool)
  /-- BFILL (R81): Fills 64-byte units with a repeated 64-bit value. -/
  | bfill (p : Nat) (rd ra rb : RegNo)
  /-- DCLEAN_P (R235): Writes the core's dirty copy of the line to its home and keeps the copy clean. -/
  | dcleanP (p : Nat) (rd ra rb : RegNo)
  /-- DINV_P (R235): Removes the core's copies of the line and discards dirty data. -/
  | dinvP (p : Nat) (rd ra rb : RegNo)
  /-- DCLINV_P (R235): Cleans the core's copy of the line to its home, then removes it. -/
  | dclinvP (p : Nat) (rd ra rb : RegNo)
  /-- DCLEAN_M (R235): Writes every dirty copy of the line in the module to DRAM. -/
  | dcleanM (p : Nat) (rd ra rb : RegNo)
  /-- DINV_M (R235): Removes every cached copy of the line in the module. -/
  | dinvM (p : Nat) (rd ra rb : RegNo)
  /-- DCLINV_M (R235): Cleans every copy of the line to DRAM, then removes them all. -/
  | dclinvM (p : Nat) (rd ra rb : RegNo)
  /-- DZERO (R235): Makes the line 64 zero bytes held in M without reading it. -/
  | dzero (p : Nat) (rd ra rb : RegNo) (ill : Bool)
  /-- PREFR (R235): Brings the line into L2 with read permission. -/
  | prefr (p : Nat) (rd ra rb : RegNo)
  /-- PREFW (R235): Brings the line into L2 with write permission. -/
  | prefw (p : Nat) (rd ra rb : RegNo)
  /-- RCLEAN_P (R238): Starts a range-engine clean at point .P. -/
  | rcleanP (p : Nat) (rd ra rb : RegNo)
  /-- RINV_P (R238): Starts a range-engine invalidate at point .P. -/
  | rinvP (p : Nat) (rd ra rb : RegNo)
  /-- RCLINV_P (R238): Starts a range-engine clean-and-invalidate at point .P. -/
  | rclinvP (p : Nat) (rd ra rb : RegNo)
  /-- RCLEAN_M (R238): Starts a range-engine clean at point .M. -/
  | rcleanM (p : Nat) (rd ra rb : RegNo)
  /-- RINV_M (R238): Starts a range-engine invalidate at point .M. -/
  | rinvM (p : Nat) (rd ra rb : RegNo)
  /-- RCLINV_M (R238): Starts a range-engine clean-and-invalidate at point .M. -/
  | rclinvM (p : Nat) (rd ra rb : RegNo)
  /-- RSTAT (R241): Returns the range-engine status. -/
  | rstat (p : Nat) (rd ra rb : RegNo)
  /-- RABORT (R242): Stops the range engine after the line in progress and returns its status. -/
  | rabort (p : Nat) (rd ra rb : RegNo)
  /-- RANGE_ENGINE_LINE (R240): The range engine processes the next line of its range. -/
  | rangeEngineLine (p : Nat)
  /-- TLBIVA (R202): Removes guest entries of the VMID in force that cover VA with the given ASID or global. -/
  | tlbiva (p : Nat) (rd ra rb : RegNo) (bc ill : Bool)
  /-- TLBIVAA (R202): Removes guest entries that cover VA, for any ASID. -/
  | tlbivaa (p : Nat) (rd ra rb : RegNo) (bc : Bool)
  /-- TLBIASID (R202): Removes the non-global guest entries of an ASID. -/
  | tlbiasid (p : Nat) (rd ra rb : RegNo) (bc : Bool)
  /-- TLBIVMALL (R202): Removes all guest entries of the VMID in force. -/
  | tlbivmall (p : Nat) (rd ra rb : RegNo) (bc : Bool)
  /-- TLBIVMID (R202): Removes all guest entries with a given VMID. -/
  | tlbivmid (p : Nat) (rd ra rb : RegNo) (bc : Bool)
  /-- TLBIHVA (R202): Removes host or monitor entries that cover VA. -/
  | tlbihva (p : Nat) (rd ra rb : RegNo) (bc : Bool)
  /-- TLBIHALL (R202): Removes all host or monitor entries. -/
  | tlbihall (p : Nat) (rd ra rb : RegNo) (bc : Bool)
  /-- TLBIWORLD (R202): Removes every entry of the issuer's world. -/
  | tlbiworld (p : Nat) (rd ra rb : RegNo) (bc : Bool)
  /-- TLBSYNC (R205): Waits until every earlier broadcast TLBM has completed at every target. -/
  | tlbsync (p : Nat) (rd ra rb : RegNo) (bc : Bool)
  /-- FADD (R84): Adds two FP values. -/
  | fadd (p : Nat) (fd fa fb : RegNo) (prec : BitVec 2) (ill : Bool)
  /-- FSUB (R84): Subtracts two FP values. -/
  | fsub (p : Nat) (fd fa fb : RegNo) (prec : BitVec 2)
  /-- FMUL (R84): Multiplies two FP values. -/
  | fmul (p : Nat) (fd fa fb : RegNo) (prec : BitVec 2)
  /-- FDIV (R84): Divides two FP values. -/
  | fdiv (p : Nat) (fd fa fb : RegNo) (prec : BitVec 2)
  /-- FSQRT (R84): Takes the FP square root. -/
  | fsqrt (p : Nat) (fd fa fb : RegNo) (prec : BitVec 2)
  /-- FMIN (R84): Writes minimumNumber of two FP values. -/
  | fmin (p : Nat) (fd fa fb : RegNo) (prec : BitVec 2)
  /-- FMAX (R84): Writes maximumNumber of two FP values. -/
  | fmax (p : Nat) (fd fa fb : RegNo) (prec : BitVec 2)
  /-- FNEG (R84): Inverts the sign bit. -/
  | fneg (p : Nat) (fd fa fb : RegNo) (prec : BitVec 2)
  /-- FABS (R84): Clears the sign bit. -/
  | fabs (p : Nat) (fd fa fb : RegNo) (prec : BitVec 2)
  /-- FCPYS (R84): Copies the sign bit of fb onto fa. -/
  | fcpys (p : Nat) (fd fa fb : RegNo) (prec : BitVec 2)
  /-- FCMPEQ (R84): Writes 1 to a g register when fa = fb, by quiet comparison. -/
  | fcmpeq (p : Nat) (fd fa fb : RegNo) (prec : BitVec 2)
  /-- FCMPLT (R84): Writes 1 when fa < fb, by signalling comparison. -/
  | fcmplt (p : Nat) (fd fa fb : RegNo) (prec : BitVec 2)
  /-- FCMPLE (R84): Writes 1 when fa ≤ fb, by signalling comparison. -/
  | fcmple (p : Nat) (fd fa fb : RegNo) (prec : BitVec 2)
  /-- FKIND (R84): Writes the class and sign of fa to a g register. -/
  | fkind (p : Nat) (fd fa fb : RegNo) (prec : BitVec 2)
  /-- FCMPUN (R84): Writes 1 when either operand is a NaN. -/
  | fcmpun (p : Nat) (fd fa fb : RegNo) (prec : BitVec 2)
  /-- FCVTF (R84): Converts between FP formats. -/
  | fcvtf (p : Nat) (fd fa fb : RegNo) (prec : BitVec 2)
  /-- FCVTGS (R84): Converts FP to a signed int64 with saturation. -/
  | fcvtgs (p : Nat) (fd fa fb : RegNo) (prec : BitVec 2)
  /-- FCVTGU (R84): Converts FP to an unsigned int64 with saturation. -/
  | fcvtgu (p : Nat) (fd fa fb : RegNo) (prec : BitVec 2)
  /-- FCVTFS (R84): Converts a signed int64 to FP. -/
  | fcvtfs (p : Nat) (fd fa fb : RegNo) (prec : BitVec 2)
  /-- FCVTFU (R84): Converts an unsigned int64 to FP. -/
  | fcvtfu (p : Nat) (fd fa fb : RegNo) (prec : BitVec 2)
  /-- FMVGF (R84): Moves fa[63:0] to a g register. -/
  | fmvgf (p : Nat) (fd fa fb : RegNo) (prec : BitVec 2)
  /-- FMVFG (R84): Moves a g register into fd[63:0]. -/
  | fmvfg (p : Nat) (fd fa fb : RegNo) (prec : BitVec 2)
  /-- FMADD (R86): Computes fa × fb + fc with one rounding. -/
  | fmadd (p : Nat) (fd fa fb fc : RegNo) (prec resv : BitVec 2) (ill : Bool)
  /-- FMSUB (R86): Computes fa × fb − fc with one rounding. -/
  | fmsub (p : Nat) (fd fa fb fc : RegNo) (prec resv : BitVec 2)
  /-- FNMSUB (R86): Computes −(fa × fb) + fc with one rounding. -/
  | fnmsub (p : Nat) (fd fa fb fc : RegNo) (prec resv : BitVec 2)
  /-- FNMADD (R86): Computes −(fa × fb) − fc with one rounding. -/
  | fnmadd (p : Nat) (fd fa fb fc : RegNo) (prec resv : BitVec 2)
  /-- VADD (R87): Adds integers lane by lane. -/
  | vadd (p : Nat) (fd fa fb : RegNo) (lane : BitVec 2) (ill : Bool)
  /-- VSUB (R87): Subtracts integers lane by lane. -/
  | vsub (p : Nat) (fd fa fb : RegNo) (lane : BitVec 2)
  /-- VMUL (R87): Multiplies lanes and keeps the low half. -/
  | vmul (p : Nat) (fd fa fb : RegNo) (lane : BitVec 2)
  /-- VMINS (R87): Takes the signed minimum per lane. -/
  | vmins (p : Nat) (fd fa fb : RegNo) (lane : BitVec 2)
  /-- VMINU (R87): Takes the unsigned minimum per lane. -/
  | vminu (p : Nat) (fd fa fb : RegNo) (lane : BitVec 2)
  /-- VMAXS (R87): Takes the signed maximum per lane. -/
  | vmaxs (p : Nat) (fd fa fb : RegNo) (lane : BitVec 2)
  /-- VMAXU (R87): Takes the unsigned maximum per lane. -/
  | vmaxu (p : Nat) (fd fa fb : RegNo) (lane : BitVec 2)
  /-- VSLL (R87): Shifts each lane left. -/
  | vsll (p : Nat) (fd fa fb : RegNo) (lane : BitVec 2)
  /-- VSRL (R87): Shifts each lane right logically. -/
  | vsrl (p : Nat) (fd fa fb : RegNo) (lane : BitVec 2)
  /-- VSRA (R87): Shifts each lane right arithmetically. -/
  | vsra (p : Nat) (fd fa fb : RegNo) (lane : BitVec 2)
  /-- VADDSS (R87): Adds lanes with signed saturation. -/
  | vaddss (p : Nat) (fd fa fb : RegNo) (lane : BitVec 2)
  /-- VADDUS (R87): Adds lanes with unsigned saturation. -/
  | vaddus (p : Nat) (fd fa fb : RegNo) (lane : BitVec 2)
  /-- VAND (R87): Computes the bitwise AND of 128 bits. -/
  | vand (p : Nat) (fd fa fb : RegNo) (lane : BitVec 2)
  /-- VOR (R87): Computes the bitwise OR of 128 bits. -/
  | vor (p : Nat) (fd fa fb : RegNo) (lane : BitVec 2)
  /-- VXOR (R87): Computes the bitwise XOR of 128 bits. -/
  | vxor (p : Nat) (fd fa fb : RegNo) (lane : BitVec 2)
  /-- VANDN (R87): Computes the bitwise AND NOT of 128 bits. -/
  | vandn (p : Nat) (fd fa fb : RegNo) (lane : BitVec 2)
  /-- VCEQ (R87): Sets a lane to all ones where the lanes are equal. -/
  | vceq (p : Nat) (fd fa fb : RegNo) (lane : BitVec 2)
  /-- VCGTS (R87): Sets a lane to all ones where it is signed greater. -/
  | vcgts (p : Nat) (fd fa fb : RegNo) (lane : BitVec 2)
  /-- VCGTU (R87): Sets a lane to all ones where it is unsigned greater. -/
  | vcgtu (p : Nat) (fd fa fb : RegNo) (lane : BitVec 2)
  /-- VFADD (R87): Adds FP values per lane. -/
  | vfadd (p : Nat) (fd fa fb : RegNo) (lane : BitVec 2)
  /-- VFSUB (R87): Subtracts FP values per lane. -/
  | vfsub (p : Nat) (fd fa fb : RegNo) (lane : BitVec 2)
  /-- VFMUL (R87): Multiplies FP values per lane. -/
  | vfmul (p : Nat) (fd fa fb : RegNo) (lane : BitVec 2)
  /-- VFDIV (R87): Divides FP values per lane. -/
  | vfdiv (p : Nat) (fd fa fb : RegNo) (lane : BitVec 2)
  /-- VFMIN (R87): Takes the FP minimum per lane. -/
  | vfmin (p : Nat) (fd fa fb : RegNo) (lane : BitVec 2)
  /-- VFMAX (R87): Takes the FP maximum per lane. -/
  | vfmax (p : Nat) (fd fa fb : RegNo) (lane : BitVec 2)
  /-- VFCEQ (R87): Compares FP lanes for equality. -/
  | vfceq (p : Nat) (fd fa fb : RegNo) (lane : BitVec 2)
  /-- VFCLT (R87): Compares FP lanes for less-than. -/
  | vfclt (p : Nat) (fd fa fb : RegNo) (lane : BitVec 2)
  /-- VZIPL (R87): Interleaves the low halves. -/
  | vzipl (p : Nat) (fd fa fb : RegNo) (lane : BitVec 2)
  /-- VZIPH (R87): Interleaves the high halves. -/
  | vziph (p : Nat) (fd fa fb : RegNo) (lane : BitVec 2)
  /-- VUZPE (R87): Takes the even lanes. -/
  | vuzpe (p : Nat) (fd fa fb : RegNo) (lane : BitVec 2)
  /-- VUZPO (R87): Takes the odd lanes. -/
  | vuzpo (p : Nat) (fd fa fb : RegNo) (lane : BitVec 2)
  /-- VTBL (R87): Looks up bytes of fa by the indices in fb. -/
  | vtbl (p : Nat) (fd fa fb : RegNo) (lane : BitVec 2)
  /-- VDUPG (R87): Duplicates a g register into every lane. -/
  | vdupg (p : Nat) (fd fa fb : RegNo) (lane : BitVec 2)
  /-- VMOVGL (R87): Moves one lane to a g register. -/
  | vmovgl (p : Nat) (fd fa fb : RegNo) (lane : BitVec 2)
  /-- VINSG (R87): Inserts a g register into one lane. -/
  | vinsg (p : Nat) (fd fa fb : RegNo) (lane : BitVec 2)
  /-- FENCE (R94): Orders earlier accesses before later ones by the selected mask bits. -/
  | fence (p : Nat) (imm : BitVec 16) (resv : BitVec 4) (ill : Bool)
  /-- CSYNC (R95): Completes every earlier MTC before any later instruction executes. -/
  | csync (p : Nat) (imm : BitVec 16) (resv : BitVec 4)
  /-- ISYNC (R95): Acts as CSYNC and also discards every instruction already fetched. -/
  | isync (p : Nat) (imm : BitVec 16) (resv : BitVec 4)
  /-- CLREX (R77): Disarms the exclusive monitor. -/
  | clrex (p : Nat) (imm : BitVec 16) (resv : BitVec 4)
  /-- WFI (R96): Waits until an interrupt it would take, or an NMI, is pending. -/
  | wfi (p : Nat) (imm : BitVec 16) (resv : BitVec 4)
  /-- BRK (R97): Raises a breakpoint exception that records imm16. -/
  | brk (p : Nat) (imm : BitVec 16) (resv : BitVec 4)
  /-- SHIELD (R98): Starts, restarts or ends a shield against maskable interrupts. -/
  | shield (p : Nat) (imm : BitVec 16) (resv : BitVec 4)
  /-- SHIELD_EXPIRY (R157): The shield count reaches 0 and the shield ends. -/
  | shieldExpiry (p : Nat)
  /-- SHIELD_DEFER_LIMIT (R158): A deferred interrupt has been eligible for the recorded SHMAX cycles, so the shield ends. -/
  | shieldDeferLimit (p : Nat)
  /-- MFC (R89): Reads a control register into rd after the access checks. -/
  | mfc (p : Nat) (rd ra : RegNo) (crn : BitVec 12) (ill : Bool)
  /-- MTC (R89): Writes a control register after the access checks. -/
  | mtc (p : Nat) (rd ra : RegNo) (crn : BitVec 12)
  /-- MFCO (R91): Reads the open-world copy of a control register from L3. -/
  | mfco (p : Nat) (rd ra : RegNo) (crn : BitVec 12)
  /-- MTCO (R91): Writes the open-world copy of a control register from L3. -/
  | mtco (p : Nat) (rd ra : RegNo) (crn : BitVec 12)
  /-- PEATCFG_WRITE (R226): A write of PEATCFG.SIZE is checked against the other world and is accepted or refused. -/
  | peatcfgWrite (p : Nat) (ra : RegNo) (openCopy : Bool)
  /-- SPECCTL_PFLUSH (R121): Writing 1 to PFLUSH clears the return-address stack and the target buffer. -/
  | specctlPflush (p : Nat) (ra : RegNo)
  /-- GCALL (R164): Checks a gate entry and the argument probes, writes the gate frame and enters the target level. -/
  | gcall (p : Nat) (imm : BitVec 16) (resv : BitVec 4)
  /-- GRET (R167): Checks the gate frame and returns to the caller, or raises IRET. -/
  | gret (p : Nat) (imm : BitVec 16) (resv : BitVec 4)
  /-- KCALL (R102): Enters the Kiln at L3 in the sealed world. -/
  | kcall (p : Nat) (imm : BitVec 16) (resv : BitVec 4) (ill : Bool)
  /-- ERET (R103): Checks the saved level and world and returns from an exception. -/
  | eret (p : Nat) (imm : BitVec 16) (resv : BitVec 4)
  /-- GATE (R355): A legal GATE switches from the open to the sealed world at the same level. -/
  | gate (p : Nat) (imm : BitVec 16) (resv : BitVec 4) (ill : Bool)
  /-- GATEMARK (R106): Executes as a no-operation. -/
  | gatemark (p : Nat) (ill : Bool)
  /-- MISPREDICT_REDIRECT (R110): A branch resolves against its prediction and fetch restarts at the correct address. -/
  | mispredictRedirect (p : Nat)
  /-- SPECULATIVE_REISSUE (R127): A refused speculative access is reissued without the flag once its instruction is oldest. -/
  | speculativeReissue (p line : Nat)
  /-- STORE_WRITE_L1D (R125): A retired store requests its line and writes L1D. -/
  | storeWriteL1d (p idx : Nat) (e : Upset)
  /-- MERGED_LOAD_COMPLETE (R131): A partly overlapping load reads the merged bytes once the store is written into L1D. -/
  | mergedLoadComplete (p : Nat)
  /-- SNOOP_DEFER_EXPIRY (R78): The 64-cycle deferral of a snoop after an LDX ends and the snoop is served. -/
  | snoopDeferExpiry (p : Nat)
  /-- INTERRUPT_ENTRY (R154): At an instruction boundary the core takes an eligible maskable interrupt. -/
  | interruptEntry (p : Nat)
  /-- NMI_EVENT (R159): A Firebreak NMI event sets the core's NMI latch. -/
  | nmiEvent (p : Nat)
  /-- NMI_ENTRY (R159): At an allowed boundary the core takes cause 0x21 and sets its NMI-active flag. -/
  | nmiEntry (p : Nat)
  /-- NMIACT_CLEAR (R161): Writing 1 to ESTAT.NMIACT clears the core's NMI-active flag. -/
  | nmiactClear (p : Nat) (ra : RegNo) (crn : BitVec 12)
  /-- TABLE_WALK (R194): A TLB miss walks the stage-1 and stage-2 tables and installs the entry, or faults. -/
  | tableWalk (p : Nat) (fetch : Bool) (va : Nat) (write : Bool)
  /-- L2_FILL (R222): A fill takes a round-robin victim in its L2 set, waiting for a Cinder entry when one is needed. -/
  | l2Fill (p line : Nat) (e : Upset)
  /-- CINDER_RECALL (R291): An L2 miss that hits a Cinder entry in eviction recalls the line with the recall mark. -/
  | cinderRecall (p line : Nat)
  /-- REMOTE_PEAT_ACCESS (R229): Another agent's uncached access to a Peat window is served through the owner's L2 port. -/
  | remotePeatAccess (src pa : Nat)
  /-- HOME_TRANSACTION_START (R278): A queued request starts at its home once its line is free and it has a directory way. -/
  | homeTransactionStart (sn pa : Nat) (dirErr llcErr : Upset)
  /-- GET_S (R282): A cache requests read permission for a line at its home. -/
  | getS (a pa : Nat) (spec : Bool)
  /-- GET_M (R282): A cache requests write permission and data for a line. -/
  | getM (a pa : Nat) (spec : Bool)
  /-- UPG (R282): A cache holding S or O asks for write permission. -/
  | upg (a pa : Nat)
  /-- READ_ONCE (R282): An uncached agent requests a snapshot of a line. -/
  | readOnce (a pa : Nat)
  /-- WRITE_UNIQUE (R282): An uncached agent writes a full line. -/
  | writeUnique (a pa : Nat)
  /-- WRITE_PTL (R282): An uncached agent writes part of a line under BMASK. -/
  | writePtl (a pa : Nat)
  /-- PUT_M (R282): A cache evicts a line held in M, with data. -/
  | putM (a pa : Nat)
  /-- PUT_O (R282): A cache evicts a line held in O, with data. -/
  | putO (a pa : Nat)
  /-- PUT_E (R282): A cache evicts a line held in E, without data. -/
  | putE (a pa : Nat)
  /-- CMO_REQ (R283): A per-line CMO or range-engine line reaches the home and snoops holders as its point requires. -/
  | cmoReq (a pa : Nat)
  /-- FWD_GET_S (R289): The home asks a holder to supply S data to the requester. -/
  | fwdGetS (a pa : Nat) (e : Upset)
  /-- FWD_GET_M (R289): The home asks the owner to pass the line and ownership to the requester. -/
  | fwdGetM (a pa : Nat)
  /-- FWD_READ_ONCE (R289): The home asks the owner to send a snapshot to the requester. -/
  | fwdReadOnce (a pa : Nat)
  /-- INV (R289): The home tells a cache to remove its copy and acknowledge. -/
  | inv (a pa : Nat)
  /-- SNP_CLEAN (R289): The home asks for dirty data back while the cache keeps a clean copy. -/
  | snpClean (a pa : Nat)
  /-- SNP_CLEAN_INV (R289): The home asks for dirty data back and removal of the copy. -/
  | snpCleanInv (a pa : Nat) (e : Upset)
  /-- SNP_DISCARD (R289): The home asks for removal of the copy with dirty data discarded. -/
  | snpDiscard (a pa : Nat)
  /-- DATA (R290): Line data with a grant reaches the requester. -/
  | data (a pa : Nat)
  /-- RO_DATA (R282): Snapshot data reaches an uncached agent. -/
  | roData (a pa : Nat)
  /-- ACK_COUNT (R290): Write permission without data reaches the requester with its acknowledgement count. -/
  | ackCount (a pa : Nat)
  /-- INV_ACK (R290): An invalidation acknowledgement is counted by the requester or the home. -/
  | invAck (a pa : Nat)
  /-- SNP_DATA (R283): Dirty data answering a snoop reaches the home. -/
  | snpData (sn pa : Nat)
  /-- SNP_ACK (R283): A dataless snoop answer reaches the home. -/
  | snpAck (sn pa : Nat)
  /-- FWD_MISS (R281): A sharer reports that it holds no copy, and the home serves the request another way. -/
  | fwdMiss (sn pa : Nat)
  /-- UNBLOCK (R280): The requester reports completion and the home applies RES and closes the transaction. -/
  | unblock (sn pa : Nat)
  /-- PUT_ACK (R291): An eviction is accepted, so the Cinder entry is freed and Unblock is sent. -/
  | putAck (a pa : Nat)
  /-- STALE_PUT_ACK (R290): An eviction from a non-owner is discarded, and the cache goes to I. -/
  | stalePutAck (a pa : Nat)
  /-- WR_ACK (R282): A WriteUnique or WritePtl is acknowledged to the uncached agent. -/
  | wrAck (a pa : Nat)
  /-- CMO_ACK (R237): A CMO is done at its point and the form retires. -/
  | cmoAck (a pa : Nat)
  /-- REFUSE (R279): A gatekeeper refusal returns to the requester, whose access raises XABT or is reissued. -/
  | refuse (a pa : Nat)
  /-- NC_READ (R305): A non-coherent read reaches its target. -/
  | ncRead (a pa : Nat)
  /-- NC_WRITE_P (R305): A posted non-coherent write reaches its target. -/
  | ncWriteP (a pa : Nat)
  /-- NC_WRITE_O (R305): A Device-Ordered write reaches its target and is answered with NcAck. -/
  | ncWriteO (a pa : Nat)
  /-- NC_DATA (R305): Read data returns to the requester. -/
  | ncData (a : Nat)
  /-- NC_ACK (R305): A Device-Ordered write is reported done. -/
  | ncAck (a : Nat)
  /-- NC_ERR (R305): A refusal, unpopulated address or completer abort returns to the requester. -/
  | ncErr (a : Nat)
  /-- RETRY (R312): A VC3 request that found no free entry is answered with Retry and QOVF is set. -/
  | retry (a : Nat)
  /-- VC3_RESEND (R312): The requester resends the refused VC3 request 64 CLK_MESH cycles after the Retry. -/
  | vc3Resend (a pa : Nat)
  /-- TLB_OP (R204): A broadcast TLBM reaches a target core, which removes the matching entries. -/
  | tlbOp (a : Nat)
  /-- TLB_ACK (R205): A target reports a TlbOp complete. -/
  | tlbAck (a : Nat)
  /-- INT_DELIVER (R182): The IDIST tells a core that its interface state has changed. -/
  | intDeliver (tgt : Nat)
  /-- REDIR (R300): A request for a bucket its home does not own is redirected, and the requester resends it. -/
  | redir (a pa : Nat)
  /-- BKT_XFER (R299): The new home installs a moved directory entry or dirty line. -/
  | bktXfer (b : Nat)
  /-- BKT_UPD (R299): A router copy updates its bucket table. -/
  | bktUpd (b tn : Nat)
  /-- BKT_ACK (R299): An acknowledgement of BktXfer or BktUpd reaches the old home. -/
  | bktAck (b : Nat)
  /-- BUCKET_MOVE (R299): Writing 1 to SL_BKT.MOVE starts a bucket move, or is refused. -/
  | bucketMove (who : Agent) (b : Nat) (v : Word)
  /-- BUCKET_COPY_START (R299): When the bucket's open transactions have closed, the move enters COPYING. -/
  | bucketCopyStart (b : Nat)
  /-- SL_CTL_RETIRE (R301): Setting SL_CTL.RETIRED retires a slice whose BKTCNT is 0, and is otherwise refused. -/
  | slCtlRetire (who : Agent) (sn : Nat) (v : Word)
  /-- URGENCY_RAISE (R309): After 256 cycles waiting without a grant, a header's URG rises by one. -/
  | urgencyRaise (tn input vc lane : Nat)
  /-- SLOT_TABLE_UPDATE (R323): A MESH_SLOT write takes effect at the next 64-cycle boundary. -/
  | slotTableUpdate (tn : Nat)
  /-- FLIT_ECC_ERROR (R315): A flit with an error is corrected or replayed, and 16 failed replays take the link down. -/
  | flitEccError (tn o : Nat) (kind : FlitError)
  /-- LINK_DOWN_WRITE (R323): Writing MESH_LINK.DOWN takes a link down, or clears DOWN after a retraining pass. -/
  | linkDownWrite (who : Agent) (tn o : Nat) (v : Word)
  /-- LINK_RETRAIN (R531): A down link retrains with a test pattern every 10 ms. -/
  | linkRetrain (tn o : Nat) (pass : Bool)
  /-- EPOCH_SWAP (R316): Writing SWAP to MESH_EPOCH starts an epoch, or is ignored with ERR set. -/
  | epochSwap (who : Agent) (v : Word)
  /-- EPOCH_DRAIN0_DONE (R316): No VC0 packet is in flight, so the epoch enters DRAIN1. -/
  | epochDrain0Done
  /-- EPOCH_DRAIN1_DONE (R316): No packet is in flight, so the routers swap modes and the epoch enters RELEASE. -/
  | epochDrain1Done
  /-- EPOCH_RELEASE_DONE (R316): Re-injected packets have arrived, so injection resumes and DONE is set. -/
  | epochReleaseDone
  /-- PORT_DRAIN (R318): The DRAIN command moves an endpoint port from OPEN to DRAIN_REQ. -/
  | portDrain (who : Agent) (tn q : Nat)
  /-- PORT_DRAIN_ACK (R318): The draining endpoint has nothing open, so its port enters DRAIN_ACK. -/
  | portDrainAck (tn q : Nat)
  /-- PORT_FENCE (R318): The FENCE command moves a drained port to FENCED. -/
  | portFence (who : Agent) (tn q : Nat)
  /-- PORT_OPEN (R318): The OPEN command reopens a fenced port, running a slice's self-test first. -/
  | portOpen (who : Agent) (tn q : Nat)
  /-- SLICE_SELF_TEST_DONE (R526): The slice's self-test ends, and the port opens empty or stays FENCED. -/
  | sliceSelfTestDone (sn : Nat) (pass : Bool)
  /-- CHANNEL_SERVE (R343): The channel scheduler serves the next reserved or best-effort request. -/
  | channelServe (k : Nat) (err : DramError)
  /-- BW_WINDOW_START (R343): At each 256-cycle window, domains receive fresh reservation credits. -/
  | bwWindowStart (k : Nat)
  /-- PATROL_SCRUB_READ (R330): The patrol scrubber reads the next line of the channel. -/
  | patrolScrubRead (k : Nat) (err : DramError)
  /-- SPARE_COPY_START (R331): Writing MC_SPARE.START begins copying rank FROM to the spare, or is refused. -/
  | spareCopyStart (who : Agent) (k : Nat) (v : Word)
  /-- SPARE_COPY_DONE (R331): The copy ends, so the spare serves the rank and EVT is set. -/
  | spareCopyDone (k : Nat)
  /-- CHANNEL_FAIL (R333): Hardware detects loss of training or persistent parity, and a mirrored channel enters FAILED. -/
  | channelFail (k : Nat)
  /-- CHANNEL_FAILOVER (R333): The FAILOVER command fails a mirrored channel over to its survivor. -/
  | channelFailover (who : Agent) (k : Nat)
  /-- REJOIN (R334): The REJOIN command starts resilvering a retrained failed channel. -/
  | rejoin (who : Agent) (k : Nat)
  /-- RESILVER_DONE (R334): The resilver copy ends, so the channel becomes ACTIVE and EVT is set. -/
  | resilverDone (k : Nat)
  /-- ILV_LOCK (R325): Setting MC_ILV.LOCK locks the interleave and makes DRAM below C populated. -/
  | ilvLock (who : Agent) (v : Word)
  /-- GATEKEEPER_COMMIT (R338): Writing MG_CTL.COMMIT makes the shadow regions active and sets BUSY. -/
  | gatekeeperCommit (who : Agent) (i : Nat)
  /-- GATEKEEPER_COMMIT_DONE (R338): Every access passed under the old regions is done, so BUSY clears. -/
  | gatekeeperCommitDone (i : Nat)
  /-- GENERATE (R341): The key-slot command draws a new key and enters GENERATING. -/
  | generate (who : Agent) (s : Nat)
  /-- KEY_VALID (R341): The new key is loaded, so the slot enters VALID and GENCNT rises. -/
  | keyValid (s : Nat)
  /-- ERASE (R341): The key-slot command zeroes the key and enters EMPTY. -/
  | erase (who : Agent) (s : Nat)
  /-- INTERRUPT_SOURCE_EVENT (R178): An edge, or a change of level, at an interrupt source updates its pending state. -/
  | interruptSourceEvent (intid : Nat) (level : Bool)
  /-- IDIST_SRC_CFG_WRITE (R181): A write of a source's routing applies to later evaluations, subject to the bank rights. -/
  | idistSrcCfgWrite (who : Agent) (intid : Nat) (v : Word)
  /-- IDIST_TGT_CFG_WRITE (R174): A write of a target's domain, NMI level or OPTHR changes deliverability. -/
  | idistTgtCfgWrite (who : Agent) (t : Nat) (v : Word)
  /-- SETPEND (R171): Writing SETPEND makes an interrupt pending or sets its software latch. -/
  | setpend (who : Agent) (intid : Nat)
  /-- CLRPEND (R171): Writing CLRPEND clears pending and the software latch. -/
  | clrpend (who : Agent) (intid : Nat)
  /-- IDIST_ACK (R177): A read acknowledges the highest eligible interrupt and makes it active. -/
  | idistAck (p : Nat) (page : PageKind)
  /-- IDIST_EOI (R177): A write ends the most recently acknowledged interrupt, or sets EOIERR. -/
  | idistEoi (p : Nat) (page : PageKind) (v : Word)
  /-- IDIST_SGI (R179): A write sends a software-generated interrupt, or drops it with SGIDROP set. -/
  | idistSgi (p : Nat) (page : PageKind) (v : Word)
  /-- CT_TIMER_FIRE (R180): CT reaches TMRCMP with TMREN set, so INTID 17 becomes pending. -/
  | ctTimerFire (t : Nat) (page : PageKind)
  /-- IOTU_REQUEST (R208): An I/O agent's request is translated through its stream context, walking on a miss. -/
  | iotuRequest (stream iova : Nat) (write : Bool) (data : BitVec 512)
  /-- IOTU_CTX_INV (R211): Writing IOTU_CTX_INV invalidates a context's IOTLB entries in scope and sets BUSY. -/
  | iotuCtxInv (who : Agent) (c : Nat) (v : Word)
  /-- IOTU_CTX_CFG_WRITE (R211): Writing a context's configuration or table bases invalidates the whole context. -/
  | iotuCtxCfgWrite (who : Agent) (c : Nat) (v : Word)
  /-- IOTU_INV_COMPLETE (R211): Every removed entry is gone and every affected request is done, so BUSY clears. -/
  | iotuInvComplete (c : Nat)
  /-- CLAIM_CHANGE (R368): A write sets or clears a sealed-world claim where it is allowed. -/
  | claimChange (who : Agent) (idx : ClaimReg) (v : Word)
  /-- DEBUG_ACCESS (R370): JTAG debug access reads or writes a core or memory under an invasive enable. -/
  | debugAccess (req : DebugReq)
  /-- DEBUG_SAMPLE (R370): JTAG samples a core's PC and counters under a non-invasive enable. -/
  | debugSample (p : Nat)
  /-- DEBUG_HALT_REQUEST (R371): A halt request is held until the core runs in a world whose invasive enable is 1. -/
  | debugHaltRequest (p : Nat)
  /-- DEBUG_HALT (R371): The held halt takes effect at an instruction boundary. -/
  | debugHalt (p : Nat)
  /-- TWIN_FORM (R379): Writing CFG_TWIN.EN = 1 forms a lockstep pair, or is refused. -/
  | twinForm (who : Agent) (k : Nat)
  /-- TWIN_DISSOLVE (R379): Writing CFG_TWIN.EN = 0 dissolves a parked pair. -/
  | twinDissolve (who : Agent) (k : Nat)
  /-- GROUP_AGREED (R383): All comparisons of a retire group match, so the checkpoint advances and held actions may leave. -/
  | groupAgreed (k n : Nat)
  /-- TWIN_MISMATCH (R386): A failed comparison rolls the pair back to its last agreed point. -/
  | twinMismatch (k kind : Nat)
  /-- REPLAY_END (R387): After 4,096 agreed instructions the pair returns to LOCKSTEP. -/
  | replayEnd (k : Nat)
  /-- FRAME_RECEIVE (R404): A frame arrives at a field port and is timestamped and checked. -/
  | frameReceive (port : Nat) (bytes : List Byte) (fcsOk : Bool)
  /-- CLASSIFIER_LOOKUP (R430): The classifier lookup of a frame completes and the frame is steered or dropped. -/
  | classifierLookup (port : Nat)
  /-- LINK_STATE_CHANGE (R405): A field port's link goes down or up, and EVT is set. -/
  | linkStateChange (port : Nat) (up : Bool)
  /-- PORT_FAILOVER (R406): The FAILOVER command moves a port to its partner lane, or is refused. -/
  | portFailover (who : Agent) (port : Nat)
  /-- AUTO_FAILOVER (R406): 100 µs after loss of link with AUTOFO set, the port fails over. -/
  | autoFailover (port : Nat)
  /-- PORT_RESTORE (R533): The RESTORE command starts retraining the port's own lane. -/
  | portRestore (who : Agent) (port : Nat)
  /-- RESTORE_SWITCH (R533): After 100 ms of link on the own lane, at a free moment, the port switches back. -/
  | restoreSwitch (port : Nat)
  /-- QUEUE_ENABLE (R412): The ENABLE command starts a queue, or is refused with CFGERR. -/
  | queueEnable (who : Agent) (q : Nat)
  /-- QUEUE_STOP (R412): The STOP command moves a queue to QDRAINING. -/
  | queueStop (who : Agent) (q : Nat)
  /-- QUEUE_DRAIN_DONE (R412): Every read has returned and every write is performed, so the queue is QDISABLED. -/
  | queueDrainDone (q : Nat)
  /-- DESCRIPTOR_DOORBELL (R421): A descriptor doorbell write is checked and advances TAIL. -/
  | descriptorDoorbell (who : Agent) (fn j : Nat) (v : Word)
  /-- COMPLETION_DOORBELL (R421): A completion doorbell write is checked and advances CHEAD. -/
  | completionDoorbell (who : Agent) (fn j : Nat) (v : Word)
  /-- DESCRIPTOR_FETCH (R425): A descriptor read returns and the descriptor is checked. -/
  | descriptorFetch (q : Nat)
  /-- TX_DATA_READ (R425): A frame's data read starts once its time and buffer room allow. -/
  | txDataRead (q : Nat)
  /-- FRAME_READY (R425): The frame's last data line returns and the frame is ready. -/
  | frameReady (q : Nat)
  /-- FRAME_START (R422): The port chooses and starts transmitting a frame. -/
  | frameStart (port : Nat)
  /-- LAUNCH_DEADLINE (R427): At LAUNCH − 160 ns an unready launch-time frame is judged late. -/
  | launchDeadline (q : Nat)
  /-- COMPLETION_WRITE (R409): When a frame ends, its completion is written and the queue interrupt raised. -/
  | completionWrite (q : Nat)
  /-- GCL_COMMIT (R423): Writing COMMIT schedules the admin gate list, or is refused. -/
  | gclCommit (who : Agent) (port : Nat)
  /-- GCL_ACTIVATE (R423): At the scheduled cycle boundary the admin list becomes operational. -/
  | gclActivate (port : Nat)
  /-- GATE_CHANGE (R423): An entry's interval ends and the next gate states take effect. -/
  | gateChange (port : Nat)
  /-- PREEMPT_VERIFY (R424): The 802.3br verify procedure succeeds and sets VERIFIED. -/
  | preemptVerify (port : Nat) (ok : Bool)
  /-- SAFE_FRAME_REPEAT (R433): After each GAP interval the port sends the next copy of its safe frame. -/
  | safeFrameRepeat (port : Nat)
  /-- FN_CFG_WRITE (R440): A write of FX_FN_CFG sets a function's ranges, or is refused with ERRCODE. -/
  | fnCfgWrite (who : Agent) (n : Nat) (v : Word)
  /-- FUNCTION_ENABLE (R444): The ENABLE command checks the function and enters ENABLING. -/
  | functionEnable (who : Agent) (n : Nat)
  /-- FUNCTION_ENABLED (R442): ENABLING ends, so the function enters ENABLED and raises its event interrupt. -/
  | functionEnabled (n : Nat)
  /-- FUNCTION_DISABLE (R443): The DISABLE command starts draining the function. -/
  | functionDisable (who : Agent) (n : Nat)
  /-- FUNCTION_RESET (R443): The RESET command bumps GEN and drains the function under the write gate. -/
  | functionReset (who : Agent) (n : Nat)
  /-- FUNCTION_DISABLED (R448): Every queue is disabled and nothing is outstanding, so the function enters DISABLED. -/
  | functionDisabled (n : Nat)
  /-- FUNCTION_STUCK (R450): After 1 ms in DRAINING, STUCK is set and a UC event is reported. -/
  | functionStuck (n : Nat)
  /-- SP_INBOUND_REQUEST (R460): A TLP arrives at the Supervisor Port and is handled by its BAR. -/
  | spInboundRequest (r : SpTlp)
  /-- WINDOW_COMMIT (R463): Writing SP_WCTL.COMMIT fixes a commit boundary and sets BUSY. -/
  | windowCommit (who : Agent)
  /-- WINDOW_COMMIT_DONE (R463): The last old request is handled, so the shadow windows become active. -/
  | windowCommitDone
  /-- SP_LINK_RESET (R465): A link loss, hot reset or FLR clears the host-side state of the function. -/
  | spLinkReset (kind : SpReset)
  /-- SP_PERST (R569): nSPPERST low holds the Supervisor Port function in reset. -/
  | spPerst (level : Bool)
  /-- HOST_DOORBELL (R468): A host write of SP_HDB stores its value and makes INTID 160 pending. -/
  | hostDoorbell (v : Word)
  /-- HINT_SET (R467): Writing SP_HINTSET sets host interrupt bits and signals them. -/
  | hintSet (who : Agent) (v : Word)
  /-- HOST_CONFIG_ACCESS (R466): A host access of SP_HCFGDATA makes one configuration access as agent 0x820. -/
  | hostConfigAccess (write : Bool) (size off : Nat) (v : Word)
  /-- EXPANSION_ROM_READ (R469): A host read of the Expansion ROM returns the option ROM or the Ash view. -/
  | expansionRomRead (off : Nat)
  /-- RP_OUTBOUND_REQUEST (R472): A core access to root-port MMIO is sent as a memory or configuration TLP. -/
  | rpOutboundRequest (k : Nat)
  /-- RP_COMPLETION (R474): A completion returns for an outbound read. -/
  | rpCompletion (k tag : Nat) (status : RpStatus) (data : BitVec 512)
  /-- COMPLETION_TIMEOUT (R475): An outbound read times out and completes with all ones. -/
  | completionTimeout (k : Nat)
  /-- RP_INBOUND_REQUEST (R476): A TLP from a card arrives at a root port and is handled. -/
  | rpInboundRequest (k : Nat) (r : RpTlp)
  /-- PRESENCE_CHANGE (R478): A debounced change of nPRSNT sets Presence Detect Changed. -/
  | presenceChange (k : Nat) (present : Bool)
  /-- ATTENTION_BUTTON (R478): A debounced press of the attention button sets Attention Button Pressed. -/
  | attentionButton (k : Nat)
  /-- SLOT_CONTROL_WRITE (R478): A Slot Control write acts and sets Command Completed. -/
  | slotControlWrite (who : Agent) (k : Nat) (v : Word)
  /-- SURPRISE_DOWN (R479): The link falls unexpectedly, so the port enters containment. -/
  | surpriseDown (k : Nat)
  /-- DPC_TRIGGER (R479): DPC triggers, so the port enters containment with the link disabled. -/
  | dpcTrigger (k : Nat)
  /-- CONTAINMENT_CLEAR (R480): Writing 1 to RP_STAT.CONT ends containment once DPC is cleared. -/
  | containmentClear (who : Agent) (k : Nat)
  /-- FIREBREAK_EVENT (R491): Firebreak takes a source event, records it and applies its reaction code. -/
  | firebreakEvent (src : Nat) (cls : FbClass) (detail : Nat)
  /-- WATCH_EXPIRY (R500): At expiry an ARMED slot applies its stage-2 code and enters ESCALATED. -/
  | watchExpiry (w : Nat)
  /-- WATCH_ACK (R501): An acknowledgement naming SEQ returns the slot to IDLE, or is stale. -/
  | watchAck (who : Agent) (w : Nat) (v : Word)
  /-- PIN_RELEASE (R504): A release naming SEQ releases nERR, or holds it until the minimum ends. -/
  | pinRelease (who : Agent) (v : Word)
  /-- PIN_MIN_END (R504): The minimum pulse ends, so MINDONE is set and a held release takes effect. -/
  | pinMinEnd
  /-- SAFE_REQUEST (R505): Writing FB_CTL.SAFEREQ enters the safe state. -/
  | safeRequest (who : Agent)
  /-- SAFE_NSAFE_ASSERT (R505): 10 µs after entry, nSAFE and nERR are asserted. -/
  | safeNsafeAssert
  /-- SAFE_SELF_REFRESH (R505): A channel finishes its accepted writes and enters self-refresh. -/
  | safeSelfRefresh (k : Nat)
  /-- BACKGROUND_VOTE_CHECK (R508): The background check compares the three copies of the next Firebreak word. -/
  | backgroundVoteCheck (off : Nat) (m0 m1 m2 : Word)
  /-- PARK (R517): The PARK command stops a core and evicts its lines. -/
  | park (who : Agent) (c : Nat)
  /-- PARK_DONE (R517): The Cinder buffer is empty, so the core reads PARKED. -/
  | parkDone (c : Nat)
  /-- RESUME (R516): The RESUME command runs a parked core from its held context. -/
  | resume (who : Agent) (c : Nat)
  /-- START (R516): The START command runs a parked core at CORE_ENTRY in the sealed world at L3. -/
  | start (who : Agent) (c : Nat)
  /-- BIST (R516): The BIST command runs a parked unmapped core's self-test. -/
  | bist (who : Agent) (c : Nat)
  /-- BIST_DONE (R516): The self-test ends in PARKED with a pass or in OFF with a failure. -/
  | bistDone (c : Nat) (pass : Bool)
  /-- POWERON (R516): The POWERON command powers an unmapped OFF core and runs its self-test. -/
  | poweron (who : Agent) (c : Nat)
  /-- POWEROFF (R516): The POWEROFF command turns off a parked unmapped core. -/
  | poweroff (who : Agent) (c : Nat)
  /-- POWER_ON_RESET (R538): VDD_AON rises and the whole module is reset. -/
  | powerOnReset
  /-- SUPPLY_RESET (R538): PWRGOOD falls, so all logic is reset and the key slots are emptied. -/
  | supplyReset
  /-- ISLAND_RESET (R538): nRST held low requests a reset of all logic, the island included. -/
  | islandReset
  /-- CHIP_RESET (R538): A Firebreak code 4 or a request asks for a reset of all logic outside the island. -/
  | chipReset
  /-- RESET_EFFECT (R539): An island or chip reset takes effect once its waits end, recording reset entries. -/
  | resetEffect
  /-- BOOT_SEQUENCE (R540): After reset, Kindling verifies, trains, commits regions and releases the Collier cores. -/
  | bootSequence (b : BootStep)
  /-- MAPCORE (R547): Kindling serves a request to remap an LCN. -/
  | mapcore (c : Nat)
  /-- TWIN (R547): Kindling serves a request to form or dissolve a pair. -/
  | twin (c : Nat)
  /-- QUIETD0 (R547): Kindling writes CFG_QUIET[0][0] on request. -/
  | quietd0 (c : Nat)
  /-- RESET (R547): Kindling serves a request for a chip or island reset. -/
  | reset (c : Nat)
  /-- SAFE (R547): Kindling serves a request to enter the safe state. -/
  | safe (c : Nat)
  /-- STAGE (R548): Kindling verifies an image and writes it into the inactive slot. -/
  | stage (c : Nat)
  /-- ACTIVATE (R548): Kindling hands over to the staged image at its quiescent point. -/
  | activate (c : Nat)
  /-- CONFIRM (R545): Kindling clears the running component's boot-attempt counter. -/
  | confirm (c : Nat)
  /-- DBGREQ (R562): Kindling verifies a debug request and grants or revokes AUTH bits. -/
  | dbgreq (c : Nat)
  /-- SVNRAISE (R547): Kindling raises a component's fused minimum security version. -/
  | svnraise (c : Nat)
  /-- KILN_CONFIRM (R545): A sealed L3 write to SBC_CONFIRM confirms the running Kiln. -/
  | kilnConfirm (who : Agent) (v : Word)
  /-- SBC_RST_CHIP (R565): The SBC's write of SBC_RST requests a chip reset. -/
  | sbcRstChip (who : Agent)
  /-- SBC_RST_ISLAND (R565): The SBC's write of SBC_RST requests an island reset. -/
  | sbcRstIsland (who : Agent)
  /-- JTAG_DEBUG_REQUEST (R562): A debug request written through the SBC's JTAG register is verified by Kindling. -/
  | jtagDebugRequest (bytes : List Byte)
  /-- LEDGER_ENTRY (R549): A logged write is entered into the Ledger SRAM and then takes effect or is refused. -/
  | ledgerEntry
  /-- LEDGER_MIRROR_COPY (R552): The next Ledger entry is copied to the DRAM mirror ring. -/
  | ledgerMirrorCopy
  /-- MIRROR_ABANDON (R552): After a refused copy or a 1 ms wait, the mirror is abandoned. -/
  | mirrorAbandon
  /-- ASH_RECORD_EVENT (R555): The Ash Record writes one queued event into its ring. -/
  | ashRecordEvent
  /-- ASH_FREEZE (R556): Writing ASH_CTL.FREEZE freezes the Ash Record. -/
  | ashFreeze (who : Agent)
  /-- ASH_UNFREEZE (R556): Writing UNFREEZE ends the freeze and clears LOST, or is ignored. -/
  | ashUnfreeze (who : Agent)
  /-- ASH_TRIGGER_FREEZE (R556): POSTCNT events after the trigger event, the Ash Record freezes. -/
  | ashTriggerFreeze
  /-- SOFTWARE_EVENT (R554): Writing ASH_SWEVT records a software event. -/
  | softwareEvent (who : Agent) (v : Word)
  /-- POWER_FAIL_WARNING (R557): After nPFW is held low for 1 µs, the Ash Record freezes and flushes to flash. -/
  | powerFailWarning
  /-- FLUSH_DONE (R557): The completion mark of the power-fail copy is written. -/
  | flushDone
  /-- SETV_WRITE (R580): A write of PWR_RAIL_CTL.SETV sets a VDD_CORE voltage, or is refused. -/
  | setvWrite (who : Agent) (r : Nat) (v : Word)
  /-- RAIL_ON (R580): The ON command powers a VDD_CORE rail at 0.650 V. -/
  | railOn (who : Agent) (r : Nat)
  /-- RAIL_OFF (R580): The OFF command turns off a fully fenced die's rail. -/
  | railOff (who : Agent) (r : Nat)
  /-- RAIL_SAMPLE (R572): Each microsecond the rails are sampled and out-of-limit rails are reported. -/
  | railSample (r mv ma : Nat)
  /-- TEMP_SAMPLE (R581): Every 10 µs the temperature is updated and checked against TWARN and TCRIT. -/
  | tempSample (s : Nat) (temp : Int)
  /-- PMBUS_ALERT (R576): PMB_ALERTn falls, so STATUS_WORD of every rail is read. -/
  | pmbusAlert
  /-- FIELD_REFCLK_LOSS (R578): Loss of a field reference takes down the links of its sixteen ports. -/
  | fieldRefclkLoss (east : Bool)
  /-- RP_LINK_UP (R478): A root port's link finishes training and Data Link Layer Link Active rises, setting Data Link Layer State Changed and raising the hot-plug interrupt. -/
  | rpLinkUp (k : Nat)
  /-- SP_LINK_UP (R485): The Supervisor Port link comes up, so SP_STAT.LINK reads 1 and EVT is set. -/
  | spLinkUp (width speed : Nat)
  /-- CHANNEL_RETRAIN (R528): Retraining of a failed memory channel completes and MC_CFG.TRAINED reads 1, which makes REJOIN acceptable. -/
  | channelRetrain (k : Nat) (pass : Bool)
  deriving DecidableEq, Repr

end Sys2Proof
end

