-- ==== Sys2Proof/Decode.lean ====
section
/-! DEFINITION. The decoder of the opcode table, and that of the words of Rhali. The table gives its rows no bits: commands
reach the module as register accesses, messages and events, so no word of the table's kind spells one. The core rows have an
encoding of another kind: the 32-bit word that a core executes (R54, R55), which `rhaliInstr` reads. -/

namespace Sys2Proof

/-- The command that a word of the opcode table spells: none, since no row of the table has bits. -/
def decodeTableWord (_nbits _w : Nat) : Option Instr := none

/-! Words of Rhali (R54): their fields. -/

/-- The register number at a bit. -/
def rhReg (w : BitVec 32) (lo : Nat) : RegNo := BitVec.ofNat 5 (bits w.toNat lo 5)
def rhRd (w : BitVec 32) : RegNo := rhReg w 21
def rhRa (w : BitVec 32) : RegNo := rhReg w 16
def rhRb (w : BitVec 32) : RegNo := rhReg w 11
def rhMajor (w : BitVec 32) : Nat := bits w.toNat 26 6
def rhImm (w : BitVec 32) : BitVec 16 := BitVec.ofNat 16 w.toNat

/-- A word of a major that is reserved or permanently illegal (R55, R56): the illegal form of a row without sub-operations. -/
def rhIllegal (p : Nat) : Instr := .addi p 0 0 0 true

/-- Major 0x01, ALU (R58). -/
def rhAlu (p : Nat) (w : BitVec 32) : Instr :=
  let rd := rhRd w
  let ra := rhRa w
  let rb := rhRb w
  match bits w.toNat 0 11 with
  | 0x000 => .add p rd ra rb false
  | 0x001 => .sub p rd ra rb
  | 0x002 => .and p rd ra rb
  | 0x003 => .or p rd ra rb
  | 0x004 => .xor p rd ra rb
  | 0x005 => .andn p rd ra rb
  | 0x006 => .orn p rd ra rb
  | 0x008 => .sll p rd ra rb
  | 0x009 => .srl p rd ra rb
  | 0x00A => .sra p rd ra rb
  | 0x00B => .ror p rd ra rb
  | 0x00C => .slt p rd ra rb
  | 0x00D => .sltu p rd ra rb
  | 0x00E => .min p rd ra rb
  | 0x00F => .max p rd ra rb
  | 0x010 => .addw p rd ra rb
  | 0x011 => .subw p rd ra rb
  | 0x018 => .sllw p rd ra rb
  | 0x019 => .srlw p rd ra rb
  | 0x01A => .sraw p rd ra rb
  | 0x020 => .clz p rd ra rb
  | 0x021 => .ctz p rd ra rb
  | 0x022 => .popc p rd ra rb
  | 0x023 => .bswap p rd ra rb
  | 0x024 => .sextb p rd ra rb
  | 0x025 => .sexth p rd ra rb
  | 0x026 => .sextw p rd ra rb
  | _ => .add p rd ra rb true

/-- Major 0x0A, SHI (R59). -/
def rhShi (p : Nat) (w : BitVec 32) : Instr :=
  let rd := rhRd w
  let ra := rhRa w
  let imm := rhImm w
  match bits w.toNat 12 4 with
  | 0x0 => .slli p rd ra imm false
  | 0x1 => .srli p rd ra imm
  | 0x2 => .srai p rd ra imm
  | 0x3 => .rori p rd ra imm
  | 0x4 => .slliw p rd ra imm
  | 0x5 => .srliw p rd ra imm
  | 0x6 => .sraiw p rd ra imm
  | _ => .slli p rd ra imm true

/-- Major 0x0B, MUL (R60). -/
def rhMul (p : Nat) (w : BitVec 32) : Instr :=
  let rd := rhRd w
  let ra := rhRa w
  let rb := rhRb w
  match bits w.toNat 0 11 with
  | 0 => .mlo p rd ra rb false
  | 1 => .mlow p rd ra rb
  | 2 => .mhuu p rd ra rb
  | 3 => .mhss p rd ra rb
  | 4 => .mhsu p rd ra rb
  | _ => .mlo p rd ra rb true

/-- Major 0x0C, DIV (R61). -/
def rhDiv (p : Nat) (w : BitVec 32) : Instr :=
  let rd := rhRd w
  let ra := rhRa w
  let rb := rhRb w
  match bits w.toNat 0 11 with
  | 0 => .div p rd ra rb false
  | 1 => .divu p rd ra rb
  | 2 => .rem p rd ra rb
  | 3 => .remu p rd ra rb
  | 4 => .divw p rd ra rb
  | 5 => .divuw p rd ra rb
  | 6 => .remw p rd ra rb
  | 7 => .remuw p rd ra rb
  | _ => .div p rd ra rb true

/-- Major 0x2A, JMP (R67): func[9:0] selects the form, func[10] is the A bit. -/
def rhJmp (p : Nat) (w : BitVec 32) : Instr :=
  let rd := rhRd w
  let ra := rhRa w
  let rb := rhRb w
  let a := w.getLsbD 10
  match bits w.toNat 0 10 with
  | 0 => .jr p rd ra rb a false
  | 1 => .jalr p rd ra rb a
  | 2 => .ret p rd ra rb a
  | _ => .jr p rd ra rb a true

/-- Major 0x2C, MEMX (R75). -/
def rhMemx (p : Nat) (w : BitVec 32) : Instr :=
  let rd := rhRd w
  let ra := rhRa w
  let rb := rhRb w
  let sz := BitVec.ofNat 2 (bits w.toNat 4 2)
  let q := w.getLsbD 3
  let r := w.getLsbD 2
  let v := BitVec.ofNat 2 (bits w.toNat 0 2)
  match bits w.toNat 6 5 with
  | 0x00 => .lda p rd ra rb sz q r v .none false
  | 0x01 => .stl p rd ra rb sz q r v
  | 0x02 => .ldx p rd ra rb sz q r v .none
  | 0x03 => .stx p rd ra rb sz q r v .none
  | 0x04 => .atswp p rd ra rb sz q r v .none
  | 0x05 => .atadd p rd ra rb sz q r v .none false
  | 0x06 => .atclr p rd ra rb sz q r v .none
  | 0x07 => .atset p rd ra rb sz q r v .none
  | 0x08 => .atflp p rd ra rb sz q r v .none
  | 0x09 => .atsmax p rd ra rb sz q r v .none
  | 0x0A => .atsmin p rd ra rb sz q r v .none
  | 0x0B => .atumax p rd ra rb sz q r v .none
  | 0x0C => .atumin p rd ra rb sz q r v .none
  | 0x0D => .atcas p rd ra rb sz q r v .none
  | _ => .lda p rd ra rb sz q r v .none true

/-- Major 0x2D, BLK (R79). -/
def rhBlk (p : Nat) (w : BitVec 32) : Instr :=
  match bits w.toNat 0 11 with
  | 0 => .bcopy p (rhRd w) (rhRa w) (rhRb w) .none false
  | 1 => .bfill p (rhRd w) (rhRa w) (rhRb w)
  | _ => .bcopy p (rhRd w) (rhRa w) (rhRb w) .none true

/-- Major 0x2E, CMO (R235, R238). -/
def rhCmo (p : Nat) (w : BitVec 32) : Instr :=
  let rd := rhRd w
  let ra := rhRa w
  let rb := rhRb w
  match bits w.toNat 0 11 with
  | 0x000 => .dcleanP p rd ra rb
  | 0x001 => .dinvP p rd ra rb
  | 0x002 => .dclinvP p rd ra rb
  | 0x004 => .dcleanM p rd ra rb
  | 0x005 => .dinvM p rd ra rb
  | 0x006 => .dclinvM p rd ra rb
  | 0x008 => .dzero p rd ra rb false
  | 0x009 => .prefr p rd ra rb
  | 0x00A => .prefw p rd ra rb
  | 0x010 => .rcleanP p rd ra rb
  | 0x011 => .rinvP p rd ra rb
  | 0x012 => .rclinvP p rd ra rb
  | 0x014 => .rcleanM p rd ra rb
  | 0x015 => .rinvM p rd ra rb
  | 0x016 => .rclinvM p rd ra rb
  | 0x018 => .rstat p rd ra rb
  | 0x019 => .rabort p rd ra rb
  | _ => .dzero p rd ra rb true

/-- Major 0x2F, TLBM (R202): func[8] is `BC`, func[10:9] are 0. -/
def rhTlbm (p : Nat) (w : BitVec 32) : Instr :=
  let rd := rhRd w
  let ra := rhRa w
  let rb := rhRb w
  let bc := w.getLsbD 8
  if bits w.toNat 9 2 ≠ 0 then .tlbiva p rd ra rb bc true
  else
    match bits w.toNat 0 8 with
    | 0x00 => .tlbiva p rd ra rb bc false
    | 0x01 => .tlbivaa p rd ra rb bc
    | 0x02 => .tlbiasid p rd ra rb bc
    | 0x03 => .tlbivmall p rd ra rb bc
    | 0x10 => .tlbivmid p rd ra rb bc
    | 0x12 => .tlbihva p rd ra rb bc
    | 0x13 => .tlbihall p rd ra rb bc
    | 0x20 => .tlbiworld p rd ra rb bc
    | 0x30 => .tlbsync p rd ra rb bc
    | _ => .tlbiva p rd ra rb bc true

/-- Major 0x30, FP (R84). -/
def rhFp (p : Nat) (w : BitVec 32) : Instr :=
  let d := rhRd w
  let a := rhRa w
  let b := rhRb w
  let z := BitVec.ofNat 2 (bits w.toNat 9 2)
  match bits w.toNat 0 9 with
  | 0x000 => .fadd p d a b z false
  | 0x001 => .fsub p d a b z
  | 0x002 => .fmul p d a b z
  | 0x003 => .fdiv p d a b z
  | 0x004 => .fsqrt p d a b z
  | 0x005 => .fmin p d a b z
  | 0x006 => .fmax p d a b z
  | 0x008 => .fneg p d a b z
  | 0x009 => .fabs p d a b z
  | 0x00A => .fcpys p d a b z
  | 0x010 => .fcmpeq p d a b z
  | 0x011 => .fcmplt p d a b z
  | 0x012 => .fcmple p d a b z
  | 0x013 => .fkind p d a b z
  | 0x014 => .fcmpun p d a b z
  | 0x020 => .fcvtf p d a b z
  | 0x021 => .fcvtgs p d a b z
  | 0x022 => .fcvtgu p d a b z
  | 0x023 => .fcvtfs p d a b z
  | 0x024 => .fcvtfu p d a b z
  | 0x030 => .fmvgf p d a b z
  | 0x031 => .fmvfg p d a b z
  | _ => .fadd p d a b z true

/-- Major 0x31, SIMD (R87). -/
def rhSimd (p : Nat) (w : BitVec 32) : Instr :=
  let d := rhRd w
  let a := rhRa w
  let b := rhRb w
  let z := BitVec.ofNat 2 (bits w.toNat 9 2)
  match bits w.toNat 0 9 with
  | 0x000 => .vadd p d a b z false
  | 0x001 => .vsub p d a b z
  | 0x002 => .vmul p d a b z
  | 0x003 => .vmins p d a b z
  | 0x004 => .vminu p d a b z
  | 0x005 => .vmaxs p d a b z
  | 0x006 => .vmaxu p d a b z
  | 0x007 => .vsll p d a b z
  | 0x008 => .vsrl p d a b z
  | 0x009 => .vsra p d a b z
  | 0x00A => .vaddss p d a b z
  | 0x00B => .vaddus p d a b z
  | 0x010 => .vand p d a b z
  | 0x011 => .vor p d a b z
  | 0x012 => .vxor p d a b z
  | 0x013 => .vandn p d a b z
  | 0x020 => .vceq p d a b z
  | 0x021 => .vcgts p d a b z
  | 0x022 => .vcgtu p d a b z
  | 0x040 => .vfadd p d a b z
  | 0x041 => .vfsub p d a b z
  | 0x042 => .vfmul p d a b z
  | 0x043 => .vfdiv p d a b z
  | 0x044 => .vfmin p d a b z
  | 0x045 => .vfmax p d a b z
  | 0x046 => .vfceq p d a b z
  | 0x047 => .vfclt p d a b z
  | 0x060 => .vzipl p d a b z
  | 0x061 => .vziph p d a b z
  | 0x062 => .vuzpe p d a b z
  | 0x063 => .vuzpo p d a b z
  | 0x064 => .vtbl p d a b z
  | 0x070 => .vdupg p d a b z
  | 0x071 => .vmovgl p d a b z
  | 0x072 => .vinsg p d a b z
  | _ => .vadd p d a b z true

/-- Major 0x32, FMA (R86). -/
def rhFma (p : Nat) (w : BitVec 32) : Instr :=
  let c := rhReg w 6
  let z := BitVec.ofNat 2 (bits w.toNat 4 2)
  let v := BitVec.ofNat 2 (bits w.toNat 0 2)
  match bits w.toNat 2 2 with
  | 0 => .fmadd p (rhRd w) (rhRa w) (rhRb w) c z v false
  | 1 => .fmsub p (rhRd w) (rhRa w) (rhRb w) c z v
  | 2 => .fnmsub p (rhRd w) (rhRa w) (rhRb w) c z v
  | _ => .fnmadd p (rhRd w) (rhRa w) (rhRb w) c z v

/-- Major 0x38, SYS (R93). -/
def rhSys (p : Nat) (w : BitVec 32) : Instr :=
  let imm := rhImm w
  let v := BitVec.ofNat 4 (bits w.toNat 16 4)
  match bits w.toNat 20 6 with
  | 1 => .fence p imm v false
  | 2 => .csync p imm v
  | 3 => .isync p imm v
  | 4 => .clrex p imm v
  | 5 => .wfi p imm v
  | 6 => .brk p imm v
  | 7 => .shield p imm v
  | _ => .fence p imm v true

/-- Major 0x39, CR (R89, R91). -/
def rhCr (p : Nat) (w : BitVec 32) : Instr :=
  let crn := BitVec.ofNat 12 w.toNat
  match bits w.toNat 12 4 with
  | 0 => .mfc p (rhRd w) (rhRa w) crn false
  | 1 => .mtc p (rhRd w) (rhRa w) crn
  | 2 => .mfco p (rhRd w) (rhRa w) crn
  | 3 => .mtco p (rhRd w) (rhRa w) crn
  | _ => .mfc p (rhRd w) (rhRa w) crn true

/-- Major 0x3A, PRIV (R99). -/
def rhPriv (p : Nat) (w : BitVec 32) : Instr :=
  let imm := rhImm w
  let v := BitVec.ofNat 4 (bits w.toNat 16 4)
  match bits w.toNat 20 6 with
  | 0 => .gcall p imm v
  | 1 => .gret p imm v
  | 2 => .kcall p imm v false
  | 3 => .eret p imm v
  | 4 => .gate p imm v false
  | _ => .kcall p imm v true

/-- A branch (R67): its T and A bits and its displacement. -/
def rhBranch (w : BitVec 32) (f : RegNo → RegNo → Bool → Bool → BitVec 14 → Instr) : Instr :=
  f (rhRd w) (rhRa w) (w.getLsbD 15) (w.getLsbD 14) (BitVec.ofNat 14 w.toNat)

/-- The command that a word of Rhali spells for core `p` (R54, R55). Every word spells one: an illegal word spells a command
whose effect is the illegal-instruction exception (R56). -/
def rhaliInstr (p : Nat) (w : BitVec 32) : Instr :=
  let rd := rhRd w
  let ra := rhRa w
  let imm := rhImm w
  match rhMajor w with
  | 0x01 => rhAlu p w
  | 0x02 => .addi p rd ra imm false
  | 0x03 => .andi p rd ra imm
  | 0x04 => .ori p rd ra imm
  | 0x05 => .xori p rd ra imm
  | 0x06 => .slti p rd ra imm
  | 0x07 => .sltiu p rd ra imm
  | 0x08 => .lui p rd ra imm
  | 0x09 => .addpci p rd ra imm
  | 0x0A => rhShi p w
  | 0x0B => rhMul p w
  | 0x0C => rhDiv p w
  | 0x10 => .ldb p rd ra imm .none
  | 0x11 => .ldbu p rd ra imm .none
  | 0x12 => .ldh p rd ra imm .none
  | 0x13 => .ldhu p rd ra imm .none
  | 0x14 => .ldw p rd ra imm .none
  | 0x15 => .ldwu p rd ra imm .none
  | 0x16 => .ldd p rd ra imm .none false
  | 0x18 => .stb p rd ra imm
  | 0x19 => .sth p rd ra imm
  | 0x1A => .stw p rd ra imm
  | 0x1B => .std p rd ra imm false
  | 0x1C => .fld p rd ra (BitVec.ofNat 2 (bits w.toNat 14 2)) (BitVec.ofNat 14 w.toNat) .none false
  | 0x1D => .fst p rd ra (BitVec.ofNat 2 (bits w.toNat 14 2)) (BitVec.ofNat 14 w.toNat)
  | 0x20 => rhBranch w (fun a b t n d => .beq p a b t n d false)
  | 0x21 => rhBranch w (.bne p)
  | 0x22 => rhBranch w (.blt p)
  | 0x23 => rhBranch w (.bge p)
  | 0x24 => rhBranch w (.bltu p)
  | 0x25 => rhBranch w (.bgeu p)
  | 0x28 => .j p (w.getLsbD 25) (BitVec.ofNat 25 w.toNat) false
  | 0x29 => .jal p (w.getLsbD 25) (BitVec.ofNat 25 w.toNat)
  | 0x2A => rhJmp p w
  | 0x2C => rhMemx p w
  | 0x2D => rhBlk p w
  | 0x2E => rhCmo p w
  | 0x2F => rhTlbm p w
  | 0x30 => rhFp p w
  | 0x31 => rhSimd p w
  | 0x32 => rhFma p w
  | 0x38 => rhSys p w
  | 0x39 => rhCr p w
  | 0x3A => rhPriv p w
  | 0x3B => .gatemark p (w != 0xEC5AA5C3#32)
  | _ => rhIllegal p

end Sys2Proof
end

