-- ==== Sys2Proof/Machine/RegMap.lean ====
section
/-! DEFINITION. The register maps of the spec: every register by name, its fields with their Type codes
(R6), the values a field admits (R10), and its reset value. A Reset entry X of the spec is 0 here
(DESIGN CHOICE, log entry 2). -/

namespace Sys2Proof.Machine

/-- A register of the spec's register maps: configuration registers (R5) and core control registers (R90). -/
inductive RegName where
  | sel  -- SEL (R42)
  | cfgIdent  -- CFG_IDENT (R47)
  | cfgSparepool  -- CFG_SPAREPOOL (R47)
  | cfgLcnmap  -- CFG_LCNMAP (R47)
  | clkPll  -- CLK_PLL (R48)
  | clkCt  -- CLK_CT (R48)
  | clkCtadj  -- CLK_CTADJ (R48)
  | clkCtstep  -- CLK_CTSTEP (R48)
  | clkTilediv  -- CLK_TILEDIV (R48)
  | fpsr  -- FPSR (R88)
  | isaver  -- ISAVER (R92)
  | coreid  -- COREID (R92)
  | specctl  -- SPECCTL (R123)
  | cycle  -- CYCLE (R137)
  | instret  -- INSTRET (R137)
  | vtb  -- VTB (R143)
  | epc  -- EPC (R150)
  | estat  -- ESTAT (R151)
  | eaddr  -- EADDR (R152)
  | shmax  -- SHMAX (R156)
  | gtb  -- GTB (R162)
  | idistSrcCfg  -- IDIST_SRC_CFG (R170)
  | idistSrcState  -- IDIST_SRC_STATE (R171)
  | idistTgtCfg  -- IDIST_TGT_CFG (R173)
  | idistTgtStat  -- IDIST_TGT_STAT (R173)
  | idistPmr  -- IDIST_PMR (R176)
  | idistAck  -- IDIST_ACK (R176)
  | idistHppi  -- IDIST_HPPI (R176)
  | idistEoi  -- IDIST_EOI (R176)
  | idistRpr  -- IDIST_RPR (R176)
  | idistSgi  -- IDIST_SGI (R176)
  | idistPriv  -- IDIST_PRIV (R176)
  | idistTmrcmp  -- IDIST_TMRCMP (R176)
  | idistStat  -- IDIST_STAT (R176)
  | s1tb  -- S1TB (R186)
  | htb  -- HTB (R186)
  | s1ctl  -- S1CTL (R186)
  | hctl  -- HCTL (R186)
  | s2ctl  -- S2CTL (R186)
  | s2tb  -- S2TB (R186)
  | s2fipa  -- S2FIPA (R186)
  | iotuSte  -- IOTU_STE (R212)
  | iotuCtxCfg  -- IOTU_CTX_CFG (R212)
  | iotuCtxInv  -- IOTU_CTX_INV (R212)
  | iotuCtxInvstat  -- IOTU_CTX_INVSTAT (R212)
  | iotuCtxFault  -- IOTU_CTX_FAULT (R212)
  | iotuCtxFaddr  -- IOTU_CTX_FADDR (R212)
  | peatcfg  -- PEATCFG (R224)
  | rstat  -- RSTAT (R241)
  | slBkt  -- SL_BKT (R322)
  | slWmask  -- SL_WMASK (R322)
  | slCtl  -- SL_CTL (R322)
  | slHqcfg  -- SL_HQCFG (R322)
  | slErr  -- SL_ERR (R322)
  | meshEpoch  -- MESH_EPOCH (R323)
  | meshRt  -- MESH_RT (R323)
  | meshSlot  -- MESH_SLOT (R323)
  | meshPort  -- MESH_PORT (R323)
  | meshLink  -- MESH_LINK (R323)
  | meshStat  -- MESH_STAT (R323)
  | mcIlv  -- MC_ILV (R348)
  | mcKeyslot  -- MC_KEYSLOT (R348)
  | mcCfg  -- MC_CFG (R348)
  | mcStat  -- MC_STAT (R348)
  | mcScrub  -- MC_SCRUB (R348)
  | mcSpare  -- MC_SPARE (R348)
  | mcErr  -- MC_ERR (R348)
  | mcTiming  -- MC_TIMING (R348)
  | mcBwres  -- MC_BWRES (R348)
  | mgCtl  -- MG_CTL (R349)
  | mgFault  -- MG_FAULT (R349)
  | mgFaddr  -- MG_FADDR (R349)
  | mgRgnBase  -- MG_RGN_BASE (R349)
  | mgRgnLimit  -- MG_RGN_LIMIT (R349)
  | mgRgnDom  -- MG_RGN_DOM (R349)
  | ceiling  -- CEILING (R352)
  | domid  -- DOMID (R352)
  | kctl  -- KCTL (R353)
  | kgwb  -- KGWB (R353)
  | kgwl  -- KGWL (R353)
  | sbcClaimTile  -- SBC_CLAIM_TILE (R369)
  | sbcClaimFn  -- SBC_CLAIM_FN (R369)
  | sbcClaimMc  -- SBC_CLAIM_MC (R369)
  | sbcClaimKey  -- SBC_CLAIM_KEY (R369)
  | sbcClaimStat  -- SBC_CLAIM_STAT (R369)
  | coreDbgen  -- CORE_DBGEN (R372)
  | cfgTwin  -- CFG_TWIN (R389)
  | cfgTwstat  -- CFG_TWSTAT (R389)
  | cfgTwpc  -- CFG_TWPC (R389)
  | cfgQuiet  -- CFG_QUIET (R390)
  | fxClsProf  -- FX_CLS_PROF (R437)
  | fxPortCfg  -- FX_PORT_CFG (R437)
  | fxPortStat  -- FX_PORT_STAT (R437)
  | fxPortCnt  -- FX_PORT_CNT (R437)
  | fxQbvCtl  -- FX_QBV_CTL (R437)
  | fxQbvBase  -- FX_QBV_BASE (R437)
  | fxQbvCycle  -- FX_QBV_CYCLE (R437)
  | fxQbvEnt  -- FX_QBV_ENT (R437)
  | fxPsafeCtl  -- FX_PSAFE_CTL (R437)
  | fxPsafeData  -- FX_PSAFE_DATA (R437)
  | fxQCfg  -- FX_Q_CFG (R437)
  | fxQDbase  -- FX_Q_DBASE (R437)
  | fxQCbase  -- FX_Q_CBASE (R437)
  | fxQCtl  -- FX_Q_CTL (R437)
  | fxQPtr  -- FX_Q_PTR (R437)
  | fxQHdr  -- FX_Q_HDR (R437)
  | fxQErr  -- FX_Q_ERR (R437)
  | fxClsKey0  -- FX_CLS_KEY0 (R437)
  | fxClsKey1  -- FX_CLS_KEY1 (R437)
  | fxClsAct  -- FX_CLS_ACT (R437)
  | fxFnCfg  -- FX_FN_CFG (R456)
  | fxFnCtl  -- FX_FN_CTL (R456)
  | fxFnStat  -- FX_FN_STAT (R456)
  | fxFnPend  -- FX_FN_PEND (R456)
  | spCtl  -- SP_CTL (R485)
  | spStat  -- SP_STAT (R485)
  | spWctl  -- SP_WCTL (R485)
  | spHdbval  -- SP_HDBVAL (R485)
  | spHintset  -- SP_HINTSET (R485)
  | spWstat  -- SP_WSTAT (R485)
  | spWinCfg  -- SP_WIN_CFG (R485)
  | spWinTgt  -- SP_WIN_TGT (R485)
  | rpBifur  -- RP_BIFUR (R487)
  | rpCtl  -- RP_CTL (R487)
  | rpStat  -- RP_STAT (R487)
  | rpMsi  -- RP_MSI (R487)
  | rpMsiaddr  -- RP_MSIADDR (R487)
  | fbCtl  -- FB_CTL (R513)
  | fbStat  -- FB_STAT (R513)
  | fbPin  -- FB_PIN (R513)
  | fbPinmin  -- FB_PINMIN (R513)
  | fbIpend  -- FB_IPEND (R513)
  | fbWatchCfg  -- FB_WATCH_CFG (R513)
  | fbWatchStat  -- FB_WATCH_STAT (R513)
  | fbSrcCfg  -- FB_SRC_CFG (R514)
  | fbSrcStat  -- FB_SRC_STAT (R514)
  | fbSrcLast  -- FB_SRC_LAST (R514)
  | fbSrcDet  -- FB_SRC_DET (R514)
  | coreCtl  -- CORE_CTL (R537)
  | coreStat  -- CORE_STAT (R537)
  | coreEntry  -- CORE_ENTRY (R537)
  | sbcStat  -- SBC_STAT (R565)
  | sbcRst  -- SBC_RST (R565)
  | sbcConfirm  -- SBC_CONFIRM (R565)
  | sbcDbgnonce  -- SBC_DBGNONCE (R565)
  | sbcCapop  -- SBC_CAPOP (R565)
  | sbcCaparg  -- SBC_CAPARG (R565)
  | sbcCapval  -- SBC_CAPVAL (R565)
  | sbcCapstat  -- SBC_CAPSTAT (R565)
  | ledgCtl  -- LEDG_CTL (R566)
  | ledgHead  -- LEDG_HEAD (R566)
  | ledgMseq  -- LEDG_MSEQ (R566)
  | ledgStat  -- LEDG_STAT (R566)
  | ashCtl  -- ASH_CTL (R567)
  | ashStat  -- ASH_STAT (R567)
  | ashHead  -- ASH_HEAD (R567)
  | ashSwevt  -- ASH_SWEVT (R567)
  | pwrTherm  -- PWR_THERM (R579)
  | pwrRailCtl  -- PWR_RAIL_CTL (R579)
  | pwrRailStat  -- PWR_RAIL_STAT (R579)
  | pwrTemp  -- PWR_TEMP (R579)
  | spHid  -- SP_HID (R486)
  | spHdb  -- SP_HDB (R486)
  | spHint  -- SP_HINT (R486)
  | spHintmask  -- SP_HINTMASK (R486)
  | spHcfgaddr  -- SP_HCFGADDR (R486)
  | spHcfgdata  -- SP_HCFGDATA (R486)
  | spHcfgstat  -- SP_HCFGSTAT (R486)
  | spHashsel  -- SP_HASHSEL (R486)
  | tpid  -- TPID (R90)
  | escr  -- ESCR (R90)
  | iotuCtxS1tb  -- IOTU_CTX_S1TB (R212)
  | iotuCtxS2tb  -- IOTU_CTX_S2TB (R212)
  deriving DecidableEq, Repr

/-- One register of the module: its name, its unit (core, slice, router, channel, port, ...) and its place
within that unit. -/
structure Reg where
  name : RegName
  i : Nat := 0
  j : Nat := 0
  deriving DecidableEq, Repr

/-- The Type codes of R6. -/
inductive FType where
  | rw | ro | w1c | w1s | wo | rwl | rws
  deriving DecidableEq, Repr

/-- One field of a register map: lowest bit, width, Type code, and the least and greatest defined encoding. -/
structure Fld where
  lo : Nat
  w : Nat
  ty : FType
  min : Nat
  max : Nat
  deriving DecidableEq, Repr

/-! `SEL` (R42) -/
def sel_INDEX : Fld := ⟨0, 16, .rw, 0, 65535⟩
def sel_KIND : Fld := ⟨16, 4, .rw, 0, 15⟩
def sel_SEL_STATUS : Fld := ⟨60, 3, .ro, 0, 7⟩
def sel_SEL_VALID : Fld := ⟨63, 1, .ro, 0, 1⟩
/-! `CFG_IDENT` (R47) -/
def cfgIdent_STEP : Fld := ⟨0, 8, .ro, 0, 255⟩
def cfgIdent_PART : Fld := ⟨8, 16, .ro, 0, 65535⟩
def cfgIdent_VENDOR : Fld := ⟨24, 8, .ro, 0, 255⟩
/-! `CFG_SPAREPOOL` (R47) -/
def cfgSparepool_POOL : Fld := ⟨0, 64, .ro, 0, 18446744073709551615⟩
/-! `CFG_LCNMAP[n]` (R47) -/
def cfgLcnmap_PCN : Fld := ⟨0, 11, .rws, 0, 2047⟩
def cfgLcnmap_ERR : Fld := ⟨62, 1, .w1c, 0, 1⟩
def cfgLcnmap_PARKED : Fld := ⟨63, 1, .ro, 0, 1⟩
/-! `CLK_PLL` (R48) -/
def clkPll_LOCK : Fld := ⟨0, 1, .ro, 0, 1⟩
def clkPll_UNLOCKED : Fld := ⟨1, 1, .w1c, 0, 1⟩
/-! `CLK_CT` (R48) -/
def clkCt_CT : Fld := ⟨0, 64, .ro, 0, 18446744073709551615⟩
/-! `CLK_CTADJ` (R48) -/
def clkCtadj_ADJ : Fld := ⟨0, 32, .rws, 0, 4294967295⟩
/-! `CLK_CTSTEP` (R48) -/
def clkCtstep_STEP : Fld := ⟨0, 64, .rws, 0, 18446744073709551615⟩
/-! `CLK_TILEDIV[i]` (R48) -/
def clkTilediv_DIV : Fld := ⟨0, 2, .rw, 0, 3⟩
def clkTilediv_PENDING : Fld := ⟨2, 1, .ro, 0, 1⟩
def clkTilediv_STATUS : Fld := ⟨3, 2, .ro, 0, 3⟩
/-! `FPSR` (R88) -/
def fpsr_NX : Fld := ⟨0, 1, .rw, 0, 1⟩
def fpsr_UF : Fld := ⟨1, 1, .rw, 0, 1⟩
def fpsr_OF : Fld := ⟨2, 1, .rw, 0, 1⟩
def fpsr_DZ : Fld := ⟨3, 1, .rw, 0, 1⟩
def fpsr_NV : Fld := ⟨4, 1, .rw, 0, 1⟩
def fpsr_RM : Fld := ⟨5, 2, .rw, 0, 3⟩
/-! `ISAVER` (R92) -/
def isaver_MAJOR : Fld := ⟨0, 8, .ro, 0, 255⟩
def isaver_MINOR : Fld := ⟨8, 8, .ro, 0, 255⟩
/-! `COREID` (R92) -/
def coreid_LCN : Fld := ⟨0, 10, .ro, 0, 1023⟩
def coreid_PCN : Fld := ⟨16, 11, .ro, 0, 2047⟩
def coreid_TWIN : Fld := ⟨27, 1, .ro, 0, 1⟩
def coreid_CCN : Fld := ⟨28, 2, .ro, 0, 3⟩
def coreid_COLLIER : Fld := ⟨31, 1, .ro, 0, 1⟩
/-! `SPECCTL` (R123) -/
def specctl_NOSPEC : Fld := ⟨0, 1, .rw, 0, 1⟩
def specctl_PFLUSH : Fld := ⟨8, 1, .wo, 0, 1⟩
def specctl_NOSPEC_EFF : Fld := ⟨16, 1, .ro, 0, 1⟩
/-! `CYCLE` (R137) -/
def cycle_COUNT : Fld := ⟨0, 64, .ro, 0, 18446744073709551615⟩
/-! `INSTRET` (R137) -/
def instret_COUNT : Fld := ⟨0, 64, .ro, 0, 18446744073709551615⟩
/-! `VTB` (R143) -/
def vtb_BASE : Fld := ⟨9, 39, .rw, 0, 549755813887⟩
/-! `EPC` (R150) -/
def epc_PC : Fld := ⟨2, 46, .rw, 0, 70368744177663⟩
/-! `ESTAT` (R151) -/
def estat_CAUSE : Fld := ⟨0, 6, .rw, 0, 63⟩
def estat_PLEVEL : Fld := ⟨6, 2, .rw, 0, 3⟩
def estat_PWORLD : Fld := ⟨8, 1, .rw, 0, 1⟩
def estat_PIE : Fld := ⟨9, 1, .rw, 0, 1⟩
def estat_IE : Fld := ⟨10, 1, .rw, 0, 1⟩
def estat_DS : Fld := ⟨11, 1, .rw, 0, 1⟩
def estat_NMI : Fld := ⟨12, 1, .rw, 0, 1⟩
def estat_NMIACT : Fld := ⟨13, 1, .w1c, 0, 1⟩
def estat_INFO : Fld := ⟨16, 16, .rw, 0, 65535⟩
def estat_ACC : Fld := ⟨32, 4, .rw, 0, 9⟩
def estat_GDL0 : Fld := ⟨40, 8, .rw, 0, 255⟩
def estat_GDL1 : Fld := ⟨48, 8, .rw, 0, 255⟩
/-! `EADDR` (R152) -/
def eaddr_ADDR : Fld := ⟨0, 48, .rw, 0, 281474976710655⟩
/-! `SHMAX` (R156) -/
def shmax_MAX : Fld := ⟨0, 16, .rw, 0, 65535⟩
/-! `GTB` (R162) -/
def gtb_EN : Fld := ⟨0, 1, .rw, 0, 1⟩
def gtb_BASE : Fld := ⟨5, 43, .rw, 0, 8796093022207⟩
def gtb_LAST : Fld := ⟨48, 16, .rw, 0, 65535⟩
/-! `IDIST_SRC_CFG` (R170) -/
def idistSrcCfg_TGT : Fld := ⟨0, 11, .rw, 0, 1027⟩
def idistSrcCfg_PRIO : Fld := ⟨12, 4, .rw, 0, 15⟩
def idistSrcCfg_TLEVEL : Fld := ⟨16, 2, .rw, 1, 3⟩
def idistSrcCfg_EDGE : Fld := ⟨18, 1, .ro, 0, 1⟩
def idistSrcCfg_EN : Fld := ⟨19, 1, .rw, 0, 1⟩
def idistSrcCfg_WORLD : Fld := ⟨20, 1, .rws, 0, 1⟩
def idistSrcCfg_DOMAIN : Fld := ⟨22, 6, .rws, 0, 63⟩
/-! `IDIST_SRC_STATE` (R171) -/
def idistSrcState_PEND : Fld := ⟨0, 1, .ro, 0, 1⟩
def idistSrcState_ACTIVE : Fld := ⟨1, 1, .ro, 0, 1⟩
def idistSrcState_LINE : Fld := ⟨2, 1, .ro, 0, 1⟩
def idistSrcState_SETPEND : Fld := ⟨3, 1, .wo, 0, 1⟩
def idistSrcState_CLRPEND : Fld := ⟨4, 1, .wo, 0, 1⟩
def idistSrcState_ACTTGT : Fld := ⟨16, 11, .ro, 0, 2047⟩
/-! `IDIST_TGT_CFG` (R173) -/
def idistTgtCfg_DOMAIN : Fld := ⟨0, 6, .rws, 0, 63⟩
def idistTgtCfg_NMILVL : Fld := ⟨8, 1, .rws, 0, 1⟩
def idistTgtCfg_OPTHR : Fld := ⟨12, 4, .rws, 0, 15⟩
/-! `IDIST_TGT_STAT` (R173) -/
def idistTgtStat_MISROUTE : Fld := ⟨0, 1, .w1c, 0, 1⟩
def idistTgtStat_NMIACT : Fld := ⟨1, 1, .ro, 0, 1⟩
def idistTgtStat_DBLNMI : Fld := ⟨2, 1, .w1c, 0, 1⟩
/-! `IDIST_PMR` (R176) -/
def idistPmr_PMR : Fld := ⟨0, 5, .rw, 0, 16⟩
/-! `IDIST_ACK` (R176) -/
def idistAck_INTID : Fld := ⟨0, 13, .ro, 0, 8191⟩
def idistAck_SPUR : Fld := ⟨15, 1, .ro, 0, 1⟩
def idistAck_PRIO : Fld := ⟨16, 4, .ro, 0, 15⟩
/-! `IDIST_HPPI` (R176) -/
def idistHppi_INTID : Fld := ⟨0, 13, .ro, 0, 8191⟩
def idistHppi_SPUR : Fld := ⟨15, 1, .ro, 0, 1⟩
def idistHppi_PRIO : Fld := ⟨16, 4, .ro, 0, 15⟩
/-! `IDIST_EOI` (R176) -/
def idistEoi_INTID : Fld := ⟨0, 13, .wo, 0, 8191⟩
/-! `IDIST_RPR` (R176) -/
def idistRpr_RPRIO : Fld := ⟨0, 5, .ro, 0, 31⟩
/-! `IDIST_SGI` (R176) -/
def idistSgi_SGINUM : Fld := ⟨0, 4, .wo, 0, 15⟩
def idistSgi_PRIO : Fld := ⟨4, 4, .wo, 0, 15⟩
def idistSgi_TTGT : Fld := ⟨8, 11, .wo, 0, 2047⟩
def idistSgi_ALL : Fld := ⟨19, 1, .wo, 0, 1⟩
def idistSgi_LOWER : Fld := ⟨20, 1, .wo, 0, 1⟩
/-! `IDIST_PRIV` (R176) -/
def idistPriv_RNGPRIO : Fld := ⟨0, 4, .rw, 0, 15⟩
def idistPriv_RNGEN : Fld := ⟨4, 1, .rw, 0, 1⟩
def idistPriv_TMRPRIO : Fld := ⟨8, 4, .rw, 0, 15⟩
def idistPriv_TMREN : Fld := ⟨12, 1, .rw, 0, 1⟩
/-! `IDIST_TMRCMP` (R176) -/
def idistTmrcmp_CMP : Fld := ⟨0, 64, .rw, 0, 18446744073709551615⟩
/-! `IDIST_STAT` (R176) -/
def idistStat_EOIERR : Fld := ⟨0, 1, .w1c, 0, 1⟩
def idistStat_SGIDROP : Fld := ⟨1, 1, .w1c, 0, 1⟩
/-! `S1TB` (R186) -/
def s1tb_BASE : Fld := ⟨12, 36, .rw, 0, 68719476735⟩
def s1tb_ASID : Fld := ⟨48, 16, .rw, 0, 65535⟩
/-! `HTB` (R186) -/
def htb_BASE : Fld := ⟨12, 36, .rw, 0, 68719476735⟩
/-! `S1CTL` (R186) -/
def s1ctl_EN : Fld := ⟨0, 1, .rw, 0, 1⟩
/-! `HCTL` (R186) -/
def hctl_EN : Fld := ⟨0, 1, .rw, 0, 1⟩
/-! `S2CTL` (R186) -/
def s2ctl_EN : Fld := ⟨0, 1, .rw, 0, 1⟩
/-! `S2TB` (R186) -/
def s2tb_BASE : Fld := ⟨12, 36, .rw, 0, 68719476735⟩
def s2tb_VMID : Fld := ⟨48, 12, .rw, 0, 4095⟩
/-! `S2FIPA` (R186) -/
def s2fipa_IPA : Fld := ⟨12, 36, .rw, 0, 68719476735⟩
/-! `IOTU_STE` (R212) -/
def iotuSte_CTX : Fld := ⟨0, 10, .rws, 0, 1023⟩
def iotuSte_V : Fld := ⟨16, 1, .rws, 0, 1⟩
/-! `IOTU_CTX_CFG` (R212) -/
def iotuCtxCfg_V : Fld := ⟨0, 1, .rws, 0, 1⟩
def iotuCtxCfg_WORLD : Fld := ⟨1, 1, .rws, 0, 1⟩
def iotuCtxCfg_DOMAIN : Fld := ⟨2, 6, .rws, 0, 63⟩
def iotuCtxCfg_S1EN : Fld := ⟨8, 1, .rw, 0, 1⟩
def iotuCtxCfg_S2EN : Fld := ⟨9, 1, .rw, 0, 1⟩
/-! `IOTU_CTX_INV` (R212) -/
def iotuCtxInv_SCOPE : Fld := ⟨0, 2, .wo, 0, 2⟩
def iotuCtxInv_ADDR : Fld := ⟨12, 36, .wo, 0, 68719476735⟩
def iotuCtxInv_NPG : Fld := ⟨48, 16, .wo, 0, 65535⟩
/-! `IOTU_CTX_INVSTAT` (R212) -/
def iotuCtxInvstat_BUSY : Fld := ⟨0, 1, .ro, 0, 1⟩
def iotuCtxInvstat_REFUSED : Fld := ⟨1, 1, .w1c, 0, 1⟩
/-! `IOTU_CTX_FAULT` (R212) -/
def iotuCtxFault_FV : Fld := ⟨0, 1, .w1c, 0, 1⟩
def iotuCtxFault_FMULT : Fld := ⟨1, 1, .ro, 0, 1⟩
def iotuCtxFault_KIND : Fld := ⟨2, 3, .ro, 0, 7⟩
def iotuCtxFault_WRITE : Fld := ⟨5, 1, .ro, 0, 1⟩
def iotuCtxFault_LEVEL : Fld := ⟨6, 2, .ro, 0, 3⟩
def iotuCtxFault_STAGE : Fld := ⟨8, 1, .ro, 0, 1⟩
def iotuCtxFault_CNT : Fld := ⟨16, 16, .ro, 0, 65535⟩
/-! `IOTU_CTX_FADDR` (R212) -/
def iotuCtxFaddr_ADDR : Fld := ⟨0, 48, .ro, 0, 281474976710655⟩
/-! `PEATCFG` (R224) -/
def peatcfg_SIZE : Fld := ⟨0, 3, .rw, 0, 4⟩
def peatcfg_CUR : Fld := ⟨4, 3, .ro, 0, 7⟩
def peatcfg_REFUSED : Fld := ⟨8, 1, .w1c, 0, 1⟩
def peatcfg_LOST : Fld := ⟨9, 1, .w1c, 0, 1⟩
/-! `RSTAT` (R241) -/
def rstat_BUSY : Fld := ⟨0, 1, .ro, 0, 1⟩
def rstat_ERR : Fld := ⟨1, 1, .ro, 0, 1⟩
def rstat_ABORTED : Fld := ⟨2, 1, .ro, 0, 1⟩
def rstat_EKIND : Fld := ⟨3, 3, .ro, 0, 7⟩
def rstat_POS : Fld := ⟨6, 42, .ro, 0, 4398046511103⟩
def rstat_OP : Fld := ⟨48, 2, .ro, 0, 3⟩
def rstat_POINT : Fld := ⟨50, 1, .ro, 0, 1⟩
/-! `SL_BKT[B]` (R322) -/
def slBkt_SN : Fld := ⟨0, 8, .ro, 0, 255⟩
def slBkt_NEWSN : Fld := ⟨8, 8, .rw, 0, 255⟩
def slBkt_MOVE : Fld := ⟨16, 1, .wo, 0, 1⟩
def slBkt_STATE : Fld := ⟨17, 2, .ro, 0, 3⟩
def slBkt_ERR : Fld := ⟨19, 1, .w1c, 0, 1⟩
/-! `SL_WMASK[w][d]` (R322) -/
def slWmask_MASK : Fld := ⟨0, 16, .rws, 0, 65535⟩
/-! `SL_CTL` (R322) -/
def slCtl_RETIRED : Fld := ⟨0, 1, .rw, 0, 1⟩
def slCtl_ERR : Fld := ⟨1, 1, .w1c, 0, 1⟩
def slCtl_BKTCNT : Fld := ⟨8, 13, .ro, 0, 8191⟩
/-! `SL_HQCFG` (R322) -/
def slHqcfg_QRES : Fld := ⟨0, 5, .rws, 0, 16⟩
def slHqcfg_OCC : Fld := ⟨8, 6, .ro, 0, 63⟩
def slHqcfg_QOVF : Fld := ⟨14, 1, .w1c, 0, 1⟩
/-! `SL_ERR` (R322) -/
def slErr_DCE : Fld := ⟨0, 16, .ro, 0, 65535⟩
def slErr_DUE : Fld := ⟨16, 16, .ro, 0, 65535⟩
def slErr_RCE : Fld := ⟨32, 16, .ro, 0, 65535⟩
def slErr_RUE : Fld := ⟨48, 16, .ro, 0, 65535⟩
/-! `MESH_EPOCH` (R323) -/
def meshEpoch_CMD : Fld := ⟨0, 2, .wo, 0, 1⟩
def meshEpoch_STATE : Fld := ⟨2, 3, .ro, 0, 7⟩
def meshEpoch_DONE : Fld := ⟨5, 1, .w1c, 0, 1⟩
def meshEpoch_ERR : Fld := ⟨6, 1, .w1c, 0, 1⟩
def meshEpoch_COUNT : Fld := ⟨16, 32, .ro, 0, 4294967295⟩
/-! `MESH_RT[d]` (R323) -/
def meshRt_MODE : Fld := ⟨0, 3, .ro, 0, 7⟩
def meshRt_SMODE : Fld := ⟨4, 3, .rw, 0, 7⟩
/-! `MESH_SLOT[o][k]` (R323) -/
def meshSlot_SLOTS : Fld := ⟨0, 64, .rws, 0, 18446744073709551615⟩
/-! `MESH_PORT[p]` (R323) -/
def meshPort_CMD : Fld := ⟨0, 2, .wo, 0, 3⟩
def meshPort_STATE : Fld := ⟨2, 2, .ro, 0, 3⟩
def meshPort_ERR : Fld := ⟨4, 1, .w1c, 0, 1⟩
def meshPort_STATUS : Fld := ⟨5, 2, .ro, 0, 3⟩
/-! `MESH_LINK[o]` (R323) -/
def meshLink_DOWN : Fld := ⟨0, 1, .rw, 0, 1⟩
def meshLink_REPLAYFAIL : Fld := ⟨1, 1, .w1c, 0, 1⟩
def meshLink_CECNT : Fld := ⟨16, 16, .ro, 0, 65535⟩
/-! `MESH_STAT` (R323) -/
def meshStat_SLOTERR : Fld := ⟨0, 1, .w1c, 0, 1⟩
def meshStat_ROUTEERR : Fld := ⟨1, 1, .w1c, 0, 1⟩
def meshStat_FENCEDROP : Fld := ⟨2, 1, .w1c, 0, 1⟩
def meshStat_V3BLK : Fld := ⟨3, 1, .w1c, 0, 1⟩
/-! `MC_ILV` (R348) -/
def mcIlv_MIRROR : Fld := ⟨0, 1, .rwl, 0, 1⟩
def mcIlv_CAPG : Fld := ⟨8, 10, .rwl, 0, 512⟩
def mcIlv_LOCK : Fld := ⟨63, 1, .w1s, 0, 1⟩
/-! `MC_KEYSLOT[s]` (R348) -/
def mcKeyslot_CMD : Fld := ⟨0, 2, .wo, 0, 2⟩
def mcKeyslot_STATE : Fld := ⟨2, 2, .ro, 0, 3⟩
def mcKeyslot_ERR : Fld := ⟨4, 1, .w1c, 0, 1⟩
def mcKeyslot_GENCNT : Fld := ⟨16, 32, .ro, 0, 4294967295⟩
/-! `MC_CFG` (R348) -/
def mcCfg_SPEED : Fld := ⟨0, 3, .rwl, 0, 4⟩
def mcCfg_DPC : Fld := ⟨3, 1, .ro, 0, 1⟩
def mcCfg_WIDTH : Fld := ⟨4, 1, .ro, 0, 1⟩
def mcCfg_RANKS : Fld := ⟨5, 3, .ro, 0, 7⟩
def mcCfg_POP : Fld := ⟨8, 1, .ro, 0, 1⟩
def mcCfg_TRAINED : Fld := ⟨9, 1, .ro, 0, 1⟩
/-! `MC_STAT` (R348) -/
def mcStat_STATE : Fld := ⟨0, 3, .ro, 0, 7⟩
def mcStat_CMD : Fld := ⟨3, 2, .wo, 0, 2⟩
def mcStat_ERR : Fld := ⟨5, 1, .w1c, 0, 1⟩
def mcStat_EVT : Fld := ⟨6, 1, .w1c, 0, 1⟩
def mcStat_POS : Fld := ⟨8, 33, .ro, 0, 8589934591⟩
/-! `MC_SCRUB` (R348) -/
def mcScrub_HOURS : Fld := ⟨0, 16, .rw, 1, 65535⟩
def mcScrub_PASSES : Fld := ⟨16, 8, .ro, 0, 255⟩
def mcScrub_POS : Fld := ⟨24, 33, .ro, 0, 8589934591⟩
/-! `MC_SPARE` (R348) -/
def mcSpare_SPARE : Fld := ⟨0, 3, .rwl, 0, 7⟩
def mcSpare_SPEN : Fld := ⟨3, 1, .rwl, 0, 1⟩
def mcSpare_FROM : Fld := ⟨4, 3, .rw, 0, 7⟩
def mcSpare_START : Fld := ⟨7, 1, .wo, 0, 1⟩
def mcSpare_STATE : Fld := ⟨8, 2, .ro, 0, 3⟩
def mcSpare_ERR : Fld := ⟨10, 1, .w1c, 0, 1⟩
def mcSpare_POS : Fld := ⟨24, 33, .ro, 0, 8589934591⟩
/-! `MC_ERR` (R348) -/
def mcErr_CE : Fld := ⟨0, 16, .ro, 0, 65535⟩
def mcErr_UC : Fld := ⟨16, 16, .ro, 0, 65535⟩
def mcErr_RANK : Fld := ⟨32, 3, .ro, 0, 7⟩
def mcErr_DEV : Fld := ⟨35, 5, .ro, 0, 31⟩
/-! `MC_TIMING` (R348) -/
def mcTiming_TRFCSB : Fld := ⟨0, 10, .ro, 0, 1023⟩
def mcTiming_TRC : Fld := ⟨10, 10, .ro, 0, 1023⟩
def mcTiming_TRCD : Fld := ⟨20, 8, .ro, 0, 255⟩
def mcTiming_TCL : Fld := ⟨28, 8, .ro, 0, 255⟩
def mcTiming_BURST : Fld := ⟨36, 3, .ro, 0, 7⟩
def mcTiming_SLOTMAX : Fld := ⟨39, 7, .ro, 0, 127⟩
/-! `MC_BWRES[d]` (R348) -/
def mcBwres_SLOTS : Fld := ⟨0, 7, .rws, 0, 64⟩
def mcBwres_ERR : Fld := ⟨7, 1, .w1c, 0, 1⟩
def mcBwres_USED : Fld := ⟨8, 8, .ro, 0, 255⟩
/-! `MG_CTL` (R349) -/
def mgCtl_COMMIT : Fld := ⟨0, 1, .wo, 0, 1⟩
def mgCtl_BUSY : Fld := ⟨1, 1, .ro, 0, 1⟩
def mgCtl_REFUSED : Fld := ⟨2, 1, .w1c, 0, 1⟩
/-! `MG_FAULT` (R349) -/
def mgFault_FV : Fld := ⟨0, 1, .w1c, 0, 1⟩
def mgFault_FMULT : Fld := ⟨1, 1, .ro, 0, 1⟩
def mgFault_WRITE : Fld := ⟨2, 1, .ro, 0, 1⟩
def mgFault_WORLD : Fld := ⟨3, 1, .ro, 0, 1⟩
def mgFault_DOMAIN : Fld := ⟨4, 6, .ro, 0, 63⟩
def mgFault_AGENT : Fld := ⟨10, 12, .ro, 0, 4095⟩
def mgFault_REASON : Fld := ⟨22, 2, .ro, 0, 3⟩
def mgFault_CNT : Fld := ⟨32, 16, .ro, 0, 65535⟩
/-! `MG_FADDR` (R349) -/
def mgFaddr_ADDR : Fld := ⟨0, 48, .ro, 0, 281474976710655⟩
/-! `MG_RGN_BASE` (R349) -/
def mgRgnBase_EN : Fld := ⟨0, 1, .rws, 0, 1⟩
def mgRgnBase_R : Fld := ⟨1, 1, .rws, 0, 1⟩
def mgRgnBase_W : Fld := ⟨2, 1, .rws, 0, 1⟩
def mgRgnBase_WORLD : Fld := ⟨3, 1, .rws, 0, 1⟩
def mgRgnBase_KEYSLOT : Fld := ⟨4, 7, .rws, 0, 65⟩
def mgRgnBase_BASE : Fld := ⟨12, 36, .rws, 0, 68719476735⟩
/-! `MG_RGN_LIMIT` (R349) -/
def mgRgnLimit_LIMIT : Fld := ⟨12, 36, .rws, 0, 68719476735⟩
/-! `MG_RGN_DOM` (R349) -/
def mgRgnDom_DOMAIN : Fld := ⟨0, 64, .rws, 0, 18446744073709551615⟩
/-! `CEILING` (R352) -/
def ceiling_MAX : Fld := ⟨0, 2, .rw, 0, 3⟩
/-! `DOMID` (R352) -/
def domid_DOM : Fld := ⟨0, 6, .rw, 0, 63⟩
/-! `KCTL` (R353) -/
def kctl_GATEEN : Fld := ⟨0, 1, .rw, 0, 1⟩
/-! `KGWB[i]` (R353) -/
def kgwb_EN : Fld := ⟨0, 1, .rw, 0, 1⟩
def kgwb_BASE : Fld := ⟨12, 36, .rw, 0, 68719476735⟩
/-! `KGWL[i]` (R353) -/
def kgwl_LIMIT : Fld := ⟨12, 36, .rw, 0, 68719476735⟩
/-! `SBC_CLAIM_TILE[i]` (R369) -/
def sbcClaimTile_CLAIM : Fld := ⟨0, 1, .rws, 0, 1⟩
def sbcClaimTile_ERR : Fld := ⟨1, 1, .w1c, 0, 1⟩
/-! `SBC_CLAIM_FN[j]` (R369) -/
def sbcClaimFn_CLAIM : Fld := ⟨0, 64, .rws, 0, 18446744073709551615⟩
/-! `SBC_CLAIM_MC` (R369) -/
def sbcClaimMc_CLAIM : Fld := ⟨0, 16, .rws, 0, 65535⟩
/-! `SBC_CLAIM_KEY[0]` (R369) -/
def sbcClaimKey_CLAIM : Fld := ⟨0, 64, .rws, 0, 18446744073709551615⟩
/-! `SBC_CLAIM_STAT` (R369) -/
def sbcClaimStat_FNERR : Fld := ⟨0, 1, .w1c, 0, 1⟩
def sbcClaimStat_MCERR : Fld := ⟨1, 1, .w1c, 0, 1⟩
def sbcClaimStat_KEYERR : Fld := ⟨2, 1, .w1c, 0, 1⟩
/-! `CORE_DBGEN` (R372) -/
def coreDbgen_FUSE : Fld := ⟨0, 4, .ro, 0, 15⟩
def coreDbgen_KEN : Fld := ⟨8, 4, .rws, 0, 15⟩
def coreDbgen_AUTH : Fld := ⟨12, 4, .ro, 0, 15⟩
def coreDbgen_EFF : Fld := ⟨16, 4, .ro, 0, 15⟩
/-! `CFG_TWIN[k]` (R389) -/
def cfgTwin_EN : Fld := ⟨0, 1, .rws, 0, 1⟩
def cfgTwin_STATE : Fld := ⟨1, 2, .ro, 0, 3⟩
def cfgTwin_ERR : Fld := ⟨3, 1, .w1c, 0, 1⟩
/-! `CFG_TWSTAT[k]` (R389) -/
def cfgTwstat_ROLLCNT : Fld := ⟨0, 16, .ro, 0, 65535⟩
def cfgTwstat_MKIND : Fld := ⟨16, 4, .ro, 0, 15⟩
def cfgTwstat_RPCNT : Fld := ⟨32, 13, .ro, 0, 8191⟩
/-! `CFG_TWPC[k]` (R389) -/
def cfgTwpc_PC : Fld := ⟨2, 46, .ro, 0, 70368744177663⟩
def cfgTwpc_LEVEL : Fld := ⟨48, 2, .ro, 0, 3⟩
def cfgTwpc_WORLD : Fld := ⟨50, 1, .ro, 0, 1⟩
/-! `CFG_QUIET[w][d]` (R390) -/
def cfgQuiet_EN : Fld := ⟨0, 1, .rws, 0, 1⟩
def cfgQuiet_WAYOK : Fld := ⟨1, 1, .ro, 0, 1⟩
def cfgQuiet_BWOK : Fld := ⟨2, 1, .ro, 0, 1⟩
def cfgQuiet_VIOL : Fld := ⟨3, 1, .w1c, 0, 1⟩
/-! `FX_CLS_PROF[p]` (R437) -/
def fxClsProf_PORT : Fld := ⟨0, 1, .rws, 0, 1⟩
def fxClsProf_MACSEL : Fld := ⟨1, 2, .rws, 0, 2⟩
def fxClsProf_VID : Fld := ⟨3, 1, .rws, 0, 1⟩
def fxClsProf_ETYPE : Fld := ⟨4, 1, .rws, 0, 1⟩
def fxClsProf_SID : Fld := ⟨5, 1, .rws, 0, 1⟩
def fxClsProf_EN : Fld := ⟨6, 1, .rws, 0, 1⟩
def fxClsProf_ERR : Fld := ⟨7, 1, .w1c, 0, 1⟩
/-! `FX_PORT_CFG` (R437) -/
def fxPortCfg_EN : Fld := ⟨0, 1, .rw, 0, 1⟩
def fxPortCfg_SPEED : Fld := ⟨1, 1, .rw, 0, 1⟩
def fxPortCfg_FEC : Fld := ⟨2, 1, .rw, 0, 1⟩
def fxPortCfg_DROPDOWN : Fld := ⟨3, 1, .rw, 0, 1⟩
def fxPortCfg_AUTOFO : Fld := ⟨4, 1, .rw, 0, 1⟩
def fxPortCfg_PREEMPT : Fld := ⟨5, 1, .rw, 0, 1⟩
def fxPortCfg_VERIFYDIS : Fld := ⟨6, 1, .rw, 0, 1⟩
def fxPortCfg_DEFQEN : Fld := ⟨7, 1, .rws, 0, 1⟩
def fxPortCfg_PMASK : Fld := ⟨8, 8, .rw, 0, 255⟩
def fxPortCfg_PARTNER : Fld := ⟨16, 5, .rw, 0, 31⟩
def fxPortCfg_SIDOFF : Fld := ⟨22, 6, .rws, 0, 62⟩
def fxPortCfg_DEFQ : Fld := ⟨32, 12, .rws, 0, 4095⟩
/-! `FX_PORT_STAT` (R437) -/
def fxPortStat_LINK : Fld := ⟨0, 1, .ro, 0, 1⟩
def fxPortStat_EVT : Fld := ⟨1, 1, .w1c, 0, 1⟩
def fxPortStat_ERR : Fld := ⟨2, 1, .w1c, 0, 1⟩
def fxPortStat_VERIFIED : Fld := ⟨3, 1, .ro, 0, 1⟩
def fxPortStat_STATE : Fld := ⟨4, 2, .ro, 0, 3⟩
def fxPortStat_LANEFAIL : Fld := ⟨6, 1, .ro, 0, 1⟩
def fxPortStat_LANE : Fld := ⟨7, 5, .ro, 0, 31⟩
def fxPortStat_CMD : Fld := ⟨12, 2, .wo, 0, 2⟩
/-! `FX_PORT_CNT` (R437) -/
def fxPortCnt_TXFRM : Fld := ⟨0, 32, .ro, 0, 4294967295⟩
def fxPortCnt_RXDROP : Fld := ⟨32, 16, .ro, 0, 65535⟩
def fxPortCnt_LATE : Fld := ⟨48, 16, .ro, 0, 65535⟩
/-! `FX_QBV_CTL` (R437) -/
def fxQbvCtl_EN : Fld := ⟨0, 1, .rw, 0, 1⟩
def fxQbvCtl_COMMIT : Fld := ⟨1, 1, .wo, 0, 1⟩
def fxQbvCtl_PENDING : Fld := ⟨2, 1, .ro, 0, 1⟩
def fxQbvCtl_ERR : Fld := ⟨3, 1, .w1c, 0, 1⟩
def fxQbvCtl_ALEN : Fld := ⟨8, 9, .rw, 0, 256⟩
def fxQbvCtl_OLEN : Fld := ⟨17, 9, .ro, 0, 511⟩
/-! `FX_QBV_BASE` (R437) -/
def fxQbvBase_BASE : Fld := ⟨0, 64, .rw, 0, 18446744073709551615⟩
/-! `FX_QBV_CYCLE` (R437) -/
def fxQbvCycle_CYCLE : Fld := ⟨0, 32, .rw, 0, 4294967295⟩
/-! `FX_QBV_ENT[i]` (R437) -/
def fxQbvEnt_GATES : Fld := ⟨0, 8, .rw, 0, 255⟩
def fxQbvEnt_OP : Fld := ⟨8, 2, .rw, 0, 2⟩
def fxQbvEnt_INTERVAL : Fld := ⟨32, 32, .rw, 0, 4294967295⟩
/-! `FX_PSAFE_CTL` (R437) -/
def fxPsafeCtl_EN : Fld := ⟨0, 1, .rw, 0, 1⟩
def fxPsafeCtl_LEN : Fld := ⟨1, 9, .rw, 60, 256⟩
def fxPsafeCtl_REPEAT : Fld := ⟨10, 4, .rw, 1, 15⟩
def fxPsafeCtl_GAP : Fld := ⟨14, 16, .rw, 0, 65535⟩
def fxPsafeCtl_SENT : Fld := ⟨30, 1, .w1c, 0, 1⟩
/-! `FX_PSAFE_DATA[j]` (R437) -/
def fxPsafeData_DATA : Fld := ⟨0, 64, .rw, 0, 18446744073709551615⟩
/-! `FX_Q_CFG` (R437) -/
def fxQCfg_TYPE : Fld := ⟨0, 1, .rw, 0, 1⟩
def fxQCfg_PORT : Fld := ⟨1, 5, .rw, 0, 31⟩
def fxQCfg_LOG2N : Fld := ⟨6, 5, .rw, 6, 16⟩
def fxQCfg_TC : Fld := ⟨11, 3, .rw, 0, 7⟩
def fxQCfg_HDRLEN : Fld := ⟨14, 6, .rw, 0, 32⟩
def fxQCfg_IRQEN : Fld := ⟨20, 1, .rw, 0, 1⟩
def fxQCfg_STOPONERR : Fld := ⟨21, 1, .rw, 0, 1⟩
def fxQCfg_VEC : Fld := ⟨24, 8, .rw, 0, 255⟩
def fxQCfg_FN : Fld := ⟨32, 8, .ro, 0, 255⟩
def fxQCfg_FNV : Fld := ⟨40, 1, .ro, 0, 1⟩
/-! `FX_Q_DBASE` (R437) -/
def fxQDbase_BASE : Fld := ⟨12, 36, .rw, 0, 68719476735⟩
/-! `FX_Q_CBASE` (R437) -/
def fxQCbase_BASE : Fld := ⟨12, 36, .rw, 0, 68719476735⟩
/-! `FX_Q_CTL` (R437) -/
def fxQCtl_CMD : Fld := ⟨0, 2, .wo, 0, 2⟩
def fxQCtl_STATE : Fld := ⟨2, 2, .ro, 0, 3⟩
def fxQCtl_PHASE : Fld := ⟨4, 1, .ro, 0, 1⟩
def fxQCtl_CFGERR : Fld := ⟨5, 1, .w1c, 0, 1⟩
def fxQCtl_QERR : Fld := ⟨6, 4, .ro, 0, 15⟩
/-! `FX_Q_PTR` (R437) -/
def fxQPtr_HEAD : Fld := ⟨0, 16, .ro, 0, 65535⟩
def fxQPtr_TAIL : Fld := ⟨16, 16, .ro, 0, 65535⟩
def fxQPtr_CTAIL : Fld := ⟨32, 16, .ro, 0, 65535⟩
def fxQPtr_CHEAD : Fld := ⟨48, 16, .ro, 0, 65535⟩
/-! `FX_Q_HDR[i]` (R437) -/
def fxQHdr_HDR : Fld := ⟨0, 64, .rw, 0, 18446744073709551615⟩
/-! `FX_Q_ERR` (R437) -/
def fxQErr_DBERR : Fld := ⟨0, 16, .ro, 0, 65535⟩
def fxQErr_NODESC : Fld := ⟨16, 16, .ro, 0, 65535⟩
def fxQErr_CQDROP : Fld := ⟨32, 16, .ro, 0, 65535⟩
/-! `FX_CLS_KEY0` (R437) -/
def fxClsKey0_MAC : Fld := ⟨0, 48, .rw, 0, 281474976710655⟩
def fxClsKey0_VID : Fld := ⟨48, 12, .rw, 0, 4095⟩
/-! `FX_CLS_KEY1` (R437) -/
def fxClsKey1_ETYPE : Fld := ⟨0, 16, .rw, 0, 65535⟩
def fxClsKey1_SID : Fld := ⟨16, 16, .rw, 0, 65535⟩
def fxClsKey1_PORT : Fld := ⟨32, 5, .rw, 0, 31⟩
def fxClsKey1_PROF : Fld := ⟨38, 2, .rw, 0, 3⟩
/-! `FX_CLS_ACT` (R437) -/
def fxClsAct_V : Fld := ⟨0, 1, .rw, 0, 1⟩
def fxClsAct_ERR : Fld := ⟨1, 1, .w1c, 0, 1⟩
def fxClsAct_QUEUE : Fld := ⟨2, 12, .rw, 0, 4095⟩
def fxClsAct_FN : Fld := ⟨16, 8, .rws, 0, 255⟩
def fxClsAct_HITS : Fld := ⟨32, 32, .ro, 0, 4294967295⟩
/-! `FX_FN_CFG` (R456) -/
def fxFnCfg_QBASE : Fld := ⟨0, 12, .rws, 0, 4095⟩
def fxFnCfg_QCNT : Fld := ⟨12, 13, .rws, 0, 4096⟩
def fxFnCfg_INTBASE : Fld := ⟨32, 13, .rws, 0, 8191⟩
def fxFnCfg_INTCNT : Fld := ⟨45, 9, .rws, 0, 256⟩
def fxFnCfg_EVTVEC : Fld := ⟨54, 8, .rw, 0, 255⟩
/-! `FX_FN_CTL` (R456) -/
def fxFnCtl_CMD : Fld := ⟨0, 2, .wo, 0, 3⟩
def fxFnCtl_STATE : Fld := ⟨2, 2, .ro, 0, 3⟩
def fxFnCtl_GEN : Fld := ⟨4, 8, .ro, 0, 255⟩
def fxFnCtl_DKIND : Fld := ⟨12, 1, .ro, 0, 1⟩
def fxFnCtl_EVT : Fld := ⟨13, 1, .w1c, 0, 1⟩
def fxFnCtl_ERR : Fld := ⟨14, 1, .w1c, 0, 1⟩
def fxFnCtl_ERRCODE : Fld := ⟨15, 3, .ro, 0, 7⟩
def fxFnCtl_STUCK : Fld := ⟨18, 1, .w1c, 0, 1⟩
/-! `FX_FN_STAT` (R456) -/
def fxFnStat_GENDROP : Fld := ⟨0, 16, .ro, 0, 65535⟩
def fxFnStat_WRDROP : Fld := ⟨16, 16, .ro, 0, 65535⟩
def fxFnStat_DBDENY : Fld := ⟨32, 16, .ro, 0, 65535⟩
def fxFnStat_RDDROP : Fld := ⟨48, 16, .ro, 0, 65535⟩
/-! `FX_FN_PEND` (R456) -/
def fxFnPend_RDOUT : Fld := ⟨0, 9, .ro, 0, 511⟩
def fxFnPend_WROUT : Fld := ⟨16, 12, .ro, 0, 4095⟩
def fxFnPend_CLSCNT : Fld := ⟨32, 15, .ro, 0, 32767⟩
/-! `SP_CTL` (R485) -/
def spCtl_READY : Fld := ⟨0, 1, .rws, 0, 1⟩
/-! `SP_STAT` (R485) -/
def spStat_LINK : Fld := ⟨0, 1, .ro, 0, 1⟩
def spStat_WIDTH : Fld := ⟨1, 3, .ro, 0, 7⟩
def spStat_SPEED : Fld := ⟨4, 3, .ro, 0, 7⟩
def spStat_EVT : Fld := ⟨7, 1, .w1c, 0, 1⟩
/-! `SP_WCTL` (R485) -/
def spWctl_COMMIT : Fld := ⟨0, 1, .wo, 0, 1⟩
def spWctl_BUSY : Fld := ⟨1, 1, .ro, 0, 1⟩
def spWctl_REFUSED : Fld := ⟨2, 1, .w1c, 0, 1⟩
def spWctl_OVERLAP : Fld := ⟨3, 1, .w1c, 0, 1⟩
/-! `SP_HDBVAL` (R485) -/
def spHdbval_VALUE : Fld := ⟨0, 32, .ro, 0, 4294967295⟩
/-! `SP_HINTSET` (R485) -/
def spHintset_SET : Fld := ⟨0, 32, .wo, 0, 4294967295⟩
/-! `SP_WSTAT` (R485) -/
def spWstat_REFCNT : Fld := ⟨0, 16, .ro, 0, 65535⟩
def spWstat_URCNT : Fld := ⟨16, 16, .ro, 0, 65535⟩
/-! `SP_WIN_CFG[w]` (R485) -/
def spWinCfg_EN : Fld := ⟨0, 1, .rw, 0, 1⟩
def spWinCfg_LOG2SZ : Fld := ⟨1, 5, .rw, 12, 32⟩
def spWinCfg_BASE : Fld := ⟨12, 20, .rw, 0, 1048575⟩
/-! `SP_WIN_TGT[w]` (R485) -/
def spWinTgt_TGT : Fld := ⟨12, 36, .rw, 0, 68719476735⟩
/-! `RP_BIFUR[g]` (R487) -/
def rpBifur_MODE : Fld := ⟨0, 3, .rw, 0, 4⟩
def rpBifur_ERR : Fld := ⟨3, 1, .w1c, 0, 1⟩
/-! `RP_CTL` (R487) -/
def rpCtl_EN : Fld := ⟨0, 1, .rw, 0, 1⟩
def rpCtl_MAXSPD : Fld := ⟨1, 3, .rw, 0, 4⟩
/-! `RP_STAT` (R487) -/
def rpStat_CONT : Fld := ⟨0, 1, .w1c, 0, 1⟩
def rpStat_ERR : Fld := ⟨1, 1, .w1c, 0, 1⟩
def rpStat_MSIDROP : Fld := ⟨16, 16, .ro, 0, 65535⟩
def rpStat_CTOCNT : Fld := ⟨32, 16, .ro, 0, 65535⟩
/-! `RP_MSI` (R487) -/
def rpMsi_BASE : Fld := ⟨0, 13, .rw, 0, 8191⟩
def rpMsi_CNT : Fld := ⟨16, 10, .rw, 0, 768⟩
/-! `RP_MSIADDR` (R487) -/
def rpMsiaddr_ADDR : Fld := ⟨12, 36, .rw, 0, 68719476735⟩
/-! `FB_CTL` (R513) -/
def fbCtl_SAFEREQ : Fld := ⟨0, 1, .wo, 0, 1⟩
/-! `FB_STAT` (R513) -/
def fbStat_SAFE : Fld := ⟨0, 1, .ro, 0, 1⟩
def fbStat_SAFECAUSE : Fld := ⟨1, 2, .ro, 0, 3⟩
def fbStat_SAFESRC : Fld := ⟨3, 12, .ro, 0, 4095⟩
def fbStat_VOTECORR : Fld := ⟨16, 16, .ro, 0, 65535⟩
def fbStat_LASTOFF : Fld := ⟨32, 27, .ro, 0, 134217727⟩
/-! `FB_PIN` (R513) -/
def fbPin_ASSERTED : Fld := ⟨0, 1, .ro, 0, 1⟩
def fbPin_MINDONE : Fld := ⟨1, 1, .ro, 0, 1⟩
def fbPin_HELD : Fld := ⟨2, 1, .ro, 0, 1⟩
def fbPin_SEQ : Fld := ⟨3, 8, .ro, 0, 255⟩
def fbPin_RELSEQ : Fld := ⟨11, 8, .wo, 0, 255⟩
def fbPin_RELEASE : Fld := ⟨19, 1, .wo, 0, 1⟩
def fbPin_RELERR : Fld := ⟨20, 1, .w1c, 0, 1⟩
/-! `FB_PINMIN` (R513) -/
def fbPinmin_MIN : Fld := ⟨0, 16, .rw, 1, 65000⟩
/-! `FB_IPEND[j]` (R513) -/
def fbIpend_IP : Fld := ⟨0, 64, .ro, 0, 18446744073709551615⟩
/-! `FB_WATCH_CFG[w]` (R513) -/
def fbWatchCfg_EN : Fld := ⟨0, 1, .rw, 0, 1⟩
def fbWatchCfg_CLASS : Fld := ⟨1, 2, .rw, 0, 2⟩
def fbWatchCfg_STAGE2 : Fld := ⟨3, 3, .rw, 2, 7⟩
def fbWatchCfg_FIRST : Fld := ⟨8, 12, .rw, 0, 4095⟩
def fbWatchCfg_LAST : Fld := ⟨20, 12, .rw, 0, 4095⟩
def fbWatchCfg_TIMEOUT : Fld := ⟨32, 24, .rw, 1, 10000000⟩
/-! `FB_WATCH_STAT[w]` (R513) -/
def fbWatchStat_STATE : Fld := ⟨0, 2, .ro, 0, 3⟩
def fbWatchStat_SEQ : Fld := ⟨2, 8, .ro, 0, 255⟩
def fbWatchStat_ACKSEQ : Fld := ⟨10, 8, .wo, 0, 255⟩
def fbWatchStat_ACK : Fld := ⟨18, 1, .wo, 0, 1⟩
def fbWatchStat_ACKSTALE : Fld := ⟨19, 1, .w1c, 0, 1⟩
def fbWatchStat_ESC : Fld := ⟨20, 1, .w1c, 0, 1⟩
def fbWatchStat_ERR : Fld := ⟨21, 1, .w1c, 0, 1⟩
def fbWatchStat_SRCN : Fld := ⟨22, 12, .ro, 0, 4095⟩
def fbWatchStat_EVCNT : Fld := ⟨34, 16, .ro, 0, 65535⟩
/-! `FB_SRC_CFG` (R514) -/
def fbSrcCfg_CECODE : Fld := ⟨0, 3, .rw, 0, 7⟩
def fbSrcCfg_UCCODE : Fld := ⟨3, 3, .rw, 0, 7⟩
def fbSrcCfg_FTCODE : Fld := ⟨6, 3, .rw, 0, 7⟩
def fbSrcCfg_INTSEL : Fld := ⟨9, 3, .rw, 0, 7⟩
def fbSrcCfg_NMISELF : Fld := ⟨12, 1, .rw, 0, 1⟩
def fbSrcCfg_NMITGT : Fld := ⟨13, 11, .rw, 0, 1027⟩
/-! `FB_SRC_STAT` (R514) -/
def fbSrcStat_CEP : Fld := ⟨0, 1, .w1c, 0, 1⟩
def fbSrcStat_UCP : Fld := ⟨1, 1, .w1c, 0, 1⟩
def fbSrcStat_FTP : Fld := ⟨2, 1, .w1c, 0, 1⟩
def fbSrcStat_IP : Fld := ⟨3, 1, .w1c, 0, 1⟩
def fbSrcStat_NMILOST : Fld := ⟨4, 1, .w1c, 0, 1⟩
def fbSrcStat_CECNT : Fld := ⟨16, 16, .ro, 0, 65535⟩
def fbSrcStat_UCCNT : Fld := ⟨32, 16, .ro, 0, 65535⟩
def fbSrcStat_FTCNT : Fld := ⟨48, 16, .ro, 0, 65535⟩
/-! `FB_SRC_LAST` (R514) -/
def fbSrcLast_CT : Fld := ⟨0, 64, .ro, 0, 18446744073709551615⟩
/-! `FB_SRC_DET` (R514) -/
def fbSrcDet_DETAIL : Fld := ⟨0, 32, .ro, 0, 4294967295⟩
def fbSrcDet_CLASS : Fld := ⟨32, 2, .ro, 0, 3⟩
def fbSrcDet_CODE : Fld := ⟨34, 3, .ro, 0, 7⟩
def fbSrcDet_WATCHED : Fld := ⟨37, 1, .ro, 0, 1⟩
def fbSrcDet_SLOT : Fld := ⟨38, 5, .ro, 0, 31⟩
/-! `CORE_CTL` (R537) -/
def coreCtl_CMD : Fld := ⟨0, 3, .wo, 0, 6⟩
/-! `CORE_STAT` (R537) -/
def coreStat_STATE : Fld := ⟨0, 3, .ro, 0, 7⟩
def coreStat_CTXV : Fld := ⟨3, 1, .ro, 0, 1⟩
def coreStat_BISTPASS : Fld := ⟨4, 1, .ro, 0, 1⟩
def coreStat_ERR : Fld := ⟨5, 1, .w1c, 0, 1⟩
def coreStat_STATUS : Fld := ⟨6, 2, .ro, 0, 3⟩
def coreStat_MAPPED : Fld := ⟨8, 1, .ro, 0, 1⟩
/-! `CORE_ENTRY` (R537) -/
def coreEntry_PC : Fld := ⟨2, 46, .rws, 0, 70368744177663⟩
/-! `SBC_STAT` (R565) -/
def sbcStat_STEP : Fld := ⟨0, 4, .ro, 0, 15⟩
def sbcStat_KSLOT : Fld := ⟨4, 1, .ro, 0, 1⟩
def sbcStat_KILNSLOT : Fld := ⟨5, 1, .ro, 0, 1⟩
def sbcStat_CWSLOT : Fld := ⟨6, 1, .ro, 0, 1⟩
def sbcStat_UPD : Fld := ⟨7, 1, .ro, 0, 1⟩
def sbcStat_LASTRST : Fld := ⟨8, 3, .ro, 0, 7⟩
/-! `SBC_RST` (R565) -/
def sbcRst_CMD : Fld := ⟨0, 2, .wo, 0, 2⟩
/-! `SBC_CONFIRM` (R565) -/
def sbcConfirm_KILN : Fld := ⟨0, 1, .wo, 0, 1⟩
/-! `SBC_DBGNONCE` (R565) -/
def sbcDbgnonce_NONCE : Fld := ⟨0, 64, .ro, 0, 18446744073709551615⟩
/-! `SBC_CAPOP[c]` (R565) -/
def sbcCapop_OP : Fld := ⟨0, 8, .wo, 0, 10⟩
/-! `SBC_CAPARG[c]` (R565) -/
def sbcCaparg_ARG : Fld := ⟨0, 64, .rw, 0, 18446744073709551615⟩
/-! `SBC_CAPVAL[c]` (R565) -/
def sbcCapval_VAL : Fld := ⟨0, 64, .rw, 0, 18446744073709551615⟩
/-! `SBC_CAPSTAT[c]` (R565) -/
def sbcCapstat_STATE : Fld := ⟨0, 2, .ro, 0, 3⟩
def sbcCapstat_REASON : Fld := ⟨2, 3, .ro, 0, 7⟩
def sbcCapstat_ERR : Fld := ⟨5, 1, .w1c, 0, 1⟩
/-! `LEDG_CTL` (R566) -/
def ledgCtl_MEN : Fld := ⟨0, 1, .rws, 0, 1⟩
def ledgCtl_MBASE : Fld := ⟨26, 22, .rws, 0, 4194303⟩
/-! `LEDG_HEAD` (R566) -/
def ledgHead_SEQ : Fld := ⟨0, 64, .ro, 0, 18446744073709551615⟩
/-! `LEDG_MSEQ` (R566) -/
def ledgMseq_SEQ : Fld := ⟨0, 64, .ro, 0, 18446744073709551615⟩
/-! `LEDG_STAT` (R566) -/
def ledgStat_MIRERR : Fld := ⟨0, 1, .w1c, 0, 1⟩
def ledgStat_QOCC : Fld := ⟨1, 5, .ro, 0, 31⟩
/-! `ASH_CTL` (R567) -/
def ashCtl_FREEZE : Fld := ⟨0, 1, .wo, 0, 1⟩
def ashCtl_UNFREEZE : Fld := ⟨1, 1, .wo, 0, 1⟩
def ashCtl_TRIGEN : Fld := ⟨2, 1, .rw, 0, 1⟩
def ashCtl_TRIGSRC : Fld := ⟨3, 12, .rw, 0, 4095⟩
def ashCtl_TRIGCLASS : Fld := ⟨15, 2, .rw, 0, 2⟩
def ashCtl_POSTCNT : Fld := ⟨17, 16, .rw, 0, 65535⟩
/-! `ASH_STAT` (R567) -/
def ashStat_FROZEN : Fld := ⟨0, 1, .ro, 0, 1⟩
def ashStat_FRZCAUSE : Fld := ⟨1, 3, .ro, 0, 7⟩
def ashStat_READY : Fld := ⟨4, 1, .ro, 0, 1⟩
def ashStat_ERR : Fld := ⟨5, 1, .w1c, 0, 1⟩
def ashStat_FLUSHING : Fld := ⟨6, 1, .ro, 0, 1⟩
def ashStat_LOST : Fld := ⟨16, 16, .ro, 0, 65535⟩
/-! `ASH_HEAD` (R567) -/
def ashHead_SEQ : Fld := ⟨0, 32, .ro, 0, 4294967295⟩
/-! `ASH_SWEVT` (R567) -/
def ashSwevt_VALUE : Fld := ⟨0, 64, .wo, 0, 18446744073709551615⟩
/-! `PWR_THERM` (R579) -/
def pwrTherm_TWARN : Fld := ⟨0, 8, .rw, 70, 105⟩
def pwrTherm_TCRIT : Fld := ⟨8, 8, .ro, 0, 255⟩
def pwrTherm_TMAX : Fld := ⟨16, 8, .ro, 0, 255⟩
def pwrTherm_TMAXID : Fld := ⟨24, 5, .ro, 0, 31⟩
/-! `PWR_RAIL_CTL` (R579) -/
def pwrRailCtl_SETV : Fld := ⟨0, 6, .rw, 0, 50⟩
def pwrRailCtl_CMD : Fld := ⟨6, 2, .wo, 0, 2⟩
/-! `PWR_RAIL_STAT` (R579) -/
def pwrRailStat_VMEAS : Fld := ⟨0, 12, .ro, 0, 4095⟩
def pwrRailStat_IMEAS : Fld := ⟨12, 10, .ro, 0, 1023⟩
def pwrRailStat_SETTLED : Fld := ⟨22, 1, .ro, 0, 1⟩
def pwrRailStat_ON : Fld := ⟨23, 1, .ro, 0, 1⟩
def pwrRailStat_STATUS : Fld := ⟨24, 2, .ro, 0, 3⟩
def pwrRailStat_ERR : Fld := ⟨26, 1, .w1c, 0, 1⟩
def pwrRailStat_ALERT : Fld := ⟨27, 1, .w1c, 0, 1⟩
/-! `PWR_TEMP` (R579) -/
def pwrTemp_TEMP : Fld := ⟨0, 8, .ro, 0, 255⟩
def pwrTemp_WARN : Fld := ⟨8, 1, .w1c, 0, 1⟩
/-! `SP_HID` (R486) -/
def spHid_STEP : Fld := ⟨0, 8, .ro, 0, 255⟩
def spHid_PART : Fld := ⟨8, 16, .ro, 0, 65535⟩
def spHid_VENDOR : Fld := ⟨24, 8, .ro, 0, 255⟩
/-! `SP_HDB` (R486) -/
def spHdb_VALUE : Fld := ⟨0, 32, .wo, 0, 4294967295⟩
/-! `SP_HINT` (R486) -/
def spHint_PEND : Fld := ⟨0, 32, .w1c, 0, 4294967295⟩
/-! `SP_HINTMASK` (R486) -/
def spHintmask_MASK : Fld := ⟨0, 32, .rw, 0, 4294967295⟩
/-! `SP_HCFGADDR` (R486) -/
def spHcfgaddr_OFFSET : Fld := ⟨3, 29, .rw, 0, 536870911⟩
/-! `SP_HCFGDATA` (R486) -/
def spHcfgdata_DATA : Fld := ⟨0, 64, .rw, 0, 18446744073709551615⟩
/-! `SP_HCFGSTAT` (R486) -/
def spHcfgstat_DROPPED : Fld := ⟨0, 1, .w1c, 0, 1⟩
/-! `SP_HASHSEL` (R486) -/
def spHashsel_QUARTER : Fld := ⟨0, 2, .rw, 0, 3⟩
/-! `TPID` (R90) -/
def tpid_VALUE : Fld := ⟨0, 64, .rw, 0, 18446744073709551615⟩
/-! `ESCR` (R90) -/
def escr_VALUE : Fld := ⟨0, 64, .rw, 0, 18446744073709551615⟩
/-! `IOTU_CTX_S1TB` (R212) -/
def iotuCtxS1tb_BASE : Fld := ⟨12, 36, .rw, 0, 68719476735⟩
/-! `IOTU_CTX_S2TB` (R212) -/
def iotuCtxS2tb_BASE : Fld := ⟨12, 36, .rw, 0, 68719476735⟩
def iotuCtxS2tb_VMID : Fld := ⟨48, 12, .rw, 0, 4095⟩

/-- The fields of each register, in the order of its map. -/
def fields : RegName → List Fld
  | .sel => [sel_INDEX, sel_KIND, sel_SEL_STATUS, sel_SEL_VALID]
  | .cfgIdent => [cfgIdent_STEP, cfgIdent_PART, cfgIdent_VENDOR]
  | .cfgSparepool => [cfgSparepool_POOL]
  | .cfgLcnmap => [cfgLcnmap_PCN, cfgLcnmap_ERR, cfgLcnmap_PARKED]
  | .clkPll => [clkPll_LOCK, clkPll_UNLOCKED]
  | .clkCt => [clkCt_CT]
  | .clkCtadj => [clkCtadj_ADJ]
  | .clkCtstep => [clkCtstep_STEP]
  | .clkTilediv => [clkTilediv_DIV, clkTilediv_PENDING, clkTilediv_STATUS]
  | .fpsr => [fpsr_NX, fpsr_UF, fpsr_OF, fpsr_DZ, fpsr_NV, fpsr_RM]
  | .isaver => [isaver_MAJOR, isaver_MINOR]
  | .coreid => [coreid_LCN, coreid_PCN, coreid_TWIN, coreid_CCN, coreid_COLLIER]
  | .specctl => [specctl_NOSPEC, specctl_PFLUSH, specctl_NOSPEC_EFF]
  | .cycle => [cycle_COUNT]
  | .instret => [instret_COUNT]
  | .vtb => [vtb_BASE]
  | .epc => [epc_PC]
  | .estat => [estat_CAUSE, estat_PLEVEL, estat_PWORLD, estat_PIE, estat_IE, estat_DS, estat_NMI, estat_NMIACT, estat_INFO, estat_ACC, estat_GDL0, estat_GDL1]
  | .eaddr => [eaddr_ADDR]
  | .shmax => [shmax_MAX]
  | .gtb => [gtb_EN, gtb_BASE, gtb_LAST]
  | .idistSrcCfg => [idistSrcCfg_TGT, idistSrcCfg_PRIO, idistSrcCfg_TLEVEL, idistSrcCfg_EDGE, idistSrcCfg_EN, idistSrcCfg_WORLD, idistSrcCfg_DOMAIN]
  | .idistSrcState => [idistSrcState_PEND, idistSrcState_ACTIVE, idistSrcState_LINE, idistSrcState_SETPEND, idistSrcState_CLRPEND, idistSrcState_ACTTGT]
  | .idistTgtCfg => [idistTgtCfg_DOMAIN, idistTgtCfg_NMILVL, idistTgtCfg_OPTHR]
  | .idistTgtStat => [idistTgtStat_MISROUTE, idistTgtStat_NMIACT, idistTgtStat_DBLNMI]
  | .idistPmr => [idistPmr_PMR]
  | .idistAck => [idistAck_INTID, idistAck_SPUR, idistAck_PRIO]
  | .idistHppi => [idistHppi_INTID, idistHppi_SPUR, idistHppi_PRIO]
  | .idistEoi => [idistEoi_INTID]
  | .idistRpr => [idistRpr_RPRIO]
  | .idistSgi => [idistSgi_SGINUM, idistSgi_PRIO, idistSgi_TTGT, idistSgi_ALL, idistSgi_LOWER]
  | .idistPriv => [idistPriv_RNGPRIO, idistPriv_RNGEN, idistPriv_TMRPRIO, idistPriv_TMREN]
  | .idistTmrcmp => [idistTmrcmp_CMP]
  | .idistStat => [idistStat_EOIERR, idistStat_SGIDROP]
  | .s1tb => [s1tb_BASE, s1tb_ASID]
  | .htb => [htb_BASE]
  | .s1ctl => [s1ctl_EN]
  | .hctl => [hctl_EN]
  | .s2ctl => [s2ctl_EN]
  | .s2tb => [s2tb_BASE, s2tb_VMID]
  | .s2fipa => [s2fipa_IPA]
  | .iotuSte => [iotuSte_CTX, iotuSte_V]
  | .iotuCtxCfg => [iotuCtxCfg_V, iotuCtxCfg_WORLD, iotuCtxCfg_DOMAIN, iotuCtxCfg_S1EN, iotuCtxCfg_S2EN]
  | .iotuCtxInv => [iotuCtxInv_SCOPE, iotuCtxInv_ADDR, iotuCtxInv_NPG]
  | .iotuCtxInvstat => [iotuCtxInvstat_BUSY, iotuCtxInvstat_REFUSED]
  | .iotuCtxFault => [iotuCtxFault_FV, iotuCtxFault_FMULT, iotuCtxFault_KIND, iotuCtxFault_WRITE, iotuCtxFault_LEVEL, iotuCtxFault_STAGE, iotuCtxFault_CNT]
  | .iotuCtxFaddr => [iotuCtxFaddr_ADDR]
  | .peatcfg => [peatcfg_SIZE, peatcfg_CUR, peatcfg_REFUSED, peatcfg_LOST]
  | .rstat => [rstat_BUSY, rstat_ERR, rstat_ABORTED, rstat_EKIND, rstat_POS, rstat_OP, rstat_POINT]
  | .slBkt => [slBkt_SN, slBkt_NEWSN, slBkt_MOVE, slBkt_STATE, slBkt_ERR]
  | .slWmask => [slWmask_MASK]
  | .slCtl => [slCtl_RETIRED, slCtl_ERR, slCtl_BKTCNT]
  | .slHqcfg => [slHqcfg_QRES, slHqcfg_OCC, slHqcfg_QOVF]
  | .slErr => [slErr_DCE, slErr_DUE, slErr_RCE, slErr_RUE]
  | .meshEpoch => [meshEpoch_CMD, meshEpoch_STATE, meshEpoch_DONE, meshEpoch_ERR, meshEpoch_COUNT]
  | .meshRt => [meshRt_MODE, meshRt_SMODE]
  | .meshSlot => [meshSlot_SLOTS]
  | .meshPort => [meshPort_CMD, meshPort_STATE, meshPort_ERR, meshPort_STATUS]
  | .meshLink => [meshLink_DOWN, meshLink_REPLAYFAIL, meshLink_CECNT]
  | .meshStat => [meshStat_SLOTERR, meshStat_ROUTEERR, meshStat_FENCEDROP, meshStat_V3BLK]
  | .mcIlv => [mcIlv_MIRROR, mcIlv_CAPG, mcIlv_LOCK]
  | .mcKeyslot => [mcKeyslot_CMD, mcKeyslot_STATE, mcKeyslot_ERR, mcKeyslot_GENCNT]
  | .mcCfg => [mcCfg_SPEED, mcCfg_DPC, mcCfg_WIDTH, mcCfg_RANKS, mcCfg_POP, mcCfg_TRAINED]
  | .mcStat => [mcStat_STATE, mcStat_CMD, mcStat_ERR, mcStat_EVT, mcStat_POS]
  | .mcScrub => [mcScrub_HOURS, mcScrub_PASSES, mcScrub_POS]
  | .mcSpare => [mcSpare_SPARE, mcSpare_SPEN, mcSpare_FROM, mcSpare_START, mcSpare_STATE, mcSpare_ERR, mcSpare_POS]
  | .mcErr => [mcErr_CE, mcErr_UC, mcErr_RANK, mcErr_DEV]
  | .mcTiming => [mcTiming_TRFCSB, mcTiming_TRC, mcTiming_TRCD, mcTiming_TCL, mcTiming_BURST, mcTiming_SLOTMAX]
  | .mcBwres => [mcBwres_SLOTS, mcBwres_ERR, mcBwres_USED]
  | .mgCtl => [mgCtl_COMMIT, mgCtl_BUSY, mgCtl_REFUSED]
  | .mgFault => [mgFault_FV, mgFault_FMULT, mgFault_WRITE, mgFault_WORLD, mgFault_DOMAIN, mgFault_AGENT, mgFault_REASON, mgFault_CNT]
  | .mgFaddr => [mgFaddr_ADDR]
  | .mgRgnBase => [mgRgnBase_EN, mgRgnBase_R, mgRgnBase_W, mgRgnBase_WORLD, mgRgnBase_KEYSLOT, mgRgnBase_BASE]
  | .mgRgnLimit => [mgRgnLimit_LIMIT]
  | .mgRgnDom => [mgRgnDom_DOMAIN]
  | .ceiling => [ceiling_MAX]
  | .domid => [domid_DOM]
  | .kctl => [kctl_GATEEN]
  | .kgwb => [kgwb_EN, kgwb_BASE]
  | .kgwl => [kgwl_LIMIT]
  | .sbcClaimTile => [sbcClaimTile_CLAIM, sbcClaimTile_ERR]
  | .sbcClaimFn => [sbcClaimFn_CLAIM]
  | .sbcClaimMc => [sbcClaimMc_CLAIM]
  | .sbcClaimKey => [sbcClaimKey_CLAIM]
  | .sbcClaimStat => [sbcClaimStat_FNERR, sbcClaimStat_MCERR, sbcClaimStat_KEYERR]
  | .coreDbgen => [coreDbgen_FUSE, coreDbgen_KEN, coreDbgen_AUTH, coreDbgen_EFF]
  | .cfgTwin => [cfgTwin_EN, cfgTwin_STATE, cfgTwin_ERR]
  | .cfgTwstat => [cfgTwstat_ROLLCNT, cfgTwstat_MKIND, cfgTwstat_RPCNT]
  | .cfgTwpc => [cfgTwpc_PC, cfgTwpc_LEVEL, cfgTwpc_WORLD]
  | .cfgQuiet => [cfgQuiet_EN, cfgQuiet_WAYOK, cfgQuiet_BWOK, cfgQuiet_VIOL]
  | .fxClsProf => [fxClsProf_PORT, fxClsProf_MACSEL, fxClsProf_VID, fxClsProf_ETYPE, fxClsProf_SID, fxClsProf_EN, fxClsProf_ERR]
  | .fxPortCfg => [fxPortCfg_EN, fxPortCfg_SPEED, fxPortCfg_FEC, fxPortCfg_DROPDOWN, fxPortCfg_AUTOFO, fxPortCfg_PREEMPT, fxPortCfg_VERIFYDIS, fxPortCfg_DEFQEN, fxPortCfg_PMASK, fxPortCfg_PARTNER, fxPortCfg_SIDOFF, fxPortCfg_DEFQ]
  | .fxPortStat => [fxPortStat_LINK, fxPortStat_EVT, fxPortStat_ERR, fxPortStat_VERIFIED, fxPortStat_STATE, fxPortStat_LANEFAIL, fxPortStat_LANE, fxPortStat_CMD]
  | .fxPortCnt => [fxPortCnt_TXFRM, fxPortCnt_RXDROP, fxPortCnt_LATE]
  | .fxQbvCtl => [fxQbvCtl_EN, fxQbvCtl_COMMIT, fxQbvCtl_PENDING, fxQbvCtl_ERR, fxQbvCtl_ALEN, fxQbvCtl_OLEN]
  | .fxQbvBase => [fxQbvBase_BASE]
  | .fxQbvCycle => [fxQbvCycle_CYCLE]
  | .fxQbvEnt => [fxQbvEnt_GATES, fxQbvEnt_OP, fxQbvEnt_INTERVAL]
  | .fxPsafeCtl => [fxPsafeCtl_EN, fxPsafeCtl_LEN, fxPsafeCtl_REPEAT, fxPsafeCtl_GAP, fxPsafeCtl_SENT]
  | .fxPsafeData => [fxPsafeData_DATA]
  | .fxQCfg => [fxQCfg_TYPE, fxQCfg_PORT, fxQCfg_LOG2N, fxQCfg_TC, fxQCfg_HDRLEN, fxQCfg_IRQEN, fxQCfg_STOPONERR, fxQCfg_VEC, fxQCfg_FN, fxQCfg_FNV]
  | .fxQDbase => [fxQDbase_BASE]
  | .fxQCbase => [fxQCbase_BASE]
  | .fxQCtl => [fxQCtl_CMD, fxQCtl_STATE, fxQCtl_PHASE, fxQCtl_CFGERR, fxQCtl_QERR]
  | .fxQPtr => [fxQPtr_HEAD, fxQPtr_TAIL, fxQPtr_CTAIL, fxQPtr_CHEAD]
  | .fxQHdr => [fxQHdr_HDR]
  | .fxQErr => [fxQErr_DBERR, fxQErr_NODESC, fxQErr_CQDROP]
  | .fxClsKey0 => [fxClsKey0_MAC, fxClsKey0_VID]
  | .fxClsKey1 => [fxClsKey1_ETYPE, fxClsKey1_SID, fxClsKey1_PORT, fxClsKey1_PROF]
  | .fxClsAct => [fxClsAct_V, fxClsAct_ERR, fxClsAct_QUEUE, fxClsAct_FN, fxClsAct_HITS]
  | .fxFnCfg => [fxFnCfg_QBASE, fxFnCfg_QCNT, fxFnCfg_INTBASE, fxFnCfg_INTCNT, fxFnCfg_EVTVEC]
  | .fxFnCtl => [fxFnCtl_CMD, fxFnCtl_STATE, fxFnCtl_GEN, fxFnCtl_DKIND, fxFnCtl_EVT, fxFnCtl_ERR, fxFnCtl_ERRCODE, fxFnCtl_STUCK]
  | .fxFnStat => [fxFnStat_GENDROP, fxFnStat_WRDROP, fxFnStat_DBDENY, fxFnStat_RDDROP]
  | .fxFnPend => [fxFnPend_RDOUT, fxFnPend_WROUT, fxFnPend_CLSCNT]
  | .spCtl => [spCtl_READY]
  | .spStat => [spStat_LINK, spStat_WIDTH, spStat_SPEED, spStat_EVT]
  | .spWctl => [spWctl_COMMIT, spWctl_BUSY, spWctl_REFUSED, spWctl_OVERLAP]
  | .spHdbval => [spHdbval_VALUE]
  | .spHintset => [spHintset_SET]
  | .spWstat => [spWstat_REFCNT, spWstat_URCNT]
  | .spWinCfg => [spWinCfg_EN, spWinCfg_LOG2SZ, spWinCfg_BASE]
  | .spWinTgt => [spWinTgt_TGT]
  | .rpBifur => [rpBifur_MODE, rpBifur_ERR]
  | .rpCtl => [rpCtl_EN, rpCtl_MAXSPD]
  | .rpStat => [rpStat_CONT, rpStat_ERR, rpStat_MSIDROP, rpStat_CTOCNT]
  | .rpMsi => [rpMsi_BASE, rpMsi_CNT]
  | .rpMsiaddr => [rpMsiaddr_ADDR]
  | .fbCtl => [fbCtl_SAFEREQ]
  | .fbStat => [fbStat_SAFE, fbStat_SAFECAUSE, fbStat_SAFESRC, fbStat_VOTECORR, fbStat_LASTOFF]
  | .fbPin => [fbPin_ASSERTED, fbPin_MINDONE, fbPin_HELD, fbPin_SEQ, fbPin_RELSEQ, fbPin_RELEASE, fbPin_RELERR]
  | .fbPinmin => [fbPinmin_MIN]
  | .fbIpend => [fbIpend_IP]
  | .fbWatchCfg => [fbWatchCfg_EN, fbWatchCfg_CLASS, fbWatchCfg_STAGE2, fbWatchCfg_FIRST, fbWatchCfg_LAST, fbWatchCfg_TIMEOUT]
  | .fbWatchStat => [fbWatchStat_STATE, fbWatchStat_SEQ, fbWatchStat_ACKSEQ, fbWatchStat_ACK, fbWatchStat_ACKSTALE, fbWatchStat_ESC, fbWatchStat_ERR, fbWatchStat_SRCN, fbWatchStat_EVCNT]
  | .fbSrcCfg => [fbSrcCfg_CECODE, fbSrcCfg_UCCODE, fbSrcCfg_FTCODE, fbSrcCfg_INTSEL, fbSrcCfg_NMISELF, fbSrcCfg_NMITGT]
  | .fbSrcStat => [fbSrcStat_CEP, fbSrcStat_UCP, fbSrcStat_FTP, fbSrcStat_IP, fbSrcStat_NMILOST, fbSrcStat_CECNT, fbSrcStat_UCCNT, fbSrcStat_FTCNT]
  | .fbSrcLast => [fbSrcLast_CT]
  | .fbSrcDet => [fbSrcDet_DETAIL, fbSrcDet_CLASS, fbSrcDet_CODE, fbSrcDet_WATCHED, fbSrcDet_SLOT]
  | .coreCtl => [coreCtl_CMD]
  | .coreStat => [coreStat_STATE, coreStat_CTXV, coreStat_BISTPASS, coreStat_ERR, coreStat_STATUS, coreStat_MAPPED]
  | .coreEntry => [coreEntry_PC]
  | .sbcStat => [sbcStat_STEP, sbcStat_KSLOT, sbcStat_KILNSLOT, sbcStat_CWSLOT, sbcStat_UPD, sbcStat_LASTRST]
  | .sbcRst => [sbcRst_CMD]
  | .sbcConfirm => [sbcConfirm_KILN]
  | .sbcDbgnonce => [sbcDbgnonce_NONCE]
  | .sbcCapop => [sbcCapop_OP]
  | .sbcCaparg => [sbcCaparg_ARG]
  | .sbcCapval => [sbcCapval_VAL]
  | .sbcCapstat => [sbcCapstat_STATE, sbcCapstat_REASON, sbcCapstat_ERR]
  | .ledgCtl => [ledgCtl_MEN, ledgCtl_MBASE]
  | .ledgHead => [ledgHead_SEQ]
  | .ledgMseq => [ledgMseq_SEQ]
  | .ledgStat => [ledgStat_MIRERR, ledgStat_QOCC]
  | .ashCtl => [ashCtl_FREEZE, ashCtl_UNFREEZE, ashCtl_TRIGEN, ashCtl_TRIGSRC, ashCtl_TRIGCLASS, ashCtl_POSTCNT]
  | .ashStat => [ashStat_FROZEN, ashStat_FRZCAUSE, ashStat_READY, ashStat_ERR, ashStat_FLUSHING, ashStat_LOST]
  | .ashHead => [ashHead_SEQ]
  | .ashSwevt => [ashSwevt_VALUE]
  | .pwrTherm => [pwrTherm_TWARN, pwrTherm_TCRIT, pwrTherm_TMAX, pwrTherm_TMAXID]
  | .pwrRailCtl => [pwrRailCtl_SETV, pwrRailCtl_CMD]
  | .pwrRailStat => [pwrRailStat_VMEAS, pwrRailStat_IMEAS, pwrRailStat_SETTLED, pwrRailStat_ON, pwrRailStat_STATUS, pwrRailStat_ERR, pwrRailStat_ALERT]
  | .pwrTemp => [pwrTemp_TEMP, pwrTemp_WARN]
  | .spHid => [spHid_STEP, spHid_PART, spHid_VENDOR]
  | .spHdb => [spHdb_VALUE]
  | .spHint => [spHint_PEND]
  | .spHintmask => [spHintmask_MASK]
  | .spHcfgaddr => [spHcfgaddr_OFFSET]
  | .spHcfgdata => [spHcfgdata_DATA]
  | .spHcfgstat => [spHcfgstat_DROPPED]
  | .spHashsel => [spHashsel_QUARTER]
  | .tpid => [tpid_VALUE]
  | .escr => [escr_VALUE]
  | .iotuCtxS1tb => [iotuCtxS1tb_BASE]
  | .iotuCtxS2tb => [iotuCtxS2tb_BASE, iotuCtxS2tb_VMID]

/-- The reset value of each register where its map gives one number for every unit. -/
def resetConst : RegName → Nat
  | .sel => 0x8000000000000000
  | .cfgIdent => 0xB7102421
  | .cfgSparepool => 0xFFFFFFFFFFFFFFFF
  | .clkTilediv => 0x3
  | .isaver => 0x3
  | .shmax => 0x800
  | .idistSrcCfg => 0x1F000
  | .idistTgtCfg => 0x100
  | .idistAck => 0x8000
  | .idistHppi => 0x8000
  | .idistRpr => 0x10
  | .idistPriv => 0xF0F
  | .slWmask => 0xFFFF
  | .slCtl => 0x1000
  | .mcScrub => 0x18
  | .fxQbvEnt => 0xFF
  | .fxPsafeCtl => 0x400
  | .fxQCfg => 0x180
  | .spWinCfg => 0x18
  | .rpCtl => 0x8
  | .rpMsiaddr => 0xFFFFF000
  | .fbPinmin => 0x64
  | .fbWatchCfg => 0x27108BF6A02B
  | .fbSrcCfg => 0x800000
  | .pwrTherm => 0x6E64
  | .pwrRailStat => 0x800000
  | .spHid => 0xB7102421
  | .spHintmask => 0xFFFFFFFF
  | _ => 0

end Sys2Proof.Machine
end

