-- ==== Sys2Proof/Machine/Parts.lean ====
section
/-! DEFINITION. The parts that State is made of: plain data only. -/

namespace Sys2Proof.Machine

/-- A sparse table. An unlisted key reads as the default that its reader names. -/
abbrev Tab (κ α : Type) := List (κ × α)

/-- A control-register copy: the world of the copy (`false` open; also `false` for the registers with one
copy per core) and the number (R90). -/
structure CrKey where
  world : Bool
  crn : BitVec 12
  deriving DecidableEq, Repr

/-- A target-buffer entry (R120). -/
structure TgtEnt where
  tag : Nat
  level : Nat
  world : Bool
  dom : Nat
  vmid : Nat
  asid : Nat
  target : Word
  deriving DecidableEq, Repr

/-- A branch or jump whose delay slot has not yet retired (R68): its address, where execution goes after the
slot, and the link register with its value before the branch, for R73. -/
structure Slot where
  brPc : Word
  target : Word
  link : Option (RegNo × Word)
  /-- The target-buffer entry that the jump writes when it retires, and its set (R120). -/
  buf : Option (Nat × TgtEnt) := none
  /-- The return-address stack before the jump. -/
  ras : List Word := []
  deriving DecidableEq, Repr

/-- The architectural state of one core: what a Twin checkpoint (R383) and a held context (R517) keep. -/
structure Arch where
  /-- g1–g30 (R51); unlisted registers hold 0. -/
  g : Tab RegNo Word := []
  /-- The copies of g31, by world and level (R51). -/
  sp : Tab (Bool × Nat) Word := []
  /-- f0–f31 (R52). -/
  f : Tab RegNo (BitVec 128) := []
  /-- The control registers (R90): the value MFC returns. -/
  cr : Tab CrKey Word := []
  /-- The values that writes of R133 registers have replaced since the last context-synchronising event, oldest first. -/
  crOld : Tab CrKey Word := []
  pc : Word := 0
  /-- Privilege level 0–3 (R139). -/
  level : Nat := 3
  /-- World: `true` sealed (R25). -/
  world : Bool := true
  slot : Option Slot := none
  /-- An exception entry that waits for its vector: level and cause (R144, R145). -/
  entering : Option (Nat × Nat) := none
  /-- INSTRET (R138). -/
  instret : Word := 0
  deriving DecidableEq, Repr

/-- The state of a line at a caching agent (R289, R290). -/
inductive CState where
  | I | S | E | M | O
  | IS_D | IM_AD | IM_A | SM_AD | SM_A | OM_A | MI_A | OI_A | EI_A | II_A
  deriving DecidableEq, Repr

/-- The L1 cache whose miss asks for a line. -/
inductive L1Miss where
  | none | data | fetch
  deriving DecidableEq, Repr

/-- One line in a core's L2 or Cinder buffer, with what L1D holds of it merged in, or awaited by the core. -/
structure PLine where
  st : CState
  data : Line := 0
  /-- Poison, one bit per 8-byte unit of L1D (R234). -/
  poison : BitVec 8 := 0
  /-- The world and domain of the access that filled the line (R218). -/
  world : Bool
  dom : Nat
  /-- The L2 way that holds the line; none while it is awaited or held only in the Cinder buffer. -/
  way : Option Nat := none
  /-- An entry of the Cinder buffer holds the line (R232). -/
  cinder : Bool := false
  /-- The 8-byte units that hold stores which have not reached the line's home (R264). -/
  stored : BitVec 8 := 0
  /-- InvAcks received, and the number to collect once known (R290). -/
  acks : Nat := 0
  ackcnt : Option Nat := none
  /-- The request in progress carries the speculative flag (R127). -/
  spec : Bool := false
  /-- Which L1 cache misses on the line (R221); none for a request made from L2. -/
  miss : L1Miss := .none
  /-- An access of the line's world and domain missed L2 while the line was in eviction (R291). -/
  want : Bool := false
  deriving DecidableEq, Repr

/-- One line of a Peat way (R225). -/
structure PeatLine where
  data : Line := 0
  poison : BitVec 8 := 0
  deriving DecidableEq, Repr

/-- A line held in L1I or L1D, with its tags (R216, R218). Its data is that of the L2 line or of the Peat line. -/
structure L1Ent where
  line : Nat
  world : Bool
  dom : Nat
  /-- L1D: the copy holds stores that the L2 line or Peat way has not received (R217). -/
  dirty : Bool := false
  /-- L1D: the 8-byte units that an error has poisoned in this copy alone (R234). -/
  poison : BitVec 8 := 0
  /-- L1D: what the Peat way itself holds under a dirty copy (R229, R236). -/
  under : Option PeatLine := none
  deriving DecidableEq, Repr

/-- One entry of a core's store queue (R130, R251). `size` 0 is the barrier of a FENCE SS. -/
structure SqEnt where
  va : Nat
  pa : Nat
  size : Nat
  data : Line
  world : Bool
  dom : Nat
  /-- Uncached: sent to its target and not written to L1D (R255, R229). -/
  nc : Bool
  /-- Performed only after every earlier entry (R252, R254). -/
  ord : Bool
  /-- In a Twin pair, the number of its instruction among those not yet agreed; 0 when it is agreed (R384). -/
  grp : Nat := 0
  /-- The number of the store of which it is a piece, and whether its pieces go in order (R254). -/
  sid : Nat := 0
  seq : Bool := false
  deriving DecidableEq, Repr

/-- A translation cached in a TLB (R200). -/
structure TlbEnt where
  world : Bool
  /-- Guest regime (`true`), or host or monitor regime (R184). -/
  guest : Bool
  dom : Nat
  vmid : Nat
  asid : Nat
  glob : Bool
  /-- log2 of the size: 12, 21 or 30. -/
  lg : Nat
  va : Nat
  pa : Nat
  /-- Stage-1 leaf bits R W X U PXN and stage-2 leaf bits R W X (R192), combined memory type (R193). -/
  r1 : Bool
  w1 : Bool
  x1 : Bool
  u : Bool
  pxn : Bool
  /-- Stage 1 was enabled: `u` and `pxn` govern. -/
  s1en : Bool
  r2 : Bool
  w2 : Bool
  x2 : Bool
  mt : Nat
  /-- The stage that supplied the memory type: `true` stage 2. -/
  mtS2 : Bool
  /-- Leaf levels of the two stages, for the fault record. -/
  lv1 : Nat
  lv2 : Nat
  /-- The IPA of the page base. -/
  ipa : Nat
  deriving DecidableEq, Repr

/-- The uncached access of an instruction that waits for a reply (Device, Normal-NC, remote Peat). An access in several
pieces sends them one after another. -/
structure Wait where
  /-- The replies of the pieces already done, in order. -/
  got : List Line := []
  /-- A request is outstanding, and its address and size. -/
  out : Bool := true
  pa : Nat
  size : Nat
  /-- A Device access or an atomic: an interrupt waits for it (R114). -/
  dev : Bool := false
  /-- The number of the request, which its reply carries. -/
  tag : Nat := 0
  /-- The reply has arrived: data and poison of a read, or NcErr STATUS (1 refusal, 2 unpopulated, 3 completer abort). -/
  done : Bool := false
  data : Line := 0
  poison : Bool := false
  err : Nat := 0
  deriving DecidableEq, Repr

/-- A load that waits for the deciding store to reach L1D (R131). -/
structure MLoad where
  fp : Bool
  rd : RegNo
  va : Nat
  pa : Nat
  size : Nat
  signed : Bool
  deriving DecidableEq, Repr

/-- What a load ahead of the oldest instruction has read of a line (R249): data and poison, and the general registers at
that moment, from which its address came. -/
structure EarlyLd where
  data : Line
  poison : BitVec 8
  g : Tab RegNo Word
  deriving DecidableEq, Repr

/-- The range engine (R238–R245). -/
structure RangeEng where
  busy : Bool := false
  err : Bool := false
  aborted : Bool := false
  ekind : Nat := 0
  pos : Nat := 0
  stop : Nat := 0
  /-- The next line to be asked for, and the lines asked for that are not processed yet: physical line and range address. -/
  next : Nat := 0
  due : List (Nat × Nat) := []
  /-- RABORT has come: no further line is begun (R242). -/
  stopping : Bool := false
  /-- The lowest range address that a home has refused (R243). -/
  bad : Option Nat := none
  op : Nat := 0
  point : Bool := false
  /-- World, domain and level of acceptance (R239), and whether stage 2 translates the range. -/
  world : Bool := false
  dom : Nat := 0
  level : Nat := 0
  s2 : Bool := false
  /-- Requests that have not been answered, and the number of the operation that sent them. -/
  out : List Nat := []
  run : Nat := 0
  deriving DecidableEq, Repr

/-- The opcodes of mesh messages (R276, R305). -/
inductive Opc where
  | getS | getM | upg | readOnce | writeUnique | writePtl | putM | putO | putE | cmoReq
  | fwdGetS | fwdGetM | fwdReadOnce | inv | snpClean | snpCleanInv | snpDiscard
  | data | roData | ackCount | invAck | snpData | snpAck | fwdMiss | unblock
  | putAck | stalePutAck | wrAck | cmoAck | refuse
  | ncRead | ncWriteP | ncWriteO | ncData | ncAck | ncErr | retry
  | tlbOp | tlbAck | intDeliver | redir | bktXfer | bktUpd | bktAck
  deriving DecidableEq, Repr

/-- Where a message goes. -/
inductive Node where
  /-- An agent, by its agent ID (R25). -/
  | agent (id : Nat)
  /-- The home at slice SN. -/
  | home (sn : Nat)
  /-- The bucket-table copy of router TN (R296). -/
  | router (tn : Nat)
  /-- A target of non-coherent traffic: the block that decodes the address. -/
  | target
  deriving DecidableEq, Repr

/-- A directory entry (R271). -/
structure DirEnt where
  line : Nat
  /-- 1 DS, 2 DX, 3 DO. -/
  st : Nat
  coarse : Bool := false
  owner : Nat := 0
  ptrs : List Nat := []
  vec : BitVec 257 := 0
  deriving DecidableEq, Repr

/-- A message on the mesh, with the header fields of R275 and R305 that carry meaning. -/
structure Msg where
  opc : Opc
  pa : Nat
  src : Nat
  dst : Node
  req : Nat := 0
  world : Bool := false
  dom : Nat := 0
  spec : Bool := false
  ackcnt : Nat := 0
  grant : Nat := 0
  rel : Bool := false
  res : Nat := 0
  ackTo : Bool := false
  data : Line := 0
  /-- POISON: one bit per 16-byte unit. -/
  poison : BitVec 4 := 0
  bmask : BitVec 64 := 0
  cmoop : Nat := 0
  point : Bool := false
  size : Nat := 0
  status : Nat := 0
  /-- Level of the issuing core: the access rights of R44 and R49 depend on it. -/
  level : Nat := 0
  /-- The message of a Quiet party's transaction travels on VC3 (R310). -/
  vc3 : Bool := false
  /-- Opcode-specific: TLBM operands, bucket number. -/
  aux : Nat := 0
  aux2 : Nat := 0
  /-- In Retry and Redir, the opcode of the request that they answer. -/
  orig : Opc := .getS
  /-- In BktXfer, the directory entry. -/
  ent : Option DirEnt := none
  /-- Urgency (R309), and the place in the order in which requests reached 15 (R314); 0 below 15. -/
  urg : Nat := 0
  at15 : Nat := 0
  /-- Its home queue had no entry for it when it came there (R314). -/
  waits : Bool := false
  /-- Injected: false while the sender's port holds it back during an epoch (R316). -/
  inj : Bool := true
  /-- The router that re-injected it in the `RELEASE` of an epoch (R316). -/
  atR : Option Nat := none
  /-- It received its verdict under regions that a commit has since replaced (R338). -/
  pre : Bool := false
  /-- TAG: the requester's transaction tag. -/
  tag : Nat := 0
  /-- In Data with ownership: the units that hold stores which have not reached the home (R264). -/
  stored : BitVec 8 := 0
  /-- A release store (R252). -/
  ord : Bool := false
  deriving DecidableEq, Repr

/-- What a core is doing, in the encoding of CORE_STAT.STATE (R537). -/
inductive RunState where
  | off | bist | parked | running | vechalt | stopped | safehalt | parking
  deriving DecidableEq, Repr

/-- One core with its private structures. -/
structure Core where
  run : RunState
  /-- Held context valid, last self-test passed (R516, R517). -/
  ctxv : Bool := false
  bistpass : Bool := false
  /-- It has failed a self-test since power-on reset (R47). -/
  bistFailed : Bool := false
  arch : Arch := {}
  /-- The exclusive monitor: line and size (R77). -/
  monitor : Option (Nat × Nat) := none
  /-- The lines whose snoops a deferral holds, with the core cycles that it may still last (R78), and the snoops held. -/
  defers : Tab Nat Nat := []
  deferred : List Msg := []
  /-- A shield runs; its cycles left, the SHMAX recorded at its start, and how long each interrupt that it defers, by
  interface and INTID, has been eligible (R157, R158). -/
  shOn : Bool := false
  shield : Nat := 0
  shRec : Nat := 0
  shDefs : Tab (Nat × Nat) Nat := []
  nmiLatch : Bool := false
  nmiAct : Bool := false
  /-- Levels entered with no instruction retired there since (R147). -/
  fresh : List Nat := []
  /-- CYCLE (R137), and the root-clock ticks towards its next cycle. -/
  cycle : Word := 0
  rootTicks : Nat := 0
  itlb : Tab Nat TlbEnt := []
  itlbPtr : Nat := 0
  dtlb : Tab Nat TlbEnt := []
  dtlbPtr : Nat := 0
  l2tlb : Tab (Nat × Nat) TlbEnt := []
  l2tlbPtr : Tab Nat Nat := []
  /-- TlbAcks outstanding for broadcasts of this core (R205). -/
  tlbOut : Nat := 0
  /-- Broadcasts of other cores whose entries are gone here and whose answer is still owed, with the stores queued and the
  uncached requests sent before them (R205). -/
  tlbOwed : List (Msg × Nat × Nat) := []
  ras : List Word := []
  tgtBuf : Tab (Nat × Nat) TgtEnt := []
  tgtPtr : Tab Nat Nat := []
  /-- A branch has resolved against its prediction and fetch has not yet restarted (R110). -/
  redirect : Bool := false
  /-- SPECCTL.PFLUSH was written and no context-synchronising event has completed since (R121). -/
  pflush : Bool := false
  sq : List SqEnt := []
  /-- Stores queued so far: the model's own count. -/
  sqSeq : Nat := 0
  mload : Option MLoad := none
  wait : Option Wait := none
  /-- The oldest instruction is one that an interrupt lets complete first, and it has begun (R82, R114). -/
  must : Bool := false
  /-- The control registers that the oldest instruction operates under, once it has begun (R133). -/
  pick : Option (Tab CrKey Word) := none
  /-- The parties in Quiet mode, world and domain, at the core's last context-synchronising event (R391). -/
  quietSeen : List (Nat × Nat) := []
  /-- Uncached requests sent so far: the model's own count, which tells the replies apart. -/
  ncSeq : Nat := 0
  /-- Per-line CMO in progress: its line, and whether its answer has arrived. -/
  cmo : Option (Nat × Bool) := none
  /-- Lines whose last request was refused, not speculative (R290) and speculative (R127). -/
  refused : List Nat := []
  specRefused : List Nat := []
  /-- Address of a retired store that its home or target turned away later, and the `INFO` of its exception. -/
  lateAbort : Option (Nat × Nat) := none
  range : RangeEng := {}
  lines : Tab Nat PLine := []
  l2ptr : Tab Nat Nat := []
  /-- L1I and L1D by set and way, with the round-robin pointer of each set (R216, R222). -/
  l1i : Tab (Nat × Nat) L1Ent := []
  l1iPtr : Tab Nat Nat := []
  l1d : Tab (Nat × Nat) L1Ent := []
  l1dPtr : Tab Nat Nat := []
  /-- Lines that have arrived and wait for a way, oldest first (R232). -/
  fills : List Nat := []
  /-- Storage errors that nothing has read yet (R586). -/
  flaws : List Flaw := []
  /-- Firebreak has not yet recorded a store of the core that was lost (R264). -/
  lostPend : Bool := false
  /-- Lines of Normal-WB memory that loads ahead of the oldest instruction have read (R249). -/
  early : Tab Nat EarlyLd := []
  /-- Peat lines by index within the window; unlisted lines of converted ways hold zero. -/
  peat : Tab Nat PeatLine := []
  /-- Ways of the Peat store are being converted (R230). -/
  converting : Bool := false
  /-- WFI waits (R96). -/
  wfi : Bool := false
  /-- What IDIST last told the core (IntDeliver, R182): the highest eligible priority of each of the four interfaces,
  5 bits each in the order of R154, 31 for none. -/
  intView : Nat := 1048575
  /-- The drain of ERET to the open world has reached its evictions (R358 step 4). -/
  draining : Bool := false
  halted : Bool := false
  haltReq : Bool := false
  /-- A halted core executes one instruction (R370). -/
  stepping : Bool := false
  /-- The oldest instruction of a Twin leader is an action of R384 that has issued: it is an agreed point (R385). -/
  acted : Bool := false
  /-- Twin checkpoint, and the state after each instruction retired since it, oldest first (R383). -/
  ck : Option Arch := none
  unagreed : List Arch := []
  deriving DecidableEq, Repr

/-- A line in an LLC slice (R294). -/
structure LlcLine where
  line : Nat
  dirty : Bool
  data : Line
  poison : BitVec 4 := 0
  deriving DecidableEq, Repr

/-- What an open home transaction waits for. -/
inductive TPhase where
  /-- Answers to a directory-victim recall (R285). -/
  | recall
  /-- The line from the memory channel. -/
  | mem
  /-- Snoop answers (InvAck to the home, SnpData, SnpAck). -/
  | snoop
  /-- The requester's or putter's Unblock. -/
  | unblock
  deriving DecidableEq, Repr

/-- An open transaction at a home (R278). -/
structure Txn where
  msg : Msg
  phase : TPhase
  /-- The directory way it holds. -/
  way : Option Nat := none
  /-- Victim line under recall. -/
  victim : Option Nat := none
  /-- Answers still owed. -/
  acks : Nat := 0
  /-- The line as collected so far. -/
  data : Line := 0
  poison : BitVec 4 := 0
  got : Bool := false
  /-- The directory entry that takes effect at the close (R280); `none` is DI. -/
  after : Option DirEnt := none
  /-- Agents whose answers removed or cleaned their copies (CMO, R283). -/
  removed : List Nat := []
  cleaned : List Nat := []
  /-- ACKCNT to carry in Data once the line is there. -/
  n : Nat := 0
  grant : Nat := 0
  deriving DecidableEq, Repr

/-- Who waits for a channel access. -/
inductive ChWho where
  | home (sn pa : Nat)
  | nc (m : Msg)
  | io (tag : Nat)
  | nobody
  deriving DecidableEq, Repr

/-- A request queued at a memory channel (R343). -/
structure ChReq where
  pa : Nat
  write : Bool
  /-- Domain, or none for write-backs with no verdict. -/
  dom : Option Nat
  reserved : Bool
  data : Line := 0
  poison : BitVec 4 := 0
  bmask : BitVec 64 := 0
  who : ChWho := .nobody
  /-- It came on VC3 and takes an entry kept for VC3 (R313). -/
  vc3 : Bool := false
  /-- It received its verdict under regions that a commit has since replaced (R338). -/
  pre : Bool := false
  deriving DecidableEq, Repr

/-- One memory channel's dynamic state besides its registers. -/
structure Chan where
  queue : List ChReq := []
  /-- Bandwidth credits left in this window, by domain, and reserved transfers granted (R343). -/
  credit : Tab Nat Nat := []
  granted : Tab Nat Nat := []
  deriving DecidableEq, Repr

/-- The moving state of one bucket (R299). -/
structure BktMove where
  /-- The lines whose BktXfer is not yet acknowledged. -/
  sent : List Nat := []
  /-- Routers whose copy has not yet acknowledged the update. -/
  updOut : Nat := 0
  /-- The slice to which the bucket moves. -/
  dest : Nat := 0
  deriving DecidableEq, Repr

/-- An interrupt source (R171, R178). -/
structure IntSrc where
  edgePend : Bool := false
  swLatch : Bool := false
  line : Bool := false
  active : Bool := false
  actTgt : Nat := 0
  /-- The present hold by a domain mismatch has been reported (R174). -/
  held : Bool := false
  deriving DecidableEq, Repr

/-- One interrupt interface (R175, R176). -/
structure Iface where
  sgi : Tab Nat Nat := []
  rngPend : Bool := false
  tmrLatch : Bool := false
  /-- The line of INTID 17 as IDIST last evaluated it (R180). -/
  tmrLine : Bool := false
  /-- Active interrupts with their priorities, most recent first. -/
  stack : List (Nat × Nat) := []
  pmr : Nat := 0
  priv : Nat := 0xF0F
  tmrcmp : Word := 0
  eoierr : Bool := false
  sgidrop : Bool := false
  deriving DecidableEq, Repr

/-- What an I/O agent's request is for. -/
inductive IoUse where
  /-- `n` descriptors of queue `q` from slot `idx`. -/
  | desc (q idx n : Nat)
  /-- A line of the buffer of the descriptor in slot `idx` of queue `q`. -/
  | txData (q idx : Nat)
  | rxData (q idx : Nat)
  /-- A doubleword of the completion of slot `idx` of queue `q`. -/
  | compl (q idx : Nat)
  /-- A request of the host through a window of the Supervisor Port. -/
  | spIn
  /-- A request of a card behind root port `k`. -/
  | rpIn (k : Nat)
  /-- A request that the Supervisor Port's function itself answers (R460). -/
  | spLocal (r : SpTlp)
  /-- The access to the configuration space of an access to `SP_HCFGDATA` (R466). -/
  | hostCfg
  /-- An MSI of root port `k` that waits for the earlier writes of its port (R260, R477). -/
  | msi (k intid : Nat)
  /-- A change of virtual wire `w` of root port `k`, which waits for them too (R260, R476). -/
  | intx (k w : Nat) (up : Bool)
  /-- A request of a card that root port `k` completes as unsupported. -/
  | rpUr (k : Nat)
  /-- A request that a command makes for the agent of a stream. -/
  | plain
  deriving DecidableEq, Repr

/-- A request of an I/O agent that its IOTU has translated or refused (R206–R211). -/
structure IoReq where
  id : Nat
  agent : Nat
  stream : Nat
  ctx : Nat
  pa : Nat
  size : Nat
  write : Bool
  /-- The bytes to write, in the low bits. -/
  wdata : Line := 0
  /-- A poisoned inbound write (R461, R476). -/
  wpois : Bool := false
  use : IoUse
  world : Bool
  dom : Nat
  /-- Sent to its target: posted writes of one stream go one after another (R259). -/
  sent : Bool := false
  done : Bool := false
  /-- Refused at the IOTU, the home or its target. -/
  err : Bool := false
  data : Line := 0
  poison : BitVec 4 := 0
  /-- Generation of the owning function when its descriptor was taken (R446). -/
  gen : Nat := 0
  /-- The IOTLB entry that translated it. -/
  xl : Option TlbEnt := none
  /-- It belongs to one TLP with the request before it, whose part of a completion goes first (R476). -/
  after : Bool := false
  /-- Translated through an entry that an invalidation has removed since (R211). -/
  preInv : Bool := false
  /-- Its party was in Quiet mode when it was translated (R391). -/
  vc3 : Bool := false
  /-- Nobody waits for its answer any more. -/
  drop : Bool := false
  deriving DecidableEq, Repr

/-- An entry of an IOTLB (R210): its context and the translation. -/
structure IotlbEnt where
  ctx : Nat
  ent : TlbEnt
  deriving DecidableEq, Repr

/-- How far a descriptor has come (R416, R425). -/
inductive FxSt where
  /-- Its line is being read. -/
  | fetch
  /-- TX: read and checked; its data has not been read. -/
  | fetched
  /-- TX: its data is being read. -/
  | reading
  /-- TX: the whole frame is in the port's buffer. -/
  | ready
  /-- TX: on the wire. -/
  | wire
  /-- RX: the frame is being written. -/
  | writing
  /-- Ended: its completion is due. -/
  | done
  deriving DecidableEq, Repr

/-- A descriptor that its queue has taken (R413, R415, R416), and its completion to be (R418). -/
structure FxJob where
  idx : Nat
  gen : Nat
  st : FxSt := .fetch
  /-- The read of its line has been issued. -/
  asked : Bool := true
  buf : Nat := 0
  len : Nat := 0
  launch : Nat := 0
  lt : Bool := false
  irq : Bool := false
  hdr : Bool := false
  lateact : Nat := 0
  /-- Late under R427 and to be sent as an ordinary frame. -/
  late : Bool := false
  /-- CLK_PERI cycle in which the descriptor returned (R425). -/
  fetchedAt : Nat := 0
  /-- Lines of its buffer whose read has been issued. -/
  pos : Nat := 0
  /-- The frame without FCS. -/
  frame : List Byte := []
  /-- The frame's length after padding, then the completion's `LEN`. -/
  flen : Nat := 0
  status : Nat := 0
  tsv : Bool := false
  ts : Word := 0
  /-- CLK_PERI cycle in which its last bit leaves. -/
  endAt : Nat := 0
  /-- RX: the port, the matching entry. -/
  port : Nat := 0
  cls : Nat := 0
  clsv : Bool := false
  /-- The completion: 0 not begun, 1 DW0 issued, 2 DW1 issued; its slot and phase. -/
  cstep : Nat := 0
  slot : Nat := 0
  phase : Nat := 0
  deriving DecidableEq, Repr

/-- A received frame that waits for its lookup (R430): its bytes without FCS, its timestamp. -/
structure RxFrame where
  bytes : List Byte
  ts : Word
  deriving DecidableEq, Repr

/-- The work in progress of one field port. -/
structure FxPort where
  rx : List RxFrame := []
  /-- The queue whose frame is on the wire, and the one whose preemptable frame it has interrupted (R424). -/
  wire : Option Nat := none
  pre : Option Nat := none
  /-- CLK_PERI cycle until which the wire is taken by a safe frame. -/
  busyTill : Nat := 0
  /-- Safe frame (R433): copies left, and when the next one is due. -/
  safeOn : Bool := false
  safeLeft : Nat := 0
  safeNext : Nat := 0
  /-- The operational gate list: gates, operation, interval (R423); its base, its cycle, the CT at which its present
  run of cycles starts. -/
  opl : List (Nat × Nat × Nat) := []
  opBase : Nat := 0
  opCycle : Nat := 0
  opFrom : Nat := 0
  gates : Nat := 255
  hold : Bool := false
  /-- When a pending commit takes effect, and what it copied. -/
  commitAt : Nat := 0
  /-- CLK_PERI cycle at which LINK fell (R406). -/
  downAt : Nat := 0
  /-- A RESTORE is pending since this cycle (R533). -/
  restore : Option Nat := none
  /-- The last queue served of each class, for the round robin of R422. -/
  rr : Tab Nat Nat := []
  deriving DecidableEq, Repr

/-- An outbound non-posted request of a root port (R472–R475). -/
structure RpOut where
  /-- The message that waits for the answer: of a core, or of an I/O agent. -/
  msg : Option Msg
  size : Nat
  since : Nat
  deriving DecidableEq, Repr

/-- What leaves the module at its lands, as the model records it. -/
inductive OutMsg where
  /-- A completion to the host (`data` in the low bytes): status 0 success, 1 Unsupported Request, 2 Configuration Request Retry, 4 Completer Abort. -/
  | hostCpl (status : Nat) (ep : Bool) (size : Nat) (data : Line)
  /-- MSI message `i`, or an INTA message. -/
  | hostMsi (i : Nat)
  | hostIntx (assert : Bool)
  /-- A request to the card of port `k`: 0 memory, 1 configuration type 0, 2 configuration type 1. -/
  | cardReq (k kind : Nat) (write : Bool) (tag addr size : Nat) (data : Line) (ep : Bool)
  | cardCpl (k status : Nat) (ep : Bool) (size : Nat) (data : Line)
  /-- A frame on a field lane. -/
  | frame (lane : Nat) (bytes : List Byte)
  /-- What a debug access or sample returns; a refusal. -/
  | jtag (v : Line)
  | jtagRefuse
  deriving DecidableEq, Repr

/-- A memory access of JTAG debug access on behalf of a halted core, which waits for its answer (R370). -/
structure DbgWait where
  core : Nat
  write : Bool
  pa : Nat
  size : Nat
  tag : Nat
  deriving DecidableEq, Repr

/-- A watch slot in `ARMED` (R500): its expiry, and the event that armed it. -/
structure Armed where
  expiry : Nat
  src : Nat
  cls : FbClass
  detail : Nat
  deriving DecidableEq, Repr

/-- An image slot of the boot device as Kindling judges it (R543, R544). -/
structure ImgSlot where
  valid : Bool
  seq : Nat
  ver : Nat
  deriving DecidableEq, Repr, Inhabited

/-- A power-fail area of the chip-select 1 device (R557). -/
structure FlushArea where
  gen : Nat := 0
  first : Nat := 0
  ct : Word := 0
  events : List (BitVec 256) := []
  marked : Bool := false
  deriving DecidableEq, Repr

end Sys2Proof.Machine
end

