-- ==== Sys2Proof/Machine/Tab.lean ====
section
/-! DEFINITION. Reading and writing the sparse tables of Parts. -/

namespace Sys2Proof.Machine

/-- The value under `k`, or `d` where none is listed. -/
def tget {κ α : Type} [DecidableEq κ] (d : α) (t : Tab κ α) (k : κ) : α :=
  match t with
  | [] => d
  | (k', v) :: r => if k' = k then v else tget d r k

/-- The entry under `k`, if one is listed. -/
def tfind {κ α : Type} [DecidableEq κ] (t : Tab κ α) (k : κ) : Option α :=
  match t with
  | [] => none
  | (k', v) :: r => if k' = k then some v else tfind r k

/-- Removes what is listed under `k`. -/
def tdel {κ α : Type} [DecidableEq κ] (t : Tab κ α) (k : κ) : Tab κ α :=
  t.filter (fun e => !decide (e.1 = k))

/-- Lists `v` under `k`. -/
def tput {κ α : Type} [DecidableEq κ] (t : Tab κ α) (k : κ) (v : α) : Tab κ α :=
  (k, v) :: tdel t k

end Sys2Proof.Machine
end

