-- ==== Sys2Proof/Machine/ResetVal.lean ====
section
/-! DEFINITION. The reset values of the registers, unit by unit. -/

namespace Sys2Proof.Machine

/-- The reset reaction codes of each Firebreak source: CE, UC, FT (R492). -/
def fbCodes (src : Nat) : Nat × Nat × Nat :=
  if src < 1092 then (0, 1, 0)
  else if src < 1108 then (0, 1, 3)
  else if src = 1108 then (0, 1, 6)
  else if src < 1696 then (0, 0, 0)
  else if src < 3075 then (0, 1, 0)
  else if src < 3389 then (0, 1, 0)
  else if src = 3389 then (0, 0, 0)
  else if src < 3392 then (0, 1, 0)
  else if src = 3392 then (0, 0, 7)
  else if src = 3393 then (0, 0, 0)
  else if src < 3396 then (0, 1, 7)
  else if src = 3396 then (0, 1, 0)
  else (0, 6, 7)

/-- The reset value of a register. The Ledger's start entry is recorded, so its head is 1 (R549). -/
def resetNat (r : Reg) : Nat :=
  match r.name with
  | .ledgHead => 1
  | .cfgLcnmap => r.i % 1024
  | .slBkt => r.i % 256 + r.i % 256 * 2 ^ 8
  | .sbcClaimKey => if r.i = 1 then 2 else 0
  | .coreDbgen => (fuseDebug r.i).toNat
  | .fxPortStat => r.i % 32 * 2 ^ 7
  | .fbWatchCfg => if r.i = 0 then resetConst .fbWatchCfg else 0
  | .fbSrcCfg =>
    let c := fbCodes r.i
    resetConst .fbSrcCfg + c.1 + c.2.1 * 2 ^ 3 + c.2.2 * 2 ^ 6
  | n => resetConst n

/-- The reset value of a register, as a word. -/
def resetReg (r : Reg) : Word := BitVec.ofNat 64 (resetNat r)

end Sys2Proof.Machine
end

