-- ==== Sys2Proof/Machine/State.lean ====
section
/-! DEFINITION. The state of the module, its faults and refusals, and the state after power-on reset. -/

namespace Sys2Proof.Machine

/-- Why the model stops. -/
inductive Fault where
  /-- Raised by a command that names a core, slice, router, channel, gatekeeper, port, queue, function or
  other unit that the module does not have (R19–R25 give the counts). Safe: no such command exists. -/
  | noSuchUnit
  deriving DecidableEq, Repr

/-- Why the model refuses a command. -/
inductive Refusal where
  /-- Raised by exec for a command that has no meaning here yet. Safe. -/
  | notModelled (mnemonic : String)
  deriving DecidableEq, Repr

/-- What a logged write writes: a copy of a control register of a core, or a configuration register at a physical address. -/
inductive LedgTgt where
  | cr (p : Nat) (world : Bool) (crn : BitVec 12)
  | reg (r : Reg) (addr : Nat)
  /-- A doubleword pair of a root port's configuration image (R484, R487). -/
  | img (k dw addr : Nat)
  deriving DecidableEq, Repr

/-- A write of a register on behalf of an agent (R549): who writes, the bank it came through, the capability request of a
Collier core that asked for it, the target, the value offered and the bits that the access covers. -/
structure WriteReq where
  who : Agent
  world : Bool
  dom : Nat
  level : Nat
  bank : Option Nat := none
  via : Option Nat := none
  tgt : LedgTgt
  val : Word
  mask : Word := BitVec.allOnes 64
  /-- The uncached request that an NcAck answers once the write is performed: requester and tag. -/
  ack : Option (Nat × Nat) := none
  /-- It has no effect for the sake of R12, R43, R44 or the block's own rights (R466). -/
  drop : Bool := false
  /-- The CLK_PERI cycle in which it reaches the Ledger (R549). -/
  at_ : Nat := 0
  deriving DecidableEq, Repr

/-- An event offered to the Ash Record (R554). -/
structure AshEv where
  ct : Word
  typ : Nat
  src : Nat
  cls : Nat
  d0 : Word
  d1 : Word
  deriving DecidableEq, Repr

/-- Events of one source and class that Firebreak has not yet taken, merged under R490. -/
structure FbEv where
  src : Nat
  cls : FbClass
  n : Nat
  detail : Nat
  deriving DecidableEq, Repr

/-- The start entry of the Change Ledger after a power-on reset (R549, R550): `SEQ` 0, CT 0, `KIND` 3, agent 0x810 in the
sealed world, and its `CHAIN` (R551). -/
def ledgStart : Line :=
  3#512 <<< 176 ||| 0x40810#512 <<< 320 ||| 0x52c18185678e4ef2#512 <<< 448

/-- The state of the module. -/
structure State where
  /-- The commands that wait, first in, first out. -/
  pending : List Instr := []
  /-- CLK_PERI cycles since power-on: the model's clock for deadlines. -/
  now : Nat := 0
  /-- The model's own counter of draws of free values. -/
  draws : Nat := 0
  /-- The fractional accumulator of CT (R31), and whether the root PLL has ever locked since power-on. -/
  ctFrac : Nat := 0
  ctOn : Bool := false
  /-- The island runs from REFCLK: until the root PLL locks, and after a loss of lock (R28, R510). -/
  onRefclk : Bool := true
  /-- The divider that each tile runs at (R29). -/
  tileDiv : Tab Nat Nat := []
  cores : Tab Nat Core := []
  /-- Every register of the configuration space and of the BAR0 space that holds a value of its own. -/
  regs : Tab Reg Word := []
  /-- The W1C bits that the hardware has set in the present CLK_PERI cycle (R7): of registers, and of the root ports'
  images by port and doubleword. -/
  setNow : Tab Reg Word := []
  imgNow : Tab (Nat × Nat) (BitVec 32) := []
  /-- Messages on the mesh, oldest first. -/
  net : List Msg := []
  /-- Directory entries by slice, set and way (R270), and each set's PLRU bits. -/
  dir : Tab (Nat × Nat × Nat) DirEnt := []
  plru : Tab (Nat × Nat) (BitVec 15) := []
  /-- LLC lines by slice, set and way (R294), and each set's used bits (R298). -/
  llc : Tab (Nat × Nat × Nat) LlcLine := []
  used : Tab (Nat × Nat) (BitVec 16) := []
  /-- Storage errors of the slices that nothing has read yet (R586). -/
  slFlaws : List SlFlaw := []
  /-- Home queues by slice (R278), oldest first, and open transactions by slice and line. -/
  hq : Tab Nat (List Msg) := []
  txns : Tab (Nat × Nat) Txn := []
  bkts : Tab Nat BktMove := []
  /-- VC3 requests that a home answered with Retry, and when each may be sent again (R312). -/
  resend : List (Msg × Nat) := []
  /-- Requests that have reached urgency 15 so far: the model's own count (R314). -/
  urgSeq : Nat := 0
  /-- The slot-table words in effect where a newer one waits for its boundary (R323). -/
  slotAct : Tab (Nat × Nat) Word := []
  /-- Links that have passed retraining since they went down (R323, R531), and links whose `DOWN` is to clear at the next
  epoch. -/
  linkOk : List (Nat × Nat) := []
  linkUp : List (Nat × Nat) := []
  /-- The links that were down when the tables last became active (R317). -/
  linkOld : List (Nat × Nat) := []
  /-- Slices whose self-test runs before their port opens (R526). -/
  slTest : List Nat := []
  /-- The routers' copies of the bucket table (R296), by router and bucket. -/
  rtBkt : Tab (Nat × Nat) Nat := []
  /-- DRAM contents as plaintext bytes, sorted by address. -/
  mem : List Host.Cell := []
  /-- The key slot and generation under which each line was last written (R340, R341). -/
  memKey : Tab Nat (Nat × Nat) := []
  memPoison : Tab Nat (BitVec 4) := []
  chans : Tab Nat Chan := []
  /-- The active gatekeeper regions (R338): instance, region, and 0 base, 1 limit, 2 domains. -/
  mgAct : Tab (Nat × Nat × Nat) Word := []
  intSrc : Tab Nat IntSrc := []
  /-- The sources whose pending state a register access has cleared in the present CLK_PERI cycle (R182). -/
  intClr : List Nat := []
  ifaces : Tab (Nat × PageKind) Iface := []
  /-- What IDIST last told the core of each target (R182). -/
  intSent : Tab Nat Nat := []
  /-- NMI events of Firebreak on their way to a core, with the source whose reaction sent each (R496). -/
  nmiQ : List (Nat × Nat) := []
  /-- The hot-plug interrupt line of each root port (R478). -/
  hotPlug : Tab Nat Bool := []
  /-- Requests of I/O agents in progress, oldest first, and their numbering. -/
  io : List IoReq := []
  ioSeq : Nat := 0
  /-- The IOTLBs by die (0 west, 1 east), set and way (R210), and each set's round-robin pointer. -/
  iotlb : Tab (Nat × Nat × Nat) IotlbEnt := []
  iotlbPtr : Tab (Nat × Nat) Nat := []
  /-- Fault events that Firebreak has not yet taken (R489, R490), oldest first. -/
  fbq : List FbEv := []
  /-- The watch slots in `ARMED` (R499, R500). -/
  armed : Tab Nat Armed := []
  /-- CLK_PERI cycle at which the minimum pulse of nERR ends (R503). -/
  pinEnd : Nat := 0
  /-- CLK_PERI cycle of entry into the safe state; nSAFE asserted by it (R505). -/
  safeAt : Option Nat := none
  nSafe : Bool := false
  /-- The Change Ledger's SRAM ring (R552), the logged writes that wait for it, oldest first, and when the first of them
  began to wait. -/
  ledg : Tab Nat Line := [(0, ledgStart)]
  ledgQ : List WriteReq := []
  ledgSince : Nat := 0
  /-- The CLK_PERI cycle in which the last write entered reached the Ledger, and its agent (R549). -/
  ledgLast : Option (Nat × Nat) := none
  /-- A mirror copy is on its way; its home refused it (R552). -/
  mirOut : Bool := false
  mirRef : Bool := false
  /-- The Ash Record's ring (R554), its queue (R555), and the events still to record before the trigger freeze. -/
  ash : Tab Nat (BitVec 256) := []
  ashQ : List AshEv := []
  ashTrig : Option Nat := none
  /-- The power-fail areas (R557), and the area being written. -/
  areas : Tab Nat FlushArea := []
  flushTo : Option Nat := none
  /-- The jobs of each queue in ring order (R411–R414), and the work of each port. -/
  fxq : Tab Nat (List FxJob) := []
  fxp : Tab Nat FxPort := []
  /-- The CT at which each function entered `DRAINING` (R450). -/
  fnSince : Tab Nat Nat := []
  /-- Functions to be reset when `ENABLING` ends (R451). -/
  fnReset : List Nat := []
  /-- The Supervisor Port: active windows (R462), option ROM (R469), configuration header, requests behind a commit
  boundary (R463), nSPPERST low, Assert_INTA sent. -/
  spAct : Tab (Nat × Nat) Word := []
  spRom : Tab Nat Word := []
  spHdr : Tab Nat (BitVec 32) := []
  spWait : List SpTlp := []
  /-- Of these, how many were received before the last reset of the host side: their completions are discarded (R465). -/
  spVoid : Nat := 0
  spPerst : Bool := false
  spInta : Bool := false
  /-- The root ports: configuration images by doubleword (R471), outstanding requests by port and tag (R475), link active,
  card present, INTx wires, and whether the present containment or inactive link has been reported (R474). -/
  rpImg : Tab (Nat × Nat) (BitVec 32) := []
  rpOut : Tab (Nat × Nat) RpOut := []
  rpUp : Tab Nat Bool := []
  rpCard : Tab Nat Bool := []
  rpIntx : Tab Nat (BitVec 4) := []
  rpRep : Tab Nat Bool := []
  /-- A reset that waits to take effect: its code and its cause (R538, R539). -/
  rst : Option (Nat × Nat) := none
  /-- Kindling: the operation that each capability bank has asked for, the bank to be served next (R547), the boot-attempt
  counters and slots of the boot device (R543–R545), an update in progress, the fused minimum versions raised (R547). -/
  capOp : Tab Nat Nat := []
  capNext : Nat := 0
  attempts : Tab (Nat × Nat) Nat := []
  slots : Tab (Nat × Nat) ImgSlot := []
  updating : Option Nat := none
  minVer : Tab Nat Nat := []
  /-- Rails: consecutive samples outside tolerance, and outside the FT limits (R572). -/
  railBad : Tab Nat Nat := []
  railFt : Tab Nat Nat := []
  /-- Core rails on their way to a new set value. -/
  railRamp : Tab Nat Bool := []
  /-- The access of JTAG debug access that waits for its answer (R370), and the model's own count of them. -/
  dbg : Option DbgWait := none
  dbgSeq : Nat := 0
  /-- What has left the module at its lands, oldest first: the model's own record. -/
  out : List OutMsg := []
  deriving DecidableEq, Repr

/-- A core after power-on: the cores of PCN 0–1023 run their self-test (R542), the spare
cores are off, the Collier cores wait for their release (R540). -/
def Core.atReset (p : Nat) : Core :=
  { run := if p < 1024 then .bist else if p < 1088 then .off else .parked }

/-- The machine right after power-on reset. -/
def State.reset : State := {}

end Sys2Proof.Machine
end

