-- ==== Sys2Proof/WellFormed.lean ====
section
/-! DEFINITION. Which commands are well formed: the units they name exist (R19–R25 and the instance counts of the block
chapters). -/

namespace Sys2Proof

/-- The cores (R22): PCN 0–1087, and the Collier cores as 1088–1091. -/
def isCoreNo (p : Nat) : Bool := decide (p < 1092)

/-- A requester that exists (R25). -/
def agentOk : Agent → Bool
  | .core p => isCoreNo p
  | .rp k => decide (k < 16)
  | _ => true

/-- An agent ID that exists (R25), or 0x1000 + SN for the home at a slice. -/
def agentIdOk (a : Nat) : Bool :=
  decide (a < 1088) || decide (0x800 ≤ a ∧ a < 0x804) || decide (0x810 = a) || decide (0x820 = a) ||
  decide (0x830 ≤ a ∧ a < 0x842) || decide (a = 0x850) || decide (0x1000 ≤ a ∧ a < 0x1100)

/-- A claim register that exists (R369). -/
def claimOk : ClaimReg → Bool
  | .tile i => decide (i < 272)
  | .fn j => decide (j < 4)
  | .key j => decide (j < 2)
  | _ => true

/-- The core that a debug access names; 0 where it names none. -/
def DebugReq.core : DebugReq → Nat
  | .readG p _ | .writeG p _ _ | .readF p _ | .writeF p _ _ | .readCr p _ | .writeCr p _ _ | .readPc p | .writePc p _
  | .step p | .resume p | .readMem p _ _ | .writeMem p _ _ _ => p
  | .readAsh _ => 0

/-- The access is for no core. -/
def DebugReq.free : DebugReq → Bool
  | .readAsh _ => true
  | _ => false

/-- Every unit that the command names exists. -/
def Instr.wf : Instr → Bool
  | .registerWrite who _ _ _ => agentOk who
  | .lcnmapWrite who n _ => agentOk who && decide (n < 1024)
  | .tiledivWrite who i _ => agentOk who && decide (i < 272)
  | .tileClockSwitch i => decide (i < 272)
  | .ctadjWrite who _ => agentOk who
  | .ctstepWrite who _ _ => agentOk who
  | .pllLock => true
  | .pllLossOfLock => true
  | .add p _ _ _ _ => isCoreNo p
  | .sub p _ _ _ => isCoreNo p
  | .and p _ _ _ => isCoreNo p
  | .or p _ _ _ => isCoreNo p
  | .xor p _ _ _ => isCoreNo p
  | .andn p _ _ _ => isCoreNo p
  | .orn p _ _ _ => isCoreNo p
  | .sll p _ _ _ => isCoreNo p
  | .srl p _ _ _ => isCoreNo p
  | .sra p _ _ _ => isCoreNo p
  | .ror p _ _ _ => isCoreNo p
  | .slt p _ _ _ => isCoreNo p
  | .sltu p _ _ _ => isCoreNo p
  | .min p _ _ _ => isCoreNo p
  | .max p _ _ _ => isCoreNo p
  | .addw p _ _ _ => isCoreNo p
  | .subw p _ _ _ => isCoreNo p
  | .sllw p _ _ _ => isCoreNo p
  | .srlw p _ _ _ => isCoreNo p
  | .sraw p _ _ _ => isCoreNo p
  | .clz p _ _ _ => isCoreNo p
  | .ctz p _ _ _ => isCoreNo p
  | .popc p _ _ _ => isCoreNo p
  | .bswap p _ _ _ => isCoreNo p
  | .sextb p _ _ _ => isCoreNo p
  | .sexth p _ _ _ => isCoreNo p
  | .sextw p _ _ _ => isCoreNo p
  | .addi p _ _ _ _ => isCoreNo p
  | .andi p _ _ _ => isCoreNo p
  | .ori p _ _ _ => isCoreNo p
  | .xori p _ _ _ => isCoreNo p
  | .slti p _ _ _ => isCoreNo p
  | .sltiu p _ _ _ => isCoreNo p
  | .lui p _ _ _ => isCoreNo p
  | .addpci p _ _ _ => isCoreNo p
  | .slli p _ _ _ _ => isCoreNo p
  | .srli p _ _ _ => isCoreNo p
  | .srai p _ _ _ => isCoreNo p
  | .rori p _ _ _ => isCoreNo p
  | .slliw p _ _ _ => isCoreNo p
  | .srliw p _ _ _ => isCoreNo p
  | .sraiw p _ _ _ => isCoreNo p
  | .mlo p _ _ _ _ => isCoreNo p
  | .mlow p _ _ _ => isCoreNo p
  | .mhuu p _ _ _ => isCoreNo p
  | .mhss p _ _ _ => isCoreNo p
  | .mhsu p _ _ _ => isCoreNo p
  | .div p _ _ _ _ => isCoreNo p
  | .divu p _ _ _ => isCoreNo p
  | .rem p _ _ _ => isCoreNo p
  | .remu p _ _ _ => isCoreNo p
  | .divw p _ _ _ => isCoreNo p
  | .divuw p _ _ _ => isCoreNo p
  | .remw p _ _ _ => isCoreNo p
  | .remuw p _ _ _ => isCoreNo p
  | .ldb p _ _ _ _ => isCoreNo p
  | .ldbu p _ _ _ _ => isCoreNo p
  | .ldh p _ _ _ _ => isCoreNo p
  | .ldhu p _ _ _ _ => isCoreNo p
  | .ldw p _ _ _ _ => isCoreNo p
  | .ldwu p _ _ _ _ => isCoreNo p
  | .ldd p _ _ _ _ _ => isCoreNo p
  | .stb p _ _ _ => isCoreNo p
  | .sth p _ _ _ => isCoreNo p
  | .stw p _ _ _ => isCoreNo p
  | .std p _ _ _ _ => isCoreNo p
  | .fld p _ _ _ _ _ _ => isCoreNo p
  | .fst p _ _ _ _ => isCoreNo p
  | .beq p _ _ _ _ _ _ => isCoreNo p
  | .bne p _ _ _ _ _ => isCoreNo p
  | .blt p _ _ _ _ _ => isCoreNo p
  | .bge p _ _ _ _ _ => isCoreNo p
  | .bltu p _ _ _ _ _ => isCoreNo p
  | .bgeu p _ _ _ _ _ => isCoreNo p
  | .j p _ _ _ => isCoreNo p
  | .jal p _ _ => isCoreNo p
  | .jr p _ _ _ _ _ => isCoreNo p
  | .jalr p _ _ _ _ => isCoreNo p
  | .ret p _ _ _ _ => isCoreNo p
  | .lda p _ _ _ _ _ _ _ _ _ => isCoreNo p
  | .stl p _ _ _ _ _ _ _ => isCoreNo p
  | .ldx p _ _ _ _ _ _ _ _ => isCoreNo p
  | .stx p _ _ _ _ _ _ _ _ => isCoreNo p
  | .atswp p _ _ _ _ _ _ _ _ => isCoreNo p
  | .atadd p _ _ _ _ _ _ _ _ _ => isCoreNo p
  | .atclr p _ _ _ _ _ _ _ _ => isCoreNo p
  | .atset p _ _ _ _ _ _ _ _ => isCoreNo p
  | .atflp p _ _ _ _ _ _ _ _ => isCoreNo p
  | .atsmax p _ _ _ _ _ _ _ _ => isCoreNo p
  | .atsmin p _ _ _ _ _ _ _ _ => isCoreNo p
  | .atumax p _ _ _ _ _ _ _ _ => isCoreNo p
  | .atumin p _ _ _ _ _ _ _ _ => isCoreNo p
  | .atcas p _ _ _ _ _ _ _ _ => isCoreNo p
  | .bcopy p _ _ _ _ _ => isCoreNo p
  | .bfill p _ _ _ => isCoreNo p
  | .dcleanP p _ _ _ => isCoreNo p
  | .dinvP p _ _ _ => isCoreNo p
  | .dclinvP p _ _ _ => isCoreNo p
  | .dcleanM p _ _ _ => isCoreNo p
  | .dinvM p _ _ _ => isCoreNo p
  | .dclinvM p _ _ _ => isCoreNo p
  | .dzero p _ _ _ _ => isCoreNo p
  | .prefr p _ _ _ => isCoreNo p
  | .prefw p _ _ _ => isCoreNo p
  | .rcleanP p _ _ _ => isCoreNo p
  | .rinvP p _ _ _ => isCoreNo p
  | .rclinvP p _ _ _ => isCoreNo p
  | .rcleanM p _ _ _ => isCoreNo p
  | .rinvM p _ _ _ => isCoreNo p
  | .rclinvM p _ _ _ => isCoreNo p
  | .rstat p _ _ _ => isCoreNo p
  | .rabort p _ _ _ => isCoreNo p
  | .rangeEngineLine p => isCoreNo p
  | .tlbiva p _ _ _ _ _ => isCoreNo p
  | .tlbivaa p _ _ _ _ => isCoreNo p
  | .tlbiasid p _ _ _ _ => isCoreNo p
  | .tlbivmall p _ _ _ _ => isCoreNo p
  | .tlbivmid p _ _ _ _ => isCoreNo p
  | .tlbihva p _ _ _ _ => isCoreNo p
  | .tlbihall p _ _ _ _ => isCoreNo p
  | .tlbiworld p _ _ _ _ => isCoreNo p
  | .tlbsync p _ _ _ _ => isCoreNo p
  | .fadd p _ _ _ _ _ => isCoreNo p
  | .fsub p _ _ _ _ => isCoreNo p
  | .fmul p _ _ _ _ => isCoreNo p
  | .fdiv p _ _ _ _ => isCoreNo p
  | .fsqrt p _ _ _ _ => isCoreNo p
  | .fmin p _ _ _ _ => isCoreNo p
  | .fmax p _ _ _ _ => isCoreNo p
  | .fneg p _ _ _ _ => isCoreNo p
  | .fabs p _ _ _ _ => isCoreNo p
  | .fcpys p _ _ _ _ => isCoreNo p
  | .fcmpeq p _ _ _ _ => isCoreNo p
  | .fcmplt p _ _ _ _ => isCoreNo p
  | .fcmple p _ _ _ _ => isCoreNo p
  | .fkind p _ _ _ _ => isCoreNo p
  | .fcmpun p _ _ _ _ => isCoreNo p
  | .fcvtf p _ _ _ _ => isCoreNo p
  | .fcvtgs p _ _ _ _ => isCoreNo p
  | .fcvtgu p _ _ _ _ => isCoreNo p
  | .fcvtfs p _ _ _ _ => isCoreNo p
  | .fcvtfu p _ _ _ _ => isCoreNo p
  | .fmvgf p _ _ _ _ => isCoreNo p
  | .fmvfg p _ _ _ _ => isCoreNo p
  | .fmadd p _ _ _ _ _ _ _ => isCoreNo p
  | .fmsub p _ _ _ _ _ _ => isCoreNo p
  | .fnmsub p _ _ _ _ _ _ => isCoreNo p
  | .fnmadd p _ _ _ _ _ _ => isCoreNo p
  | .vadd p _ _ _ _ _ => isCoreNo p
  | .vsub p _ _ _ _ => isCoreNo p
  | .vmul p _ _ _ _ => isCoreNo p
  | .vmins p _ _ _ _ => isCoreNo p
  | .vminu p _ _ _ _ => isCoreNo p
  | .vmaxs p _ _ _ _ => isCoreNo p
  | .vmaxu p _ _ _ _ => isCoreNo p
  | .vsll p _ _ _ _ => isCoreNo p
  | .vsrl p _ _ _ _ => isCoreNo p
  | .vsra p _ _ _ _ => isCoreNo p
  | .vaddss p _ _ _ _ => isCoreNo p
  | .vaddus p _ _ _ _ => isCoreNo p
  | .vand p _ _ _ _ => isCoreNo p
  | .vor p _ _ _ _ => isCoreNo p
  | .vxor p _ _ _ _ => isCoreNo p
  | .vandn p _ _ _ _ => isCoreNo p
  | .vceq p _ _ _ _ => isCoreNo p
  | .vcgts p _ _ _ _ => isCoreNo p
  | .vcgtu p _ _ _ _ => isCoreNo p
  | .vfadd p _ _ _ _ => isCoreNo p
  | .vfsub p _ _ _ _ => isCoreNo p
  | .vfmul p _ _ _ _ => isCoreNo p
  | .vfdiv p _ _ _ _ => isCoreNo p
  | .vfmin p _ _ _ _ => isCoreNo p
  | .vfmax p _ _ _ _ => isCoreNo p
  | .vfceq p _ _ _ _ => isCoreNo p
  | .vfclt p _ _ _ _ => isCoreNo p
  | .vzipl p _ _ _ _ => isCoreNo p
  | .vziph p _ _ _ _ => isCoreNo p
  | .vuzpe p _ _ _ _ => isCoreNo p
  | .vuzpo p _ _ _ _ => isCoreNo p
  | .vtbl p _ _ _ _ => isCoreNo p
  | .vdupg p _ _ _ _ => isCoreNo p
  | .vmovgl p _ _ _ _ => isCoreNo p
  | .vinsg p _ _ _ _ => isCoreNo p
  | .fence p _ _ _ => isCoreNo p
  | .csync p _ _ => isCoreNo p
  | .isync p _ _ => isCoreNo p
  | .clrex p _ _ => isCoreNo p
  | .wfi p _ _ => isCoreNo p
  | .brk p _ _ => isCoreNo p
  | .shield p _ _ => isCoreNo p
  | .shieldExpiry p => isCoreNo p
  | .shieldDeferLimit p => isCoreNo p
  | .mfc p _ _ _ _ => isCoreNo p
  | .mtc p _ _ _ => isCoreNo p
  | .mfco p _ _ _ => isCoreNo p
  | .mtco p _ _ _ => isCoreNo p
  | .peatcfgWrite p _ _ => isCoreNo p
  | .specctlPflush p _ => isCoreNo p
  | .gcall p _ _ => isCoreNo p
  | .gret p _ _ => isCoreNo p
  | .kcall p _ _ _ => isCoreNo p
  | .eret p _ _ => isCoreNo p
  | .gate p _ _ _ => isCoreNo p
  | .gatemark p _ => isCoreNo p
  | .mispredictRedirect p => isCoreNo p
  | .speculativeReissue p _ => isCoreNo p
  | .storeWriteL1d p _ _ => isCoreNo p
  | .mergedLoadComplete p => isCoreNo p
  | .snoopDeferExpiry p => isCoreNo p
  | .interruptEntry p => isCoreNo p
  | .nmiEvent p => isCoreNo p
  | .nmiEntry p => isCoreNo p
  | .nmiactClear p _ _ => isCoreNo p
  | .tableWalk p _ _ _ => isCoreNo p
  | .l2Fill p _ _ => isCoreNo p
  | .cinderRecall p _ => isCoreNo p
  | .remotePeatAccess src _ => agentIdOk src
  | .homeTransactionStart sn _ _ _ => decide (sn < 256)
  | .getS a _ _ => agentIdOk a
  | .getM a _ _ => agentIdOk a
  | .upg a _ => agentIdOk a
  | .readOnce a _ => agentIdOk a
  | .writeUnique a _ => agentIdOk a
  | .writePtl a _ => agentIdOk a
  | .putM a _ => agentIdOk a
  | .putO a _ => agentIdOk a
  | .putE a _ => agentIdOk a
  | .cmoReq a _ => agentIdOk a
  | .fwdGetS a _ _ => agentIdOk a
  | .fwdGetM a _ => agentIdOk a
  | .fwdReadOnce a _ => agentIdOk a
  | .inv a _ => agentIdOk a
  | .snpClean a _ => agentIdOk a
  | .snpCleanInv a _ _ => agentIdOk a
  | .snpDiscard a _ => agentIdOk a
  | .data a _ => agentIdOk a
  | .roData a _ => agentIdOk a
  | .ackCount a _ => agentIdOk a
  | .invAck a _ => agentIdOk a
  | .snpData sn _ => decide (sn < 256)
  | .snpAck sn _ => decide (sn < 256)
  | .fwdMiss sn _ => decide (sn < 256)
  | .unblock sn _ => decide (sn < 256)
  | .putAck a _ => agentIdOk a
  | .stalePutAck a _ => agentIdOk a
  | .wrAck a _ => agentIdOk a
  | .cmoAck a _ => agentIdOk a
  | .refuse a _ => agentIdOk a
  | .ncRead a _ => agentIdOk a
  | .ncWriteP a _ => agentIdOk a
  | .ncWriteO a _ => agentIdOk a
  | .ncData a => agentIdOk a
  | .ncAck a => agentIdOk a
  | .ncErr a => agentIdOk a
  | .retry a => agentIdOk a
  | .vc3Resend a _ => agentIdOk a
  | .tlbOp a => agentIdOk a
  | .tlbAck a => agentIdOk a
  | .intDeliver tgt => decide (tgt < 1028)
  | .redir a _ => agentIdOk a
  | .bktXfer b => decide (b < 4096)
  | .bktUpd b tn => decide (b < 4096) && decide (tn < 256)
  | .bktAck b => decide (b < 4096)
  | .bucketMove who b _ => agentOk who && decide (b < 4096)
  | .bucketCopyStart b => decide (b < 4096)
  | .slCtlRetire who sn _ => agentOk who && decide (sn < 256)
  | .urgencyRaise tn input vc lane => decide (tn < 256) && decide (input < 7) && decide (vc < 4) && decide (lane < 2)
  | .slotTableUpdate tn => decide (tn < 256)
  | .flitEccError tn o _ => decide (tn < 256) && decide (o < 4)
  | .linkDownWrite who tn o _ => agentOk who && decide (tn < 256) && decide (o < 4)
  | .linkRetrain tn o _ => decide (tn < 256) && decide (o < 4)
  | .epochSwap who _ => agentOk who
  | .epochDrain0Done => true
  | .epochDrain1Done => true
  | .epochReleaseDone => true
  | .portDrain who tn q => agentOk who && decide (tn < 256) && decide (q < 8)
  | .portDrainAck tn q => decide (tn < 256) && decide (q < 8)
  | .portFence who tn q => agentOk who && decide (tn < 256) && decide (q < 8)
  | .portOpen who tn q => agentOk who && decide (tn < 256) && decide (q < 8)
  | .sliceSelfTestDone sn _ => decide (sn < 256)
  | .channelServe k _ => decide (k < 16)
  | .bwWindowStart k => decide (k < 16)
  | .patrolScrubRead k _ => decide (k < 16)
  | .spareCopyStart who k _ => agentOk who && decide (k < 16)
  | .spareCopyDone k => decide (k < 16)
  | .channelFail k => decide (k < 16)
  | .channelFailover who k => agentOk who && decide (k < 16)
  | .rejoin who k => agentOk who && decide (k < 16)
  | .resilverDone k => decide (k < 16)
  | .ilvLock who _ => agentOk who
  | .gatekeeperCommit who i => agentOk who && decide (i < 35)
  | .gatekeeperCommitDone i => decide (i < 35)
  | .generate who s => agentOk who && decide (s < 66)
  | .keyValid s => decide (s < 66)
  | .erase who s => agentOk who && decide (s < 66)
  | .interruptSourceEvent intid _ => decide (intid < 8192)
  | .idistSrcCfgWrite who intid _ => agentOk who && decide (intid < 8192)
  | .idistTgtCfgWrite who t _ => agentOk who && decide (t < 1028)
  | .setpend who intid => agentOk who && decide (intid < 8192)
  | .clrpend who intid => agentOk who && decide (intid < 8192)
  | .idistAck p _ => isCoreNo p
  | .idistEoi p _ _ => isCoreNo p
  | .idistSgi p _ _ => isCoreNo p
  | .ctTimerFire t _ => decide (t < 1028)
  | .iotuRequest stream _ _ _ => decide (stream < 4608)
  | .iotuCtxInv who c _ => agentOk who && decide (c < 1024)
  | .iotuCtxCfgWrite who c _ => agentOk who && decide (c < 1024)
  | .iotuInvComplete c => decide (c < 1024)
  | .claimChange who idx _ => agentOk who && claimOk idx
  | .debugAccess req => isCoreNo req.core
  | .debugSample p => isCoreNo p
  | .debugHaltRequest p => isCoreNo p
  | .debugHalt p => isCoreNo p
  | .twinForm who k => agentOk who && decide (k < 512)
  | .twinDissolve who k => agentOk who && decide (k < 512)
  | .groupAgreed k _ => decide (k < 512)
  | .twinMismatch k _ => decide (k < 512)
  | .replayEnd k => decide (k < 512)
  | .frameReceive port _ _ => decide (port < 32)
  | .classifierLookup port => decide (port < 32)
  | .linkStateChange port _ => decide (port < 32)
  | .portFailover who port => agentOk who && decide (port < 32)
  | .autoFailover port => decide (port < 32)
  | .portRestore who port => agentOk who && decide (port < 32)
  | .restoreSwitch port => decide (port < 32)
  | .queueEnable who q => agentOk who && decide (q < 4096)
  | .queueStop who q => agentOk who && decide (q < 4096)
  | .queueDrainDone q => decide (q < 4096)
  | .descriptorDoorbell who fn _ _ => agentOk who && decide (fn < 256)
  | .completionDoorbell who fn _ _ => agentOk who && decide (fn < 256)
  | .descriptorFetch q => decide (q < 4096)
  | .txDataRead q => decide (q < 4096)
  | .frameReady q => decide (q < 4096)
  | .frameStart port => decide (port < 32)
  | .launchDeadline q => decide (q < 4096)
  | .completionWrite q => decide (q < 4096)
  | .gclCommit who port => agentOk who && decide (port < 32)
  | .gclActivate port => decide (port < 32)
  | .gateChange port => decide (port < 32)
  | .preemptVerify port _ => decide (port < 32)
  | .safeFrameRepeat port => decide (port < 32)
  | .fnCfgWrite who n _ => agentOk who && decide (n < 256)
  | .functionEnable who n => agentOk who && decide (n < 256)
  | .functionEnabled n => decide (n < 256)
  | .functionDisable who n => agentOk who && decide (n < 256)
  | .functionReset who n => agentOk who && decide (n < 256)
  | .functionDisabled n => decide (n < 256)
  | .functionStuck n => decide (n < 256)
  | .spInboundRequest _ => true
  | .windowCommit who => agentOk who
  | .windowCommitDone => true
  | .spLinkReset _ => true
  | .spPerst _ => true
  | .hostDoorbell _ => true
  | .hintSet who _ => agentOk who
  | .hostConfigAccess _ _ _ _ => true
  | .expansionRomRead _ => true
  | .rpOutboundRequest k => decide (k < 16)
  | .rpCompletion k _ _ _ => decide (k < 16)
  | .completionTimeout k => decide (k < 16)
  | .rpInboundRequest k _ => decide (k < 16)
  | .presenceChange k _ => decide (k < 16)
  | .attentionButton k => decide (k < 16)
  | .slotControlWrite who k _ => agentOk who && decide (k < 16)
  | .surpriseDown k => decide (k < 16)
  | .dpcTrigger k => decide (k < 16)
  | .containmentClear who k => agentOk who && decide (k < 16)
  | .firebreakEvent src _ _ => decide (src < 4096)
  | .watchExpiry w => decide (w < 32)
  | .watchAck who w _ => agentOk who && decide (w < 32)
  | .pinRelease who _ => agentOk who
  | .pinMinEnd => true
  | .safeRequest who => agentOk who
  | .safeNsafeAssert => true
  | .safeSelfRefresh k => decide (k < 16)
  | .backgroundVoteCheck _ _ _ _ => true
  | .park who c => agentOk who && isCoreNo c
  | .parkDone c => isCoreNo c
  | .resume who c => agentOk who && isCoreNo c
  | .start who c => agentOk who && isCoreNo c
  | .bist who c => agentOk who && isCoreNo c
  | .bistDone c _ => isCoreNo c
  | .poweron who c => agentOk who && isCoreNo c
  | .poweroff who c => agentOk who && isCoreNo c
  | .powerOnReset => true
  | .supplyReset => true
  | .islandReset => true
  | .chipReset => true
  | .resetEffect => true
  | .bootSequence _ => true
  | .mapcore c => decide (c < 4)
  | .twin c => decide (c < 4)
  | .quietd0 c => decide (c < 4)
  | .reset c => decide (c < 4)
  | .safe c => decide (c < 4)
  | .stage c => decide (c < 4)
  | .activate c => decide (c < 4)
  | .confirm c => decide (c < 4)
  | .dbgreq c => decide (c < 4)
  | .svnraise c => decide (c < 4)
  | .kilnConfirm who _ => agentOk who
  | .sbcRstChip who => agentOk who
  | .sbcRstIsland who => agentOk who
  | .jtagDebugRequest _ => true
  | .ledgerEntry => true
  | .ledgerMirrorCopy => true
  | .mirrorAbandon => true
  | .ashRecordEvent => true
  | .ashFreeze who => agentOk who
  | .ashUnfreeze who => agentOk who
  | .ashTriggerFreeze => true
  | .softwareEvent who _ => agentOk who
  | .powerFailWarning => true
  | .flushDone => true
  | .setvWrite who r _ => agentOk who && decide (r < 22)
  | .railOn who r => agentOk who && decide (r < 22)
  | .railOff who r => agentOk who && decide (r < 22)
  | .railSample r _ _ => decide (r < 22)
  | .tempSample s _ => decide (s < 18)
  | .pmbusAlert => true
  | .fieldRefclkLoss _ => true
  | .rpLinkUp k => decide (k < 16)
  | .spLinkUp width speed => decide (width < 4) && decide (speed < 5)
  | .channelRetrain k _ => decide (k < 16)

end Sys2Proof
end

