-- ==== Sys2Proof/Machine/Base.lean ====
section
/-! DEFINITION. Reading and writing the parts of State: cores, registers, messages, fault reports, bytes. -/

namespace Sys2Proof.Machine

/-! Cores. -/

/-- The cores of the module (R22, R25): PCN 0–1087 and the four Collier cores. -/
def isCore (p : Nat) : Bool := isCoreNo p

/-- The agent ID of core `p` (R25). -/
def agentOf (p : Nat) : Nat := if p < 1088 then p else 0x800 + (p - 1088)

/-- The core that an agent ID names. -/
def coreOfAgent (id : Nat) : Option Nat :=
  if id < 1088 then some id else if 0x800 ≤ id ∧ id < 0x804 then some (1088 + (id - 0x800)) else none

/-- The agent ID of a requester (R25). -/
def agentNo : Agent → Nat
  | .core p => agentOf p
  | .sbc => 0x810
  | .host => 0x820
  | .rp k => 0x830 + k
  | .fx e => if e then 0x841 else 0x840
  | .jtag => 0x850

def State.core (s : State) (p : Nat) : Core := tget (Core.atReset p) s.cores p
def State.setCore (s : State) (p : Nat) (c : Core) : State := { s with cores := tput s.cores p c }
def State.modCore (s : State) (p : Nat) (f : Core → Core) : State := s.setCore p (f (s.core p))

/-! Registers. -/

/-- The stored value of a register. -/
def State.rd (s : State) (r : Reg) : Word := tget (resetReg r) s.regs r
def State.wr (s : State) (r : Reg) (v : Word) : State := { s with regs := tput s.regs r v }
/-- One field of a word. -/
def fld (v : Word) (f : Fld) : Nat := bits v.toNat f.lo f.w
/-- A word with one field replaced. -/
def setFld (v : Word) (f : Fld) (x : Nat) : Word := BitVec.ofNat 64 (setBits v.toNat f.lo f.w x)
/-- One field of a register. -/
def State.fget (s : State) (r : Reg) (f : Fld) : Nat := fld (s.rd r) f
/-- The hardware has set these W1C bits in the present CLK_PERI cycle: no write of the cycle clears them (R7). -/
def State.setIn (s : State) (r : Reg) (bits : Word) : State := { s with setNow := tput s.setNow r (tget 0 s.setNow r ||| bits) }
/-- Writes one field of a register, whatever its Type code: what the hardware does. -/
def State.fset (s : State) (r : Reg) (f : Fld) (x : Nat) : State :=
  let t := s.wr r (setFld (s.rd r) f x)
  if f.ty = .w1c ∧ x ≠ 0 then t.setIn r (setFld 0 f x) else t
/-- A saturating count in a field. -/
def State.finc (s : State) (r : Reg) (f : Fld) : State :=
  s.fset r f (satInc (s.fget r f) (2 ^ f.w - 1))

/-- Chip time (R31). -/
def State.ct (s : State) : Word := s.rd ⟨.clkCt, 0, 0⟩

/-- Draws one free value: advances the counter. -/
def State.draw (s : State) : State := { s with draws := s.draws + 1 }

/-! Fault reports. -/

/-- Merges an event into the queue of events not yet taken (R490). -/
def addEvent (q : List FbEv) (e : FbEv) : List FbEv :=
  match q with
  | [] => [e]
  | x :: r => if x.src = e.src ∧ x.cls = e.cls then { x with n := x.n + e.n, detail := e.detail } :: r
    else x :: addEvent r e

/-- A block reports an event to its Firebreak source (R18, R489). -/
def State.report (s : State) (src : Nat) (cls : FbClass) (detail : Nat := 0) : State :=
  { s with fbq := addEvent s.fbq ⟨src, cls, 1, detail⟩ }

/-- Reports unless the request carries the speculative flag (R127). -/
def State.reportUnless (s : State) (spec : Bool) (src : Nat) (cls : FbClass) (detail : Nat := 0) : State :=
  if spec then s else s.report src cls detail

/-! Parts of an 8-byte location. -/

/-- The bits of an 8-byte location that an access covers, and the value moved to its place. -/
def cfgMask (off size : Nat) : Word :=
  if size = 8 then BitVec.allOnes 64 else if off % 8 = 0 then 0xFFFFFFFF else 0xFFFFFFFF00000000
def cfgPlace (off size : Nat) (v : Word) : Word := if size = 8 ∨ off % 8 = 0 then v else v <<< 32
/-- The part of a location that a read returns. -/
def cfgPart (off size : Nat) (v : Word) : Word :=
  if size = 8 then v else if off % 8 = 0 then v &&& 0xFFFFFFFF else v >>> 32

def cfgBase : Nat := 0xE00000000000

/-! Messages. -/

/-- The mesh class of a message (R276, R305). -/
def Opc.vc : Opc → Nat
  | .getS | .getM | .upg | .readOnce | .writeUnique | .writePtl | .putM | .putO | .putE | .cmoReq
  | .ncRead | .ncWriteP | .ncWriteO => 0
  | .fwdGetS | .fwdGetM | .fwdReadOnce | .inv | .snpClean | .snpCleanInv | .snpDiscard | .tlbOp | .bktUpd => 1
  | _ => 2

/-- Two messages are kept in order: class, source and destination agree (R277), and so do the ordering points (`pt`) of two
uncached requests. -/
def Msg.ordered (pt : Nat → Nat) (b m : Msg) : Bool :=
  b.src == m.src && decide (b.dst = m.dst) && b.opc.vc == m.opc.vc &&
  (!decide (m.dst = Node.target) || pt b.pa == pt m.pa)

/-- Splits the first message that satisfies `f` from the others, if no earlier message that is kept in order with it
stands before it (R277). -/
def takeMsg (pt : Nat → Nat) (f : Msg → Bool) (before : List Msg) : List Msg → Option (Msg × List Msg)
  | [] => none
  | m :: r =>
    if f m then
      if before.any (fun b => b.ordered pt m) then none
      else some (m, before.reverse ++ r)
    else takeMsg pt f (m :: before) r

/-- A party in Quiet mode (R390). -/
def State.quiet (s : State) (world : Bool) (dom : Nat) : Bool :=
  s.fget ⟨.cfgQuiet, b2n world, dom⟩ cfgQuiet_EN == 1

/-! Bytes of a line. -/

/-- Byte `i` of a line. -/
def lineByte (l : Line) (i : Nat) : Byte := (l >>> (8 * i)).setWidth 8

/-- `size` bytes of a line from byte `off`, in the low bits. -/
def lineGet (l : Line) (off size : Nat) : Line :=
  (l >>> (8 * off)) &&& BitVec.ofNat 512 (2 ^ (8 * size) - 1)

/-- `n` bytes of ones. -/
def onesOf (n : Nat) : Line := BitVec.ofNat 512 (2 ^ (8 * n) - 1)

/-- A line with `size` bytes at `off` replaced by the low bytes of `v`. -/
def lineSet (l : Line) (off size : Nat) (v : Line) : Line :=
  let m : Line := BitVec.ofNat 512 (2 ^ (8 * size) - 1)
  (l &&& ~~~(m <<< (8 * off))) ||| ((v &&& m) <<< (8 * off))

/-- A line with the bytes under the mask replaced by those of `v`, byte for byte. -/
def lineMerge (l : Line) (bm : BitVec 64) (v : Line) : Line :=
  (List.range 64).foldl (fun a i => if bm.getLsbD i then lineSet a i 1 (v >>> (8 * i)) else a) l

/-- The line of an address, and the byte offset within it. -/
def lineOf (pa : Nat) : Nat := pa / 64 * 64
def lineOff (pa : Nat) : Nat := pa % 64

/-- Poison per 16-byte unit from poison per 8-byte unit: a unit is poisoned when either half is (R234). -/
def poison4 (p : BitVec 8) : BitVec 4 :=
  (List.range 4).foldl (fun a i => if p.getLsbD (2 * i) || p.getLsbD (2 * i + 1) then a ||| (1 <<< i) else a) 0

/-- Poison per 8-byte unit from poison per 16-byte unit. -/
def poison8 (p : BitVec 4) : BitVec 8 :=
  (List.range 4).foldl (fun a i => if p.getLsbD i then a ||| (3 <<< (2 * i)) else a) 0

/-- Some byte of [off, off + size) lies in a poisoned unit (R262). -/
def poisoned (p : BitVec 8) (off size : Nat) : Bool :=
  (List.range 8).any (fun i => p.getLsbD i && decide (off < 8 * i + 8 ∧ 8 * i < off + size))

/-- The poison left by a store of [off, off + size): units it covers whole become good (R263). -/
def unpoison (p : BitVec 8) (off size : Nat) : BitVec 8 :=
  (List.range 8).foldl (fun a i =>
    if off ≤ 8 * i ∧ 8 * i + 8 ≤ off + size then a &&& ~~~(1#8 <<< i) else a) p

/-- The poison left in 16-byte units by a partial write under a byte mask (R263). -/
def unpoisonMask (p : BitVec 4) (bm : BitVec 64) : BitVec 4 :=
  (List.range 4).foldl (fun a i =>
    if (List.range 16).all (fun b => bm.getLsbD (16 * i + b)) then a &&& ~~~(1#4 <<< i) else a) p

/-! DRAM. -/

/-- The byte listed at an address. -/
def memGet : List Host.Cell → Nat → Option Byte
  | [], _ => none
  | (a, b) :: r, k => if a = k then some b else if k < a then none else memGet r k

/-- Lists a byte at an address, keeping the order. -/
def memPut : List Host.Cell → Nat → Byte → List Host.Cell
  | [], k, v => [(k, v)]
  | (a, b) :: r, k, v =>
    if k < a then (k, v) :: (a, b) :: r
    else if a = k then (k, v) :: r
    else (a, b) :: memPut r k v

/-- The canonical form: addresses strictly rising. -/
def Memory.wf : List Host.Cell → Bool
  | [] => true
  | [_] => true
  | (a, _) :: (b, y) :: r => decide (a < b) && Memory.wf ((b, y) :: r)

/-- Writes the 64 bytes of a line. -/
def memPutLine (m : List Host.Cell) (pa : Nat) (l : Line) : List Host.Cell :=
  (List.range 64).foldl (fun a i => memPut a (lineOf pa + i) (lineByte l i)) m

/-- The 64 bytes of a line: a byte that nothing has written is a free value. -/
def memGetLine (m : List Host.Cell) (draw pa : Nat) : Line :=
  (List.range 64).foldl (fun a i =>
    let b := (memGet m (lineOf pa + i)).getD (freeDramByte (lineOf pa + i) draw)
    lineSet a i 1 (b.setWidth 512)) 0

end Sys2Proof.Machine
end

