-- ==== Sys2Proof/Machine/Fields.lean ====
section
/-! DEFINITION. A software write of a register, field by field (R6–R10). -/

namespace Sys2Proof.Machine

/-- A field after a write: `off` is the value offered, already merged with the old value outside the access, `m` the bits
that the access covers. A reserved encoding leaves an RW field as it is (R10). -/
def mergeFld (old off m : Word) (f : Fld) : Word :=
  let x := fld off f
  match f.ty with
  | .rw | .rws | .rwl => if f.min ≤ x ∧ x ≤ f.max then setFld old f x else old
  | .w1c => setFld old f (fld (old &&& ~~~(off &&& m)) f)
  | .w1s => setFld old f (fld (old ||| (off &&& m)) f)
  | .ro | .wo => old

/-- The value offered to the whole register by an access that covers the bits of `m`. -/
def offered (old v m : Word) : Word := (old &&& ~~~m) ||| (v &&& m)

/-- The register after a write of the fields that `ok` admits. -/
def mergeReg (fs : List Fld) (ok : Fld → Bool) (old v m : Word) : Word :=
  (fs.filter ok).foldl (fun a f => mergeFld a (offered old v m) m f) old

/-- A register after a write of the fields that `ok` admits: a W1C bit that the hardware has set in the same CLK_PERI cycle
stays set (R7). -/
def State.merged (s : State) (r : Reg) (ok : Fld → Bool) (v m : Word) : Word :=
  mergeReg (fields r.name) ok (s.rd r) v m ||| (s.rd r &&& tget 0 s.setNow r)

end Sys2Proof.Machine
end

