-- ==== Sys2Proof/Machine/Addr.lean ====
section
/-! DEFINITION. Numbers and places: tiles, routers, the physical address map, homes and channels. -/

namespace Sys2Proof.Machine

/-- The tile to whose router the spare tile of die `d` attaches (R20). -/
def spareAttach (d : Nat) : Nat := 16 * (4 * (d / 4)) + (4 * (d % 4) + 1)

/-- The tile number of core `p`, or of the router at which a spare or Collier core enters the mesh (R20–R22). -/
def routerOfCore (p : Nat) : Nat :=
  if p < 1024 then p / 4 else if p < 1088 then spareAttach ((p - 1024) / 4) else 128

/-- The compute die of a core (R19, R22). -/
def dieOfCore (p : Nat) : Nat :=
  if p < 1024 then 4 * (p / 4 / 16 / 4) + p / 4 % 16 / 4 else (p - 1024) / 4

/-- The tile whose claim and clock govern core `p`: TN, or 256 + d for a spare core (R48, R369). -/
def tileOfCore (p : Nat) : Nat := if p < 1024 then p / 4 else 256 + (p - 1024) / 4

/-- The router at which an agent enters the mesh (R21). -/
def routerOf (id : Nat) : Nat :=
  match coreOfAgent id with
  | some p => routerOfCore p
  | none =>
    if id = 0x820 then 16 * 6
    else if 0x830 ≤ id ∧ id < 0x838 then 16 * (2 * (id - 0x830))
    else if 0x838 ≤ id ∧ id < 0x840 then 16 * (2 * (id - 0x838)) + 15
    else if id = 0x840 then 16 * 7
    else if id = 0x841 then 16 * 7 + 15
    else 128

/-- The number of mesh links between two routers (R281). -/
def links (a b : Nat) : Nat :=
  let dx := if a % 16 < b % 16 then b % 16 - a % 16 else a % 16 - b % 16
  let dy := if a / 16 < b / 16 then b / 16 - a / 16 else a / 16 - b / 16
  dx + dy

/-- What the physical address map holds at an address (R34). -/
inductive Place where
  | dram
  /-- Peat window of a PCN, and the offset in it (R35). -/
  | peat (p off : Nat)
  /-- MMIO window of a root port (R36). -/
  | rp (k off : Nat)
  | cfg (off : Nat)
  /-- Doorbell page of an FX function (R37). -/
  | bell (fn off : Nat)
  | rom (off : Nat)
  | none
  deriving DecidableEq, Repr

/-- The address map of R34. -/
def place (pa : Nat) : Place :=
  if pa < 0x080000000000 then .dram
  else if 0xC00000000000 ≤ pa ∧ pa < 0xC00044000000 then
    .peat ((pa - 0xC00000000000) / 0x100000) (pa % 0x100000)
  else if 0xD00000000000 ≤ pa ∧ pa < 0xE00000000000 then
    .rp ((pa - 0xD00000000000) / 0x10000000000) (pa % 0x10000000000)
  else if 0xE00000000000 ≤ pa ∧ pa < 0xE00100000000 then .cfg (pa - 0xE00000000000)
  else if 0xE00100000000 ≤ pa ∧ pa < 0xE00101000000 then
    .bell ((pa - 0xE00100000000) / 0x10000) (pa % 0x10000)
  else if 0xFFFFFFC00000 ≤ pa ∧ pa < 0x1000000000000 then .rom (pa - 0xFFFFFFC00000)
  else .none

/-- The bucket of a line (R295). -/
def bucketOf (pa : Nat) : Nat := (bits pa 6 12 ^^^ bits pa 30 12) ^^^ bits pa 42 6
/-- The directory set of a line (R270). -/
def dirSet (pa : Nat) : Nat := bits pa 6 12 ^^^ bits pa 18 12
/-- The LLC set of a line (R294). -/
def llcSet (pa : Nat) : Nat := bits pa 6 11 ^^^ bits pa 18 11
/-- The L2 set of a line (R216). -/
def l2Set (pa : Nat) : Nat := bits pa 6 10

def rIlv : Reg := ⟨.mcIlv, 0, 0⟩

/-- Mirroring is on (R326). -/
def State.mirror (s : State) : Bool := s.fget rIlv mcIlv_MIRROR = 1

/-- The amount of DRAM (R325). -/
def State.dramTop (s : State) : Nat :=
  (if s.mirror then 8 else 16) * s.fget rIlv mcIlv_CAPG * 2 ^ 30

/-- A DRAM address that is populated: locked, and below C (R325). -/
def State.dramOk (s : State) (pa : Nat) : Bool :=
  decide (s.fget rIlv mcIlv_LOCK = 1 ∧ pa < s.dramTop)

/-- The channel of a line, or the even channel of its pair (R326). -/
def State.chanOf (s : State) (pa : Nat) : Nat :=
  if s.mirror then 2 * (bits pa 8 3 ^^^ bits pa 11 3) else bits pa 8 4 ^^^ bits pa 12 4

def State.chanState (s : State) (k : Nat) : Nat := s.fget ⟨.mcStat, k, 0⟩ mcStat_STATE

/-- A channel that can serve: `ACTIVE`, `RESILVERING` (writes) or `SELFREFRESH` count as holding data; `FAILED` and,
after LOCK, `UNTRAINED` do not (R329). -/
def State.chanDead (s : State) (k : Nat) : Bool :=
  s.chanState k == 2 || s.chanState k == 0

/-- The channel that serves a read of the line (R332, R333). -/
def State.serving (s : State) (pa : Nat) : Nat :=
  if s.mirror then
    let k := s.chanOf pa
    let a := k + bits pa 12 1
    let b := k + (1 - bits pa 12 1)
    if s.chanState a = 1 then a else if s.chanState b = 1 then b else if s.chanState a = 3 then b else a
  else s.chanOf pa

/-- The slice that a requester's router copy names as the home of a line (R296). -/
def State.homeFrom (s : State) (tn pa : Nat) : Nat :=
  tget (bucketOf pa % 256) s.rtBkt (tn, bucketOf pa)

/-- The slice that owns the line's bucket now. -/
def State.homeNow (s : State) (pa : Nat) : Nat := s.fget ⟨.slBkt, bucketOf pa, 0⟩ slBkt_SN

/-- Units of Peat store converted for the sealed and the open copy of core `p` (R225): the `CUR` fields. -/
def Core.peatUnits (c : Core) (world : Bool) : Nat := fld (tget 0 c.arch.cr ⟨world, 0x111#12⟩) peatcfg_CUR

/-- The world that owns the Peat line at a window offset, or none where unpopulated (R225, R35). -/
def Core.peatWorld (c : Core) (off : Nat) : Option Bool :=
  let S := c.peatUnits true
  let O := c.peatUnits false
  if off / 0x10000 < S then some true else if off / 0x10000 < S + O then some false else none

/-- The L2 ways that hold cache lines (R222). -/
def Core.l2Ways (c : Core) : Nat := 8 - (c.peatUnits true + c.peatUnits false)

end Sys2Proof.Machine
end

