-- ==== Sys2Proof/Machine/Net.lean ====
section
/-! DEFINITION. Messages on the mesh: routes, links, epochs and fenced ports (R303–R319), sending and delivery. -/

namespace Sys2Proof.Machine

/-! Routes. -/

/-- The outputs N, S, E, W of a router (R323). -/
inductive Dir where
  | n | s | e | w
  deriving DecidableEq, Repr

def Dir.num : Dir → Nat
  | .n => 0
  | .s => 1
  | .e => 2
  | .w => 3

def dirOfNum (o : Nat) : Dir := if o = 0 then .n else if o = 1 then .s else if o = 2 then .e else .w

def Dir.opp : Dir → Dir
  | .n => .s
  | .s => .n
  | .e => .w
  | .w => .e

/-- The router next to one in a direction (R19). -/
def neighbour (tn : Nat) (d : Dir) : Option Nat :=
  match d with
  | .n => if tn / 16 < 15 then some (tn + 16) else none
  | .s => if 0 < tn / 16 then some (tn - 16) else none
  | .e => if tn % 16 < 15 then some (tn + 1) else none
  | .w => if 0 < tn % 16 then some (tn - 1) else none

/-- The next link of a packet at router `a` on its way to `b` (R308). -/
def nextDir (mode a b : Nat) : Dir :=
  let alongX : Dir := if a % 16 < b % 16 then .e else .w
  let alongY : Dir := if a / 16 < b / 16 then .n else .s
  let sameX := a % 16 == b % 16
  let sameY := a / 16 == b / 16
  match mode with
  | 1 => if sameY then alongX else alongY
  | 2 => if sameY then .n else if sameX then alongY else alongX
  | 3 => if sameY then .s else if sameX then alongY else alongX
  | 4 => if sameX then .e else if sameY then alongX else alongY
  | 5 => if sameX then .w else if sameY then alongX else alongY
  | _ => if sameX then alongY else alongX

/-- The links of a route, each as a router and its output. -/
def route (mode b : Nat) : Nat → Nat → List (Nat × Dir)
  | 0, _ => []
  | n + 1, a =>
    if a = b then []
    else
      let d := nextDir mode a b
      match neighbour a d with
      | some c => (a, d) :: route mode b n c
      | none => []

/-- The router at which a message enters the mesh: its sender's, or the one that re-injected it. -/
def Msg.from (m : Msg) : Nat :=
  match m.atR with
  | some r => r
  | none =>
    if 0x2000 ≤ m.src then (m.src - 0x2000) / 16 else if 0x1000 ≤ m.src then m.src - 0x1000 else routerOf m.src

/-- A port that bifurcation merges into a lower one (R470). -/
def State.rpMerged (s : State) (k : Nat) : Bool :=
  match s.fget ⟨.rpBifur, k / 4, 0⟩ rpBifur_MODE with
  | 1 => k % 4 == 1
  | 2 => k % 4 == 3
  | 3 => k % 4 == 1 || k % 4 == 3
  | 4 => k % 4 != 0
  | _ => false

/-- The port that owns a window, and the offset in its range (R36). -/
def State.rpOwner (s : State) (k off : Nat) : Nat × Nat :=
  let own := fun (m : Nat) => (m, off + (k - m) * 2 ^ 40)
  if !s.rpMerged k then (k, off)
  else if s.fget ⟨.rpBifur, k / 4, 0⟩ rpBifur_MODE = 4 then own (k / 4 * 4)
  else own (k - 1)

/-- The router of the block that decodes an address (R21). -/
def State.blockRouter (s : State) (pa : Nat) : Nat :=
  match place pa with
  | .dram =>
    let k := s.serving pa
    16 * (2 * (k % 8) + bits pa 6 1) + (if k < 8 then 0 else 15)
  | .peat p _ => routerOfCore p
  | .rp k o => routerOf (0x830 + (s.rpOwner k o).1)
  | .bell _ _ => 112
  | _ => 128

/-- The router at which a message leaves the mesh. -/
def State.toRouter (s : State) (m : Msg) : Nat :=
  match m.dst with
  | .agent id => routerOf id
  | .home sn => sn
  | .router tn => tn
  | .target => s.blockRouter m.pa

/-- The active mode of a flow (R308). -/
def State.modeOf (s : State) (a b : Nat) : Nat := s.fget ⟨.meshRt, a, b⟩ meshRt_MODE

/-- The links that a message crosses. -/
def State.routeOf (s : State) (m : Msg) : List (Nat × Dir) :=
  route (s.modeOf m.from (s.toRouter m)) (s.toRouter m) 40 m.from

def State.linkDown (s : State) (l : Nat × Dir) : Bool := s.fget ⟨.meshLink, l.1, l.2.num⟩ meshLink_DOWN == 1

/-- Some link of the mesh is down. -/
def State.anyDown (s : State) : Bool := s.regs.any (fun e => e.1.name == .meshLink && fld e.2 meshLink_DOWN == 1)

/-- A message that must cross a down link is held before it (R315). -/
def State.heldAt (s : State) (m : Msg) : Option (Nat × Dir) :=
  if s.anyDown then (s.routeOf m).find? s.linkDown else none

/-- `LANE` of a packet from router `a` to `b` (R308). -/
def flowLane (mode a b : Nat) : Nat :=
  match mode with
  | 1 => b2n (decide (b % 16 < a % 16))
  | 2 | 3 => b2n (!decide (a % 16 < b % 16))
  | 4 => 1
  | _ => 0

def State.lane (s : State) (m : Msg) : Nat := flowLane (s.modeOf m.from (s.toRouter m)) m.from (s.toRouter m)

/-! Ports. -/

/-- The I/O-die blocks in the order of R21. -/
inductive IoBlock where
  | mc (k : Nat)
  | rp (k : Nat)
  | fp (k : Nat)
  | fx (east : Bool)
  | sp
  | island
  deriving DecidableEq, Repr

/-- The blocks at an edge router, in the order of R21's table. -/
def blocksAt (tn : Nat) : List IoBlock :=
  let y := tn / 16
  if tn % 16 = 0 then
    [.mc (y / 2)] ++ (if y % 2 = 0 then [.rp (y / 2)] else []) ++ [.fp y] ++ (if y = 7 then [.fx false] else []) ++
    (if y = 6 then [.sp] else []) ++ (if y = 8 then [.island] else [])
  else if tn % 16 = 15 then
    [.mc (8 + y / 2)] ++ (if y % 2 = 0 then [.rp (8 + y / 2)] else []) ++ [.fp (16 + y)] ++ (if y = 7 then [.fx true] else [])
  else []

/-- What stands behind port `p` of a router (R318). -/
inductive Endpoint where
  | cores
  | slice
  | spare (d : Nat)
  | io (b : IoBlock)
  deriving DecidableEq, Repr

def endpointAt (tn p : Nat) : Option Endpoint :=
  match p with
  | 0 => some .cores
  | 1 => some .slice
  | n + 2 =>
    if tn % 16 = 0 ∨ tn % 16 = 15 then (blocksAt tn)[n]?.map .io
    else if n = 0 then ((List.range 16).find? (fun d => spareAttach d == tn)).map .spare
    else none

/-- The port of a block at a router. -/
def portOf (tn : Nat) (b : IoBlock) : Nat := (((blocksAt tn).findIdx? (· == b)).getD 6) + 2

/-- The router and port through which a message reaches its receiver. -/
def State.portTo (s : State) (m : Msg) : Nat × Nat :=
  let tn := s.toRouter m
  match m.dst with
  | .home _ => (tn, 1)
  | .router _ => (tn, 8)
  | .agent id =>
    match coreOfAgent id with
    | some p => if p < 1024 then (tn, 0) else if p < 1088 then (tn, 2) else (tn, portOf tn .island)
    | none =>
      (tn, if id = 0x820 then portOf tn .sp
        else if 0x830 ≤ id ∧ id < 0x840 then portOf tn (.rp (id - 0x830))
        else if id = 0x840 ∨ id = 0x841 then portOf tn (.fx (id == 0x841))
        else portOf tn .island)
  | .target =>
    match place m.pa with
    | .dram => (tn, portOf tn (.mc (s.serving m.pa)))
    | .peat p _ => (tn, if p < 1024 then 0 else 2)
    | .rp k o => (tn, portOf tn (.rp (s.rpOwner k o).1))
    | .bell _ _ => (tn, portOf tn (.fx false))
    | _ => (tn, portOf tn .island)

/-- The router and port of the endpoint that sent a message. -/
def State.portFrom (s : State) (m : Msg) : Nat × Nat :=
  if 0x2000 ≤ m.src then ((m.src - 0x2000) / 16, m.src % 16)
  else if 0x1000 ≤ m.src then (m.src - 0x1000, 1)
  else s.portTo { m with dst := .agent m.src }

/-- The input port of a router at which a message arrives on its way (R310): N, S, E, W, or L or X where it is injected; none
of a message that an epoch has re-injected there. -/
def State.inputAt (s : State) (m : Msg) (tn : Nat) : Option Nat :=
  if m.from = tn then (if m.atR.isSome then none else some (if (s.portFrom m).2 < 2 then 4 else 5))
  else (s.routeOf m).findSome? (fun l => if neighbour l.1 l.2 = some tn then some l.2.opp.num else none)

/-- The number under which the block that decodes an address answers: the core whose Peat store it is, or one that tells the
block's router and port (R21). -/
def State.ncFrom (s : State) (pa : Nat) : Nat :=
  match place pa with
  | .peat p _ => agentOf p
  | _ =>
    let q := s.portTo { opc := .ncRead, pa := pa, src := 0, dst := .target }
    0x2000 + 16 * q.1 + q.2

/-- The message that answers an uncached request. -/
def State.ncAnswer (s : State) (m : Msg) (opc : Opc) : Msg :=
  { opc := opc, pa := m.pa, src := s.ncFrom m.pa, dst := .agent m.src, req := m.src, size := m.size, aux := m.aux, vc3 := m.vc3
    world := m.world, dom := m.dom }

/-- The ordering point at which an uncached request arrives (R246, R255): its channel or mirrored pair, its 128 MiB
configuration block, its root port, or the block that decodes it. -/
def State.ordPoint (s : State) (pa : Nat) : Nat :=
  match place pa with
  | .dram => s.chanOf pa
  | .cfg off => 0x10000 + off / 2 ^ 27
  | _ => s.ncFrom pa

/-- The port is fenced. -/
def State.fenced (s : State) (q : Nat × Nat) : Bool := s.fget ⟨.meshPort, q.1, q.2⟩ meshPort_STATE == 3

/-- Some port is fenced. -/
def State.anyFence (s : State) : Bool := s.regs.any (fun e => e.1.name == .meshPort && fld e.2 meshPort_STATE == 3)

/-- The answer of a cache in `I` to a VC1 message (R289, R319). -/
def State.iAnswer (s : State) (id : Nat) (m : Msg) : Option Msg :=
  let home : Node := .home (s.homeNow m.pa)
  match m.opc with
  | .fwdGetS => some { m with opc := .fwdMiss, src := id, dst := home }
  | .inv => some { m with opc := .invAck, src := id, dst := if m.ackTo then home else .agent m.req }
  | .snpClean | .snpCleanInv | .snpDiscard => some { m with opc := .snpAck, src := id, dst := home }
  | .tlbOp => some { m with opc := .tlbAck, src := id, dst := .agent m.req }
  | _ => none

/-! Sending. -/

/-- An endpoint may inject a message in the present epoch state (R316). -/
def State.mayInject (s : State) (m : Msg) : Bool :=
  match s.fget ⟨.meshEpoch, 0, 0⟩ meshEpoch_STATE with
  | 0 => true
  | 1 => m.vc3 || m.opc.vc != 0
  | _ => false

/-- A flow whose route crosses a link that was down when the tables became active (R317). -/
def State.routeErr (s : State) (m : Msg) : State :=
  if s.linkOld.isEmpty then s
  else
    match (s.routeOf m).find? (fun l => s.linkOld.contains (l.1, l.2.num) && s.linkDown l) with
    | some l => (s.fset ⟨.meshStat, l.1, 0⟩ meshStat_ROUTEERR 1).report (2752 + l.1) .uc 4
    | none => s

/-- Puts a message on the mesh. -/
def State.put (s : State) (m : Msg) : State :=
  let m := { m with atR := none, urg := 0, at15 := 0, waits := false, inj := s.mayInject m }
  { s.routeErr m with net := s.net ++ [m] }

/-- A message for a fenced endpoint (R319): its router answers for a caching agent, or discards it. -/
def State.fenceDrop (s : State) (m : Msg) : State :=
  let q := s.portTo m
  let ans := match m.dst with
    | .agent id => if (coreOfAgent id).isSome && m.opc.vc == 1 then s.iAnswer id m else none
    | _ => none
  match ans with
  | some x => s.put x
  | none => (s.fset ⟨.meshStat, q.1, 0⟩ meshStat_FENCEDROP 1).report (2752 + q.1) .uc 5

/-- Sends a message. -/
def State.send (s : State) (m : Msg) : State :=
  if s.anyFence && s.fenced (s.portTo m) then s.fenceDrop m else s.put m

/-- Sends one message to each node. -/
def State.sendAll (s : State) (m : Msg) (ds : List Node) : State := ds.foldl (fun a d => a.send { m with dst := d }) s

/-- Delivers the oldest message that satisfies `f`, if it has been injected and no down link holds it. -/
def State.recv (s : State) (f : Msg → Bool) : Option (Msg × State) :=
  match takeMsg s.ordPoint (fun m => f m && m.inj && (s.heldAt m).isNone) [] s.net with
  | none => none
  | some (m, r) => some (m, { s with net := r })

end Sys2Proof.Machine
end

