-- ==== Sys2Proof/Machine/Gate.lean ====
section
/-! DEFINITION. Memory gatekeepers, key slots, and DRAM behind them (R327–R342). -/

namespace Sys2Proof.Machine

/-- The three words of an active region: base, limit, domains (R338). -/
def State.region (s : State) (inst r : Nat) : Word × Word × Word :=
  (tget 0 s.mgAct (inst, r, 0), tget 0 s.mgAct (inst, r, 1), tget 0 s.mgAct (inst, r, 2))

/-- The region is enabled and holds every byte of [pa, pa + size) (R335, R336). -/
def regionCovers (g : Word × Word × Word) (pa size : Nat) : Bool :=
  fld g.1 mgRgnBase_EN == 1 &&
  decide (fld g.1 mgRgnBase_BASE ≤ pa / 4096) && decide ((pa + size - 1) / 4096 ≤ fld g.2.1 mgRgnLimit_LIMIT)

/-- The region admits the world and domain. -/
def regionAdmits (g : Word × Word × Word) (world : Bool) (dom : Nat) : Bool :=
  fld g.1 mgRgnBase_WORLD == b2n world && g.2.2.getLsbD dom

/-- The regions that cover an access (R336). -/
def State.covering (s : State) (inst pa size : Nat) : List (Word × Word × Word) :=
  ((List.range 64).map (s.region inst)).filter (fun g => regionCovers g pa size)

/-- The gatekeeper instance of a DRAM line (R326, R335). -/
def State.dramGate (s : State) (pa : Nat) : Nat := s.chanOf pa

/-- The key slot of a DRAM line: that of the lowest-numbered enabled region that holds it (R336 step 3). -/
def State.keySlot (s : State) (pa : Nat) : Option Nat :=
  match s.covering (s.dramGate pa) (lineOf pa) 64 with
  | [] => none
  | g :: _ => some (fld g.1 mgRgnBase_KEYSLOT)

/-- STATE of a key slot: 0 EMPTY, 1 GENERATING, 2 VALID (R348). -/
def State.slotState (s : State) (k : Nat) : Nat := s.fget ⟨.mcKeyslot, k, 0⟩ mcKeyslot_STATE

/-- The verdict of R336 on an access: `none` passes, `some reason` refuses. -/
def State.verdict (s : State) (inst : Nat) (world : Bool) (dom : Nat) (r w : Bool) (pa size : Nat) : Option Nat :=
  let S := (s.covering inst pa size).filter (fun g => regionAdmits g world dom)
  if S.isEmpty then some 0
  else if S.all (fun g => (r && fld g.1 mgRgnBase_R == 0) || (w && fld g.1 mgRgnBase_W == 0)) then some 1
  else if inst < 16 then
    match s.keySlot pa with
    | none => some 2
    | some k => if s.slotState k = 0 then some 2 else none
  else none

/-- Records a refusal at a gatekeeper (R336, R349). -/
def State.gateFault (s : State) (inst : Nat) (spec : Bool) (write world : Bool) (dom agent reason pa : Nat) : State :=
  if spec then s else
  let rF : Reg := ⟨.mgFault, inst, 0⟩
  let s :=
    if s.fget rF mgFault_FV = 0 then
      let s := s.fset rF mgFault_FV 1
      let s := s.fset rF mgFault_FMULT 0
      let s := s.fset rF mgFault_WRITE (b2n write)
      let s := s.fset rF mgFault_WORLD (b2n world)
      let s := s.fset rF mgFault_DOMAIN dom
      let s := s.fset rF mgFault_AGENT agent
      let s := s.fset rF mgFault_REASON reason
      let s := s.fset rF mgFault_CNT 1
      s.fset ⟨.mgFaddr, inst, 0⟩ mgFaddr_ADDR pa
    else (s.fset rF mgFault_FMULT 1).finc rF mgFault_CNT
  s.report (3040 + inst) .uc

/-- The gatekeeper instance of a Peat window (R335). -/
def peatGate (p : Nat) : Nat := 16 + dieOfCore p

/-! DRAM contents under the keys. -/

/-- The number that names the free contents of DRAM under a key. -/
def keyTag (k gen : Nat) : Nat := k * 2 ^ 40 + gen

/-- Generation count of a key slot (R341). -/
def State.keyGen (s : State) (k : Nat) : Nat := s.fget ⟨.mcKeyslot, k, 0⟩ mcKeyslot_GENCNT

/-- The plaintext that a read of a line under its present key returns (R340, R341): the bytes last written if they were
written under that key, otherwise free values. -/
def State.dramData (s : State) (pa : Nat) : Line :=
  let k := (s.keySlot pa).getD 0
  let g := s.keyGen k
  let m := if tfind s.memKey (lineOf pa) = some (k, g) then s.mem else []
  memGetLine m (keyTag k g) pa

/-- The channel is in self-refresh: an access that reaches it makes no access (R506). -/
def State.asleep (s : State) (k : Nat) : Bool := s.chanState k == 4

/-- The whole answer of DRAM to a read: data and poison; a dead channel without a survivor, or one in self-refresh, answers
poison (R329, R506). -/
def State.dramRead (s : State) (pa : Nat) : Line × BitVec 4 :=
  if s.chanDead (s.serving pa) || s.asleep (s.serving pa) then (0, 15) else (s.dramData pa, tget 0 s.memPoison (lineOf pa))

/-- A write of a whole line reaches DRAM (R329, R340). -/
def State.dramWrite (s : State) (pa : Nat) (d : Line) (po : BitVec 4) : State :=
  let k := s.serving pa
  if s.chanDead k then s.report (3024 + k) .uc
  else if s.asleep k then s
  else
    match s.keySlot pa with
    | none => { s with memPoison := tput s.memPoison (lineOf pa) 15 }.report (3040 + k) .uc
    | some sl =>
      if s.slotState sl = 0 then { s with memPoison := tput s.memPoison (lineOf pa) 15 }.report (3040 + k) .uc
      else
        { s with
          mem := memPutLine s.mem pa d
          memKey := tput s.memKey (lineOf pa) (sl, s.keyGen sl)
          memPoison := tput s.memPoison (lineOf pa) po }

/-- Queues an access at its channel; it is reserved when its domain holds a credit (R343). -/
def State.chanPush (s : State) (r : ChReq) : State :=
  let k := s.serving r.pa
  let c := tget {} s.chans k
  let cr := match r.dom with
    | none => 0
    | some d => tget 0 c.credit d
  let c' :=
    match r.dom with
    | some d =>
      if cr = 0 then { c with queue := c.queue ++ [{ r with reserved := false }] }
      else { c with queue := c.queue ++ [{ r with reserved := true }]
                    credit := tput c.credit d (cr - 1)
                    granted := tput c.granted d (tget 0 c.granted d + 1) }
    | none => { c with queue := c.queue ++ [{ r with reserved := false }] }
  { s with chans := tput s.chans k c' }

/-- The line as its channel holds it: queued writes laid over DRAM, oldest first. -/
def State.chanLine (s : State) (pa : Nat) : Line × BitVec 4 :=
  let q := (tget {} s.chans (s.serving pa)).queue.filter (fun r => r.write && lineOf r.pa == lineOf pa)
  q.foldl (fun a r => (lineMerge a.1 r.bmask r.data, unpoisonMask a.2 r.bmask ||| r.poison)) (s.dramRead pa)

end Sys2Proof.Machine
end

