-- ==== Sys2Proof/Machine/Cache.lean ====
section
/-! DEFINITION. The cache side of coherence (R216–R234, R286–R293): lines, snoops, evictions, fills. -/

namespace Sys2Proof.Machine

/-- The line record of a core; `none` is state I with nothing in progress. -/
def Core.line (c : Core) (pa : Nat) : Option PLine := tfind c.lines (lineOf pa)
def Core.setLine (c : Core) (pa : Nat) (l : PLine) : Core := { c with lines := tput c.lines (lineOf pa) l }

/-! L1I and L1D (R216–R219, R222). -/

/-- The sets of L1I and L1D that an address selects (R216). -/
def l1iSet (va : Nat) : Nat := bits va 6 7
def l1dSet (pa : Nat) : Nat := bits pa 6 6

/-- The way of `n` in a set of an L1 cache where a line stands with its tags (R218). -/
def l1Find (t : Tab (Nat × Nat) L1Ent) (n set pa : Nat) (world : Bool) (dom : Nat) : Option Nat :=
  (List.range n).find? (fun w =>
    match tfind t (set, w) with
    | some e => e.line == lineOf pa && e.world == world && e.dom == dom
    | none => false)

/-- The entry of L1D that holds a line. -/
def Core.l1dEnt (c : Core) (pa : Nat) : Option L1Ent :=
  (List.range 8).findSome? (fun w => (tfind c.l1d (l1dSet pa, w)).filter (fun e => e.line == lineOf pa))

/-- Changes the entry of L1D that holds a line. -/
def Core.l1dMod (c : Core) (pa : Nat) (f : L1Ent → L1Ent) : Core :=
  { c with l1d := c.l1d.map (fun e => if e.2.line = lineOf pa then (e.1, f e.2) else e) }

/-- Takes a line out of L1I, from both sets that may hold it, and out of L1D (R217). -/
def Core.l1Drop (c : Core) (pa : Nat) : Core :=
  { c with l1i := c.l1i.filter (fun e => e.2.line != lineOf pa), l1d := c.l1d.filter (fun e => e.2.line != lineOf pa) }

def Core.l1iDrop (c : Core) (pa : Nat) : Core := { c with l1i := c.l1i.filter (fun e => e.2.line != lineOf pa) }

/-- The line leaves the core. -/
def Core.dropLine (c : Core) (pa : Nat) : Core := { (c.l1Drop pa) with lines := tdel c.lines (lineOf pa) }

/-- The line with what a dirty L1D copy adds to it (R217). -/
def Core.merged (c : Core) (pa : Nat) (l : PLine) : PLine :=
  match c.l1dEnt pa with
  | some e => if e.dirty then { l with poison := l.poison ||| e.poison } else l
  | none => l

/-- Peat lines. -/
def Core.peatLine (c : Core) (pa : Nat) : PeatLine := tget {} c.peat (pa % 0x100000 / 64)
def Core.setPeatLine (c : Core) (pa : Nat) (l : PeatLine) : Core :=
  { c with peat := tput c.peat (pa % 0x100000 / 64) l }

/-- The address lies in a Peat window. -/
def isPeat (pa : Nat) : Bool :=
  match place pa with
  | .peat _ _ => true
  | _ => false

/-- L1D writes a line back to L2, or to its Peat way (R217, R229). -/
def Core.l1dClean (c : Core) (pa : Nat) : Core :=
  match c.l1dEnt pa with
  | none => c
  | some e =>
    if !e.dirty then c
    else
      let c := c.l1dMod pa (fun e => { e with dirty := false, poison := 0 })
      if isPeat pa then c.setPeatLine pa { c.peatLine pa with poison := (c.peatLine pa).poison ||| e.poison }
      else
        match c.line pa with
        | some l => c.setLine pa { l with poison := l.poison ||| e.poison }
        | none => c

/-- Dirty L1D lines are merged into L2, and both L1 caches are invalidated (R386 step 2, R517). -/
def Core.l1Empty (c : Core) : Core :=
  let c := (c.l1d.map (·.2.line)).foldl Core.l1dClean c
  { c with l1i := [], l1d := [], flaws := c.flaws.filter (fun f => decide (2 ≤ f.st)) }

/-- A request, upgrade or eviction of the line is in progress (R222). -/
def CState.moving : CState → Bool
  | .I | .S | .E | .M | .O => false
  | _ => true

def Core.moving (c : Core) (pa : Nat) : Bool :=
  match c.line pa with
  | some l => l.st.moving
  | none => false

/-- The round-robin choice of a way (R222): the first of `n` from the pointer that nothing keeps. -/
def victim (n ptr : Nat) (busy : Nat → Bool) : Option Nat :=
  if n = 0 then none else ((List.range n).map (fun i => (ptr + i) % n)).find? (fun w => !busy w)

/-- A line enters L1I (R216, R222); `none` while every way of the set is kept. -/
def Core.l1iFill (c : Core) (va pa : Nat) (world : Bool) (dom : Nat) : Option Core :=
  let set := l1iSet va
  (victim 4 (tget 0 c.l1iPtr set) (fun w => ((tfind c.l1i (set, w)).map (fun e => c.moving e.line)).getD false)).map (fun v =>
    { c with l1i := tput c.l1i (set, v) { line := lineOf pa, world := world, dom := dom }
             l1iPtr := tput c.l1iPtr set ((v + 1) % 4) })

/-- A line enters L1D (R216, R222): a dirty victim is written back first. -/
def Core.l1dFill (c : Core) (pa : Nat) (world : Bool) (dom : Nat) : Option Core :=
  let set := l1dSet pa
  (victim 8 (tget 0 c.l1dPtr set) (fun w => ((tfind c.l1d (set, w)).map (fun e => c.moving e.line)).getD false)).map (fun v =>
    let c := match tfind c.l1d (set, v) with
      | some e => c.l1dClean e.line
      | none => c
    { c with l1d := tput c.l1d (set, v) { line := lineOf pa, world := world, dom := dom }
             l1dPtr := tput c.l1dPtr set ((v + 1) % 8) })

/-- The 8-byte units that bytes of a line touch. -/
def unitsOf (off size : Nat) : BitVec 8 :=
  (List.range 8).foldl (fun a i => if 8 * i < off + size ∧ off < 8 * i + 8 then a ||| (1 <<< i) else a) 0

/-- A store into a writable line (R263, R289, R291). -/
def PLine.write (l : PLine) (off size : Nat) (v : Line) : PLine :=
  { l with st := if l.st == .EI_A || l.st == .MI_A then .MI_A else .M
           data := lineSet l.data off size v, poison := unpoison l.poison off size, stored := l.stored ||| unitsOf off size }

def PeatLine.write (l : PeatLine) (off size : Nat) (v : Line) : PeatLine :=
  { data := lineSet l.data off size v, poison := unpoison l.poison off size }

/-- A store writes a line that the core holds, in L1D where it stands there (R125, R217, R229, R263). A value that a load had
read early is no longer current for the core (R248). -/
def Core.storeLine (c : Core) (pa off size : Nat) (v : Line) : Core :=
  let old := c.peatLine pa
  let c := c.l1dMod pa (fun e =>
    { e with dirty := true, poison := unpoison e.poison off size
             under := if isPeat pa && !e.dirty then some old else e.under })
  let c := { c with early := tdel c.early (lineOf pa) }
  if isPeat pa then c.setPeatLine pa (old.write off size v)
  else
    match c.line pa with
    | some l => c.setLine pa (l.write off size v)
    | none => c

/-- The core holds the line with write permission (R77). -/
def PLine.writable (l : PLine) : Bool :=
  l.st == .E || l.st == .M || ((l.st == .MI_A || l.st == .EI_A) && l.way.isSome)

/-- The core holds a current copy of the line. -/
def PLine.holds (l : PLine) : Bool :=
  match l.st with
  | .I | .IS_D | .IM_AD | .IM_A | .II_A => false
  | _ => true

/-- Cinder entries in use (R232). -/
def Core.cinderUsed (c : Core) : Nat := (c.lines.filter (fun e => e.2.cinder)).length

/-- The message that carries an eviction (R289). -/
def putOpc : CState → Opc
  | .M | .MI_A => .putM
  | .O | .OI_A => .putO
  | _ => .putE

/-- A party is in Quiet mode as the core last saw it (R391). -/
def Core.quietFor (c : Core) (world : Bool) (dom : Nat) : Bool := c.quietSeen.contains (b2n world, dom)

/-- Sends a request of core `p` for a line to the home its router copy names (R296). -/
def State.request (s : State) (p : Nat) (opc : Opc) (pa : Nat) (world : Bool) (dom : Nat) (spec : Bool)
    (data : Line := 0) (po : BitVec 4 := 0) (cmoop : Nat := 0) (point : Bool := false) (tag : Nat := 0) : State :=
  s.send { opc := opc, pa := lineOf pa, src := agentOf p, dst := .home (s.homeFrom (routerOfCore p) pa),
           req := agentOf p, world := world, dom := dom, spec := spec, data := data, poison := po,
           cmoop := cmoop, point := point, vc3 := (s.core p).quietFor world dom, tag := tag }

/-- A storage error of core `p` found by a read of a line (R234, R264): an error of L1I takes the line out of it; another
uncorrectable error poisons its unit, and one that strikes a store's only copy is reported as the loss of the store. -/
def State.upset (s : State) (p pa : Nat) (e : Upset) : State :=
  match e with
  | .none | .arise _ | .ariseSl _ => s
  | .ce st => (if st = 0 then s.modCore p (·.l1iDrop pa) else s).report p .ce st
  | .uc st u =>
    if st = 0 then (s.modCore p (·.l1iDrop pa)).report p .ce 0
    else
      let c := s.core p
      let inL1 := st == 1 && (c.l1dEnt pa).isSome
      let units : BitVec 8 := if st = 1 then 1 <<< (u % 8) else 3 <<< (2 * (u % 4))
      let c := if inL1 then c.l1dMod pa (fun e => { e with poison := e.poison ||| units })
        else if isPeat pa then c.setPeatLine pa { c.peatLine pa with poison := (c.peatLine pa).poison ||| units }
        else
          match c.line pa with
          | some l => c.setLine pa { l with poison := l.poison ||| units }
          | none => c
      let lost := match c.line pa with
        | some l => l.stored &&& units != 0
        | none => false
      (s.setCore p { c with lostPend := c.lostPend || lost }).report p .uc (if lost then 4 + st * 16 else st)

/-- A storage error arises in the caches of core `p` (R586). -/
def State.arise (s : State) (p : Nat) (e : Upset) : State :=
  match e with
  | .arise f => s.modCore p (fun c => { c with flaws := c.flaws ++ [f] })
  | _ => s

/-- An error as its read finds it. -/
def flawUpset (f : Flaw) : Upset := if f.uc then .uc f.st f.unit else .ce f.st

/-- A read finds the errors that `f` picks (R586). One in tags or state is reported alone. -/
def State.findFlaws (s : State) (p : Nat) (f : Flaw → Bool) : State :=
  let c := s.core p
  if c.flaws.isEmpty then s
  else
    (c.flaws.filter f).foldl (fun a x =>
      if x.tag then a.report p (if x.uc then .uc else .ce) x.st else a.upset p x.at_ (flawUpset x))
      (s.setCore p { c with flaws := c.flaws.filter (fun x => !f x) })

/-- The data of a line is read in a structure. -/
def State.readFlaws (s : State) (p st pa : Nat) : State :=
  s.findFlaws p (fun x => !x.tag && x.st == st && x.at_ == lineOf pa)

/-- A set of a structure is looked up. -/
def State.lookFlaws (s : State) (p st set : Nat) : State := s.findFlaws p (fun x => x.tag && x.st == st && x.at_ == set)

/-- An error waits to be found in the data of a line in a structure. -/
def Core.flawed (c : Core) (st pa : Nat) : Bool := c.flaws.any (fun x => !x.tag && x.st == st && x.at_ == lineOf pa)

/-- A line is read out of the core, wherever it stands: L1D where that holds it dirty, and L2 or the Cinder buffer. -/
def State.outFlaws (s : State) (p pa : Nat) : State :=
  let c := s.core p
  if c.flaws.isEmpty then s
  else
    let s := match c.l1dEnt pa with
      | some e => if e.dirty then s.readFlaws p 1 pa else s
      | none => s
    match c.line pa with
    | some l => s.readFlaws p (if l.cinder && l.way.isNone then 3 else 2) pa
    | none => s

/-- Removes the line from the caches of core `p`, towards its home (R217, R232, R289): a line in M, O or E takes a
Cinder entry and sends its Put; a line in S is dropped. -/
def State.evict (s : State) (p pa : Nat) : State :=
  let c := s.core p
  match c.line pa with
  | none => s
  | some l =>
    match l.st with
    | .S => s.setCore p (c.dropLine pa)
    | .M | .O | .E =>
      let st' := match l.st with | .M => CState.MI_A | .O => .OI_A | _ => .EI_A
      let s := s.outFlaws p pa
      let c := s.core p
      let l := c.merged pa ((c.line pa).getD l)
      let s := s.setCore p ((c.l1Drop pa).setLine pa { l with st := st', way := none, cinder := true })
      s.request p (putOpc l.st) pa l.world l.dom false l.data (poison4 l.poison)
    | _ => s

/-- A snoop may be deferred while an LDX holds write permission (R78, R293). -/
def deferrable : Opc → Bool
  | .inv | .snpCleanInv | .snpDiscard | .fwdGetM | .fwdGetS => true
  | _ => false

/-- The answer that a cache in `I` gives to a VC1 message (R289, R319). -/
def State.answerI (s : State) (id : Nat) (m : Msg) : State :=
  match s.iAnswer id m with
  | some x => s.send x
  | none => s

/-- Disarms the monitor of a core that loses write permission on its line to another agent (R77). -/
def Core.loseWrite (c : Core) (pa : Nat) : Core :=
  match c.monitor with
  | some (l, _) => if l = lineOf pa then { c with monitor := none } else c
  | none => c

/-- Where a snoop leaves a line (R289, R290): the next state, `none` for `I` with the record gone. -/
def snoopNext (st : CState) (o : Opc) : Option CState :=
  match o, st with
  | .fwdGetS, .E => some .S
  | .fwdGetS, .M => some .O
  | .fwdGetS, .MI_A => some .OI_A
  | .fwdGetS, .EI_A => some .II_A
  | .fwdGetM, .E | .fwdGetM, .M | .fwdGetM, .O => none
  | .fwdGetM, .OM_A => some .IM_AD
  | .fwdGetM, .MI_A | .fwdGetM, .OI_A | .fwdGetM, .EI_A => some .II_A
  | .inv, .S | .inv, .E | .inv, .M | .inv, .O => none
  | .inv, .SM_AD | .inv, .OM_A => some .IM_AD
  | .inv, .MI_A | .inv, .OI_A | .inv, .EI_A => some .II_A
  | .snpClean, .M => some .E
  | .snpClean, .O => some .S
  | .snpClean, .OM_A => some .SM_AD
  | .snpClean, .MI_A => some .EI_A
  | .snpClean, .OI_A => some .II_A
  | .snpCleanInv, .S | .snpCleanInv, .E | .snpCleanInv, .M | .snpCleanInv, .O => none
  | .snpDiscard, .S | .snpDiscard, .E | .snpDiscard, .M | .snpDiscard, .O => none
  | .snpCleanInv, .SM_AD | .snpCleanInv, .OM_A | .snpDiscard, .SM_AD | .snpDiscard, .OM_A => some .IM_AD
  | .snpCleanInv, .MI_A | .snpCleanInv, .OI_A | .snpCleanInv, .EI_A => some .II_A
  | .snpDiscard, .MI_A | .snpDiscard, .OI_A | .snpDiscard, .EI_A => some .II_A
  | _, st => some st

/-- States without a copy that L1 may hold: the copy has gone, or leaves for its home. -/
def CState.dropsL1 : CState → Bool
  | .I | .IS_D | .IM_AD | .IM_A | .II_A => true
  | _ => false

/-- The line is dirty at the agent: SnpClean and SnpCleanInv return its data (R289, R290). -/
def CState.dirty : CState → Bool
  | .M | .O | .OM_A | .MI_A | .OI_A => true
  | _ => false

/-- Answers a snoop from a held line (R289, R290): the message it sends. -/
def snoopAnswer (home : Node) (id : Nat) (l : PLine) (m : Msg) : Msg :=
  let d := { m with src := id, data := l.data, poison := poison4 l.poison }
  match m.opc with
  | .fwdGetS => { d with opc := .data, dst := .agent m.req, grant := 1, rel := l.st == .E || l.st == .EI_A }
  | .fwdGetM => { d with opc := .data, dst := .agent m.req, grant := 3, stored := l.stored }
  | .fwdReadOnce => { d with opc := .roData, dst := .agent m.req }
  | .inv => { m with opc := .invAck, src := id, dst := if m.ackTo then home else .agent m.req }
  | .snpDiscard => { m with opc := .snpAck, src := id, dst := home }
  | _ =>
    if l.st.dirty then { d with opc := .snpData, dst := home }
    else { m with opc := .snpAck, src := id, dst := home }

/-- Whether a state has a copy that answers the message with data; otherwise the answer is that of `I`. -/
def answersFrom (st : CState) (o : Opc) : Bool :=
  match st, o with
  | .I, _ | .IS_D, _ | .IM_AD, _ | .IM_A, _ | .II_A, _ => false
  | .S, _ | .SM_AD, _ | .SM_A, _ => !(o == .fwdGetM || o == .fwdReadOnce)
  | _, _ => true

/-- A snoop reads the data of the line it answers from. -/
def snoopReads (o : Opc) (st : CState) : Bool :=
  match o with
  | .fwdGetS | .fwdGetM | .fwdReadOnce => true
  | .snpClean | .snpCleanInv => st.dirty
  | _ => false

/-- Core `p` handles a VC1 coherence message on a line (R289, R290), deferral aside. The lookup and the read find what
errors they meet (R586); `e` is one that the read finds. -/
def State.snoop (s : State) (p : Nat) (m : Msg) (e : Upset) : State :=
  let s := s.lookFlaws p 2 (l2Set m.pa)
  match (s.core p).line m.pa with
  | none => s.answerI (agentOf p) m
  | some l0 =>
    if answersFrom l0.st m.opc then
      let s := (if snoopReads m.opc l0.st then s.outFlaws p m.pa else s).upset p m.pa e
      let c := s.core p
      let l := c.merged m.pa ((c.line m.pa).getD l0)
      let s := s.send (snoopAnswer (.home (s.homeNow m.pa)) (agentOf p) l m)
      let c := s.core p
      let c' :=
        match snoopNext l.st m.opc with
        | none => c.dropLine m.pa
        | some st' =>
          let c := if m.opc = .snpClean then c.l1dClean m.pa else if st'.dropsL1 then c.l1Drop m.pa else c
          c.setLine m.pa { l with st := st'
                                  stored := if m.opc = .snpClean then 0 else l.stored
                                  way := if st' = .II_A then none else l.way }
      let keeps : Bool := match snoopNext l.st m.opc with
        | some st' => st' == .M || st' == .E || st' == .MI_A || st' == .EI_A
        | none => false
      s.setCore p (if keeps then c' else c'.loseWrite m.pa)
    else s.answerI (agentOf p) m

/-- The deferral of a line ends (R78): the snoops that it held are served in order. -/
def State.endDefer (s : State) (p ln : Nat) : State :=
  let c := s.core p
  (c.deferred.filter (fun m => lineOf m.pa == ln)).foldl (fun a m => a.snoop p m .none)
    (s.setCore p { c with defers := tdel c.defers ln, deferred := c.deferred.filter (fun m => lineOf m.pa != ln) })

/-- Every deferral of the core ends. -/
def State.endDefers (s : State) (p : Nat) : State := ((s.core p).defers.map (·.1)).foldl (fun a ln => a.endDefer p ln) s

/-- Core `p` receives a VC1 coherence message: deferred under R78, otherwise handled. -/
def State.snoopRecv (s : State) (p : Nat) (m : Msg) (e : Upset) : State :=
  let c := s.core p
  let ln := lineOf m.pa
  let hit : Bool := deferrable m.opc && (match c.line ln with
    | some l => l.writable
    | none => false)
  match tfind c.defers ln with
  | some (_ + 1) => if hit then s.setCore p { c with deferred := c.deferred ++ [m] } else s.snoop p m e
  | _ => (s.endDefer p ln).snoop p m e

/-- The way of an L2 set that a fill takes (R222); all ways busy leaves none. -/
def Core.victimWay (c : Core) (set : Nat) : Option Nat :=
  victim c.l2Ways (tget 0 c.l2ptr set) (fun w => c.lines.any (fun e => e.2.way == some w && decide (l2Set e.1 = set) && e.2.st.moving))

/-- The line in a way of an L2 set. -/
def Core.inWay (c : Core) (set w : Nat) : Option Nat :=
  (c.lines.find? (fun e => e.2.way == some w && decide (l2Set e.1 = set))).map (·.1)

/-- A line that has arrived takes a way of its L2 set (R222, R232): the victim leaves first; `none` while the fill
must wait for a Cinder entry or a way. -/
def State.install (s : State) (p pa : Nat) : Option State :=
  let c := s.core p
  match c.line pa, c.victimWay (l2Set pa) with
  | some l, some w =>
    let set := l2Set pa
    let victim := c.inWay set w
    let needs : Bool := match victim with
      | none => false
      | some v => match c.line v with
        | some x => x.st == .M || x.st == .O || x.st == .E
        | none => false
    if needs && c.cinderUsed ≥ 32 then none
    else
      let s := match victim with
        | none => s
        | some v => s.evict p v
      some (s.modCore p (fun c =>
        { (c.setLine pa { l with way := some w, want := false }) with
          l2ptr := tput c.l2ptr set ((w + 1) % c.l2Ways), fills := c.fills.erase (lineOf pa) }))
  | _, _ => none

/-- The Unblock that a requester or putter owes its home (R280, R290). -/
def State.unblock (s : State) (id pa res : Nat) : State :=
  s.send { opc := .unblock, pa := lineOf pa, src := id, dst := .home (s.homeNow pa), req := id, res := res }

/-- A line that has arrived waits for a way behind those that arrived before it (R232). -/
def Core.arrived (c : Core) (pa : Nat) (l : PLine) : Core :=
  { (c.setLine pa l) with fills := if l.way.isNone then c.fills.erase (lineOf pa) ++ [lineOf pa] else c.fills }

/-- A line that has arrived has no way yet. -/
def PLine.waits (l : PLine) : Bool := l.way.isNone && !l.cinder && (l.st == .S || l.st == .E || l.st == .M || l.st == .O)

/-- An earlier fill of the same set still waits (R232). -/
def Core.fillBehind (c : Core) (pa : Nat) : Bool :=
  (c.fills.takeWhile (fun x => x != lineOf pa)).any (fun x =>
    decide (l2Set x = l2Set pa) && ((c.line x).map PLine.waits).getD false)

/-- Completes an acquisition whose acknowledgements have all arrived (R290). -/
def State.complete (s : State) (p pa : Nat) (l : PLine) : State :=
  if l.ackcnt = some l.acks then
    (s.modCore p (·.arrived pa { l with st := .M, acks := 0, ackcnt := none })).unblock (agentOf p) pa 0
  else s.modCore p (·.setLine pa l)

/-- A Data message reaches core `p` (R290). -/
def State.dataRecv (s : State) (p : Nat) (m : Msg) : State :=
  match (s.core p).line m.pa with
  | none => s
  | some l =>
    let l' := { l with data := m.data, poison := poison8 m.poison, stored := m.stored }
    match l.st with
    | .IS_D =>
      let st' := if m.grant = 2 then CState.E else if m.grant = 3 then .M else .S
      (s.modCore p (·.arrived m.pa { l' with st := st' })).unblock (agentOf p) m.pa (if m.rel then 1 else 0)
    | .IM_AD | .SM_AD => s.complete p m.pa { l' with st := .IM_A, ackcnt := some m.ackcnt }
    | _ => s

/-- An AckCount reaches core `p` (R290). -/
def State.ackCountRecv (s : State) (p : Nat) (m : Msg) : State :=
  match (s.core p).line m.pa with
  | none => s
  | some l =>
    match l.st with
    | .SM_AD | .OM_A => s.complete p m.pa { l with st := .SM_A, ackcnt := some m.ackcnt }
    | _ => s

/-- An InvAck reaches core `p` (R290). -/
def State.invAckRecv (s : State) (p : Nat) (m : Msg) : State :=
  match (s.core p).line m.pa with
  | none => s
  | some l =>
    match l.st with
    | .IM_AD | .IM_A | .SM_AD | .SM_A | .OM_A => s.complete p m.pa { l with acks := l.acks + 1 }
    | _ => s

/-- A PutAck reaches core `p` (R291). -/
def State.putAckRecv (s : State) (p : Nat) (m : Msg) : State :=
  match (s.core p).line m.pa with
  | none => s
  | some l =>
    match l.st with
    | .MI_A | .OI_A | .EI_A =>
      if l.way.isSome then
        let st' := match l.st with | .MI_A => CState.M | .OI_A => .O | _ => .E
        (s.modCore p (·.setLine m.pa { l with st := st', cinder := false })).unblock (agentOf p) m.pa 2
      else (s.modCore p (fun c => (c.dropLine m.pa).loseWrite m.pa)).unblock (agentOf p) m.pa 0
    | _ => s

/-- A StalePutAck reaches core `p` (R290). -/
def State.stalePutAckRecv (s : State) (p : Nat) (m : Msg) : State :=
  match (s.core p).line m.pa with
  | some l => if l.st = .II_A then s.modCore p (·.dropLine m.pa) else s
  | none => s

/-- The tag of a prefetch (R236): its refusal is nobody's. -/
def prefetchTag : Nat := 1

/-- A Refuse reaches core `p` (R290, R127): the line returns to the state it had, and the access is marked. -/
def State.refuseRecv (s : State) (p : Nat) (m : Msg) : State :=
  let mark := fun (c : Core) =>
    if m.tag = prefetchTag then c
    else if m.spec then { c with specRefused := c.specRefused ++ [m.pa] } else { c with refused := c.refused ++ [m.pa] }
  match (s.core p).line m.pa with
  | none => s.modCore p mark
  | some l =>
    match l.st with
    | .IS_D | .IM_AD => s.modCore p (fun c => mark (c.dropLine m.pa))
    | .SM_AD => s.modCore p (fun c => mark (c.setLine m.pa { l with st := .S, acks := 0 }))
    | .OM_A => s.modCore p (fun c => mark (c.setLine m.pa { l with st := .O, acks := 0 }))
    | _ => s.modCore p mark

end Sys2Proof.Machine
end

