-- ==== Sys2Proof/Machine/Home.lean ====
section
/-! DEFINITION. The home side of coherence: directory, LLC ways, transactions (R268–R302). -/

namespace Sys2Proof.Machine

/-! The directory. -/

/-- The way of a line in the directory, with its entry. -/
def State.dirFind (s : State) (sn pa : Nat) : Option (Nat × DirEnt) :=
  (List.range 16).findSome? (fun w =>
    match tfind s.dir (sn, dirSet pa, w) with
    | some e => if e.line = lineOf pa then some (w, e) else none
    | none => none)

/-- The bit of a coarse vector that covers an agent: its tile, or 256 for a Collier core (R273). -/
def vecBit (id : Nat) : Nat :=
  match coreOfAgent id with
  | some p => if p < 1088 then routerOfCore p else 256
  | none => 256

/-- The LCN mapped to a PCN (R23, R24). -/
def State.lcnOf (s : State) (p : Nat) : Option Nat :=
  if p < 1088 then
    (if p < 1024 ∧ s.fget ⟨.cfgLcnmap, p, 0⟩ cfgLcnmap_PCN = p then some p
     else (List.range 1024).find? (fun n => s.fget ⟨.cfgLcnmap, n, 0⟩ cfgLcnmap_PCN == p))
  else none

/-- The Twin pair a core belongs to while formed: its index and whether the core leads (R378). -/
def State.twinOf (s : State) (p : Nat) : Option (Nat × Bool) :=
  match s.lcnOf p with
  | some n => if (s.rd ⟨.cfgTwin, n / 2, 0⟩).getLsbD 0 then some (n / 2, n % 2 == 0) else none
  | none => none

/-- The core follows in a formed pair: it executes what its leader executes (R381). -/
def State.follows (s : State) (p : Nat) : Bool :=
  match s.twinOf p with
  | some (_, lead) => !lead
  | none => false

/-- The core leads a formed pair. -/
def State.leads (s : State) (p : Nat) : Bool :=
  match s.twinOf p with
  | some (_, lead) => lead
  | none => false

/-- The caching agents that one bit of a coarse vector covers (R273). A Twin pair is one agent, its leader (R268). -/
def State.covered (s : State) (b : Nat) : List Nat :=
  if b = 256 then [0x800, 0x801, 0x802, 0x803]
  else
    ((List.range 4).map (fun c => 4 * b + c) ++
      ((List.range 16).filter (fun d => spareAttach d == b)).flatMap (fun d =>
        ((List.range 4).map (fun k => 1024 + 4 * d + k)).filter (fun p => (s.core p).run != .off))).filter
      (fun p => !s.follows p)

/-- The sharers an entry lists, without the owner. -/
def State.listed (s : State) (e : DirEnt) : List Nat :=
  let l := if e.coarse then ((List.range 257).filter (fun b => e.vec.getLsbD b)).flatMap s.covered else e.ptrs
  if e.st = 1 then l else l.filter (fun a => a != e.owner)

/-- "Listed" of R282. -/
def DirEnt.lists (e : DirEnt) (id : Nat) : Bool :=
  (e.st != 1 && e.owner == id) || (if e.coarse then e.vec.getLsbD (vecBit id) else e.ptrs.contains id)

/-- Adds a sharer (R273): a fifth makes the list coarse. -/
def DirEnt.addSharer (e : DirEnt) (id : Nat) : DirEnt :=
  if e.coarse then { e with vec := e.vec ||| (1 <<< vecBit id) }
  else if e.ptrs.contains id then e
  else if e.ptrs.length < 4 then { e with ptrs := e.ptrs ++ [id] }
  else { e with coarse := true, ptrs := [],
                vec := (e.ptrs ++ [id]).foldl (fun v a => v ||| (1 <<< vecBit a)) 0 }

/-- Takes a sharer off a precise list. -/
def DirEnt.dropSharer (e : DirEnt) (id : Nat) : DirEnt := { e with ptrs := e.ptrs.filter (fun a => a != id) }

/-- Takes agents off a list (R283): a bit of a coarse list goes when every agent that it covers is gone. -/
def State.dropSharers (s : State) (e : DirEnt) (gone : List Nat) : DirEnt :=
  if e.coarse then
    { e with vec := (List.range 257).foldl (fun v b =>
        if e.vec.getLsbD b && (s.covered b).all (fun a => gone.contains a || (e.st != 1 && e.owner == a)) then
          v &&& ~~~(1#257 <<< b)
        else v) e.vec }
  else gone.foldl DirEnt.dropSharer e

/-- The list of an entry names nobody. -/
def DirEnt.empty (e : DirEnt) : Bool := if e.coarse then e.vec == 0 else e.ptrs.isEmpty

/-- What an entry that cannot be read stands for (R274): every caching agent holds the line. -/
def DirEnt.lost (e : DirEnt) : DirEnt := { e with st := 1, coarse := true, vec := BitVec.allOnes 257 }

def dxEntry (pa id : Nat) : DirEnt := { line := lineOf pa, st := 2, owner := id }

/-! Tree pseudo-LRU over 16 ways (R284): node 0 is the root, the children of node i are 2i+1 and 2i+2. -/

/-- Sets the bits on the path of way `w` to point away from it. -/
def plruTouch (b : BitVec 15) (w : Nat) : BitVec 15 :=
  let n1 := w / 8 % 2
  let n2 := 1 + n1
  let n3 := 2 * n2 + 1 + w / 4 % 2
  let n4 := 2 * n3 + 1 + w / 2 % 2
  let set := fun (v : BitVec 15) (i x : Nat) => if x = 1 then v &&& ~~~(1#15 <<< i) else v ||| (1#15 <<< i)
  set (set (set (set b 0 n1) n2 (w / 4 % 2)) n3 (w / 2 % 2)) n4 (w % 2)

/-- The victim's way: each node enters the half its bit selects unless every way there is held. -/
def plruVictim (b : BitVec 15) (held : Nat → Bool) : Nat :=
  let pick := fun (node lo half : Nat) =>
    let want := if b.getLsbD node then 1 else 0
    if (List.range half).all (fun i => held (lo + want * half + i)) then 1 - want else want
  let a := pick 0 0 8
  let n2 := 1 + a
  let c := pick n2 (a * 8) 4
  let n3 := 2 * n2 + 1 + c
  let d := pick n3 (a * 8 + c * 4) 2
  let n4 := 2 * n3 + 1 + d
  let e := pick n4 (a * 8 + c * 4 + d * 2) 1
  a * 8 + c * 4 + d * 2 + e

def State.touchDir (s : State) (sn pa w : Nat) : State :=
  { s with plru := tput s.plru (sn, dirSet pa) (plruTouch (tget 0 s.plru (sn, dirSet pa)) w) }

/-- A directory way is held by an open transaction (R278). -/
def State.wayHeld (s : State) (sn set w : Nat) : Bool :=
  s.txns.any (fun t => t.1.1 == sn && dirSet t.1.2 == set && t.2.way == some w)

/-- A line is held at its home: a transaction is open for it, or recalls it (R278, R285). -/
def State.lineHeld (s : State) (sn pa : Nat) : Bool :=
  s.txns.any (fun t => t.1.1 == sn && (t.1.2 == lineOf pa || t.2.victim == some (lineOf pa)))

/-! LLC ways. -/

/-- The allocating mask of a world and domain (R297). -/
def State.wmask (s : State) (world : Bool) (dom : Nat) : BitVec 16 :=
  BitVec.ofNat 16 (s.fget ⟨.slWmask, b2n world, dom⟩ slWmask_MASK)

def State.llcFind (s : State) (sn pa : Nat) : Option (Nat × LlcLine) :=
  (List.range 16).findSome? (fun w =>
    match tfind s.llc (sn, llcSet pa, w) with
    | some e => if e.line = lineOf pa then some (w, e) else none
    | none => none)

/-! Storage errors of a slice (R274, R294, R586). -/

/-- A data error found in a way of the slice. -/
def State.llcUpset (s : State) (sn set w : Nat) (uc : Bool) (u : Nat) : State :=
  match tfind s.llc (sn, set, w) with
  | none => s
  | some x =>
    if uc then
      (({ s with llc := tput s.llc (sn, set, w) { x with poison := x.poison ||| (1 <<< (u % 4)) } }).finc
        ⟨.slErr, sn, 0⟩ slErr_DUE).report (2240 + sn) .uc
    else (s.finc ⟨.slErr, sn, 0⟩ slErr_DCE).report (2240 + sn) .ce

/-- An error of a slice's data ways lies in tags or state: it is found at a lookup of the set. -/
def slFlawTag (f : SlFlaw) : Bool := decide (f.unit ≥ 4)

/-- A data way is read, and the errors in it are found. -/
def State.llcRead (s : State) (sn set w : Nat) : State :=
  if s.slFlaws.isEmpty then s
  else
    let hit := fun (f : SlFlaw) => !f.dir && !slFlawTag f && f.sn == sn && f.at_ == set && f.way == w
    (s.slFlaws.filter hit).foldl (fun a f => a.llcUpset sn set w f.uc f.unit)
      { s with slFlaws := s.slFlaws.filter (fun f => !hit f) }

/-- The data of a line is read in the slice. -/
def State.llcReadLine (s : State) (sn pa : Nat) : State :=
  match s.llcFind sn pa with
  | some (w, _) => s.llcRead sn (llcSet pa) w
  | none => s

/-- A set of the slice is looked up: errors in tags and state are found. -/
def State.llcLook (s : State) (sn pa : Nat) : State :=
  if s.slFlaws.isEmpty then s
  else
    let hit := fun (f : SlFlaw) => !f.dir && slFlawTag f && f.sn == sn && f.at_ == llcSet pa
    (s.slFlaws.filter hit).foldl (fun a f =>
      (a.finc ⟨.slErr, sn, 0⟩ (if f.uc then slErr_DUE else slErr_DCE)).report (2240 + sn) (if f.uc then .uc else .ce))
      { s with slFlaws := s.slFlaws.filter (fun f => !hit f) }

/-- An error of the operand of a command lies in the line it names; one that arises is kept until it is read. -/
def State.llcUpsetLine (s : State) (sn pa : Nat) (e : Upset) : State :=
  match s.llcFind sn pa, e with
  | some (w, _), .ce _ => s.llcUpset sn (llcSet pa) w false 0
  | some (w, _), .uc _ u => s.llcUpset sn (llcSet pa) w true u
  | _, _ => s

def State.ariseSl (s : State) (e : Upset) : State :=
  match e with
  | .ariseSl f => { s with slFlaws := s.slFlaws ++ [f] }
  | _ => s

/-- touch(v, M) of R298. -/
def llcTouch (u m : BitVec 16) (v : Nat) : BitVec 16 :=
  let u' := u ||| (1 <<< v)
  if u' &&& m = m then (u' &&& ~~~m) ||| (1 <<< v) else u'

/-- A hit on way `v` by a requester with mask `m` (R298). -/
def State.llcHit (s : State) (sn pa v : Nat) (m : BitVec 16) : State :=
  if m.getLsbD v then
    { s with used := tput s.used (sn, llcSet pa) (llcTouch (tget 0 s.used (sn, llcSet pa)) m v) }
  else s

/-- A line-wide write from the home to its memory channel (R332): it belongs to no domain's verdict. -/
def State.memWrite (s : State) (pa : Nat) (d : Line) (po : BitVec 4) (dom : Option Nat := none) : State :=
  s.chanPush { pa := lineOf pa, write := true, dom := dom, reserved := false, data := d, poison := po,
               bmask := BitVec.allOnes 64 }

/-- A fill of R298: takes a way of the mask, evicting its line (dirty to memory). With mask 0 nothing is kept: a dirty
line goes to memory (R297). -/
def State.llcFill (s : State) (sn pa : Nat) (d : Line) (po : BitVec 4) (dirty : Bool) (m : BitVec 16) : State :=
  let set := llcSet pa
  let inM := (List.range 16).filter (fun w => m.getLsbD w)
  let u := tget 0 s.used (sn, set)
  let c1 := inM.filter (fun w => (tfind s.llc (sn, set, w)).isNone)
  let c2 := if c1.isEmpty then inM.filter (fun w => !u.getLsbD w) else c1
  let c3 := if c2.isEmpty then inM else c2
  match c3 with
  | [] => if dirty then s.memWrite pa d po else s
  | v :: _ =>
    let s := s.llcRead sn set v
    let s := match tfind s.llc (sn, set, v) with
      | some x => if x.dirty then s.memWrite x.line x.data x.poison else s
      | none => s
    { s with llc := tput s.llc (sn, set, v) ⟨lineOf pa, dirty, d, po⟩
             used := tput s.used (sn, set) (llcTouch u m v) }

/-- Kept dirty data enters the slice (R297): in place when present, otherwise under the mask. -/
def State.llcKeep (s : State) (sn pa : Nat) (d : Line) (po : BitVec 4) (m : BitVec 16) : State :=
  match s.llcFind sn pa with
  | some (w, _) => ({ s with llc := tput s.llc (sn, llcSet pa, w) ⟨lineOf pa, true, d, po⟩ }).llcHit sn pa w m
  | none => s.llcFill sn pa d po true m

/-- A write of WriteUnique or WritePtl (R297): in place when present, otherwise to memory. -/
def State.homeWrite (s : State) (sn pa : Nat) (d : Line) (po : BitVec 4) (m : BitVec 16) (dom : Nat) : State :=
  match s.llcFind sn pa with
  | some (w, _) => ({ s with llc := tput s.llc (sn, llcSet pa, w) ⟨lineOf pa, true, d, po⟩ }).llcHit sn pa w m
  | none => s.memWrite pa d po (some dom)

/-- Removes a line from the slice. -/
def State.llcDrop (s : State) (sn pa : Nat) : State :=
  match s.llcFind sn pa with
  | some (w, _) => { s with llc := tdel s.llc (sn, llcSet pa, w) }
  | none => s

/-! Transactions. -/

def State.setTxn (s : State) (sn pa : Nat) (t : Txn) : State := { s with txns := tput s.txns (sn, lineOf pa) t }

/-- Closes a transaction: the new directory state takes effect (R280). -/
def State.closeTxn (s : State) (sn pa : Nat) (t : Txn) : State :=
  let s := { s with txns := tdel s.txns (sn, lineOf pa) }
  match t.way with
  | none => s
  | some w =>
    match t.after with
    | none => { s with dir := tdel s.dir (sn, dirSet pa, w) }
    | some e => { s with dir := tput s.dir (sn, dirSet pa, w) e }

/-- The home answers the opener of a transaction. -/
def State.answer (s : State) (sn : Nat) (m : Msg) (opc : Opc) (d : Line := 0) (po : BitVec 4 := 0) (grant n : Nat := 0) :
    State :=
  s.send { m with opc := opc, src := 0x1000 + sn, dst := .agent m.req, data := d, poison := po, grant := grant, ackcnt := n }

/-- The nearest of a list of agents to a requester (R281): fewest links, then lowest agent ID. -/
def nearest (r : Nat) (l : List Nat) : Option Nat :=
  l.foldl (fun best a =>
    match best with
    | none => some a
    | some b =>
      let da := links (routerOf r) (routerOf a)
      let db := links (routerOf r) (routerOf b)
      if da < db ∨ (da = db ∧ a < b) then some a else some b) none

/-- The home sends a snoop. -/
def State.snoopTo (s : State) (sn : Nat) (m : Msg) (opc : Opc) (a : Nat) (n : Nat := 0) (ackTo : Bool := false) : State :=
  s.send { m with opc := opc, src := 0x1000 + sn, dst := .agent a, ackcnt := n, ackTo := ackTo }

def State.snoopList (s : State) (sn : Nat) (m : Msg) (opc : Opc) (l : List Nat) (ackTo : Bool := false) : State :=
  l.foldl (fun a x => a.snoopTo sn m opc x 0 ackTo) s

/-- The line is at the home (LLC or memory) and is sent, or its read from memory is queued (R282). A line read from
memory for GetS, GetM or Upg enters the slice under the opener's mask (R297). -/
def State.supply (s : State) (sn : Nat) (t : Txn) : State :=
  let m := t.msg
  let opc := if m.opc = .readOnce then Opc.roData else .data
  let s := s.llcReadLine sn m.pa
  match s.llcFind sn m.pa with
  | some (w, x) =>
    let s := s.llcHit sn m.pa w (s.wmask m.world m.dom)
    (s.answer sn m opc x.data x.poison t.grant t.n).setTxn sn m.pa { t with phase := .unblock }
  | none =>
    (s.chanPush { pa := m.pa, write := false, dom := some m.dom, reserved := false, who := .home sn m.pa }).setTxn sn m.pa
      { t with phase := .mem }

/-- Performs the write of a WritePtl or WriteUnique whose line is collected, and closes (R282, R280). -/
def State.finishWrite (s : State) (sn : Nat) (t : Txn) : State :=
  let m := t.msg
  let d := lineMerge t.data m.bmask m.data
  let po := unpoisonMask t.poison m.bmask ||| m.poison
  let s := s.homeWrite sn m.pa d po (s.wmask m.world m.dom) m.dom
  (s.answer sn m .wrAck).closeTxn sn m.pa { t with after := none }

/-- Reads, merges and writes a WritePtl with no dirty copy outside the home; a WriteUnique needs no read. -/
def State.mergeWrite (s : State) (sn : Nat) (t : Txn) : State :=
  let m := t.msg
  if m.opc = .writeUnique then s.finishWrite sn t
  else if t.got then s.finishWrite sn t
  else
    let s := s.llcReadLine sn m.pa
    match s.llcFind sn m.pa with
    | some (_, x) => s.finishWrite sn { t with data := x.data, poison := x.poison }
    | none =>
      (s.chanPush { pa := m.pa, write := false, dom := some m.dom, reserved := false, who := .home sn m.pa }).setTxn sn m.pa
        { t with phase := .mem }

/-- Finishes a CmoReq whose snoops have all answered (R283). -/
def State.finishCmo (s : State) (sn : Nat) (t : Txn) : State :=
  let m := t.msg
  let inval := m.cmoop != 0
  let discard := m.cmoop == 1
  let mask := s.wmask m.world m.dom
  let s :=
    if m.point then
      let s := if t.got || discard then s else s.llcReadLine sn m.pa
      let s :=
        if t.got then s.memWrite m.pa t.data t.poison (some m.dom)
        else match s.llcFind sn m.pa with
          | some (_, x) => if x.dirty && !discard then s.memWrite m.pa x.data x.poison (some m.dom) else s
          | none => s
      if inval then s.llcDrop sn m.pa
      else match s.llcFind sn m.pa with
        | some (w, x) =>
          let x := if t.got then { x with data := t.data, poison := t.poison } else x
          { s with llc := tput s.llc (sn, llcSet m.pa, w) { x with dirty := false } }
        | none => s
    else if t.got then s.llcKeep sn m.pa t.data t.poison mask else s
  let after := match t.after with
    | none => none
    | some e =>
      let e1 := s.dropSharers e t.removed
      if e.st ≠ 1 ∧ t.removed.contains e.owner then
        (if e.st = 2 then none else some { e1 with st := 1 })
      else if e.st = 3 ∧ t.cleaned.contains e.owner then some ({ e1 with st := 1 }.addSharer e.owner)
      else some e1
  let after := match after with
    | some e => if e.st = 1 ∧ e.empty then none else some e
    | none => none
  (s.answer sn m .cmoAck).closeTxn sn m.pa { t with after := after }

/-- A started request acts on the directory entry that its line has (R281–R283). `w` is its way, if any. -/
def State.act (s : State) (sn : Nat) (m : Msg) (w : Option Nat) (e : Option DirEnt) : State :=
  let r := m.req
  let t : Txn := { msg := m, phase := .unblock, way := w, after := e }
  match m.opc with
  | .getS =>
    match e with
    | none => s.supply sn { t with after := some (dxEntry m.pa r), grant := 2 }
    | some d =>
      if d.st = 1 then
        let t := { t with after := some (d.addSharer r), grant := 1 }
        let fwd := if d.coarse then none else nearest r (d.ptrs.filter (fun a => a != r))
        match s.llcFind sn m.pa, fwd with
        | none, some h => (s.snoopTo sn m .fwdGetS h).setTxn sn m.pa t
        | _, _ => s.supply sn t
      else if d.st = 2 then
        (s.snoopTo sn m .fwdGetS d.owner).setTxn sn m.pa
          { t with after := some { line := lineOf m.pa, st := 3, owner := d.owner, ptrs := [r] } }
      else
        let cand := if d.coarse then [d.owner] else (d.owner :: d.ptrs).filter (fun a => a != r)
        (s.snoopTo sn m .fwdGetS ((nearest r cand).getD d.owner)).setTxn sn m.pa { t with after := some (d.addSharer r) }
  | .getM | .upg =>
    let t := { t with after := some (dxEntry m.pa r), grant := 3 }
    match e with
    | none => s.supply sn t
    | some d =>
      let sh := (s.listed d).filter (fun a => a != r)
      if m.opc = .upg ∧ d.lists r then
        if d.st = 3 ∧ d.owner ≠ r then
          let all := d.owner :: sh
          ((s.snoopList sn m .inv all).answer sn m .ackCount 0 0 0 all.length).setTxn sn m.pa t
        else
          ((s.snoopList sn m .inv sh).answer sn m .ackCount 0 0 0 sh.length).setTxn sn m.pa t
      else if d.st = 1 then (s.snoopList sn m .inv sh).supply sn { t with n := sh.length }
      else if d.st = 2 then (s.snoopTo sn m .fwdGetM d.owner 0).setTxn sn m.pa t
      else ((s.snoopTo sn m .fwdGetM d.owner sh.length).snoopList sn m .inv sh).setTxn sn m.pa t
  | .readOnce =>
    match e with
    | none => s.supply sn t
    | some d => if d.st = 1 then s.supply sn t else (s.snoopTo sn m .fwdReadOnce d.owner).setTxn sn m.pa t
  | .writeUnique =>
    match e with
    | none => s.mergeWrite sn t
    | some d =>
      let l := (if d.st = 1 then [] else [d.owner]) ++ s.listed d
      if l.isEmpty then s.mergeWrite sn t
      else (s.snoopList sn m .inv l true).setTxn sn m.pa { t with phase := .snoop, acks := l.length }
  | .writePtl =>
    match e with
    | none => s.mergeWrite sn t
    | some d =>
      let sh := s.listed d
      let s := if d.st = 1 then s else s.snoopTo sn m .snpCleanInv d.owner
      let n := sh.length + (if d.st = 1 then 0 else 1)
      if n = 0 then s.mergeWrite sn t
      else (s.snoopList sn m .inv sh true).setTxn sn m.pa { t with phase := .snoop, acks := n }
  | .cmoReq =>
    let op := if m.cmoop = 0 then Opc.snpClean else if m.cmoop = 1 then .snpDiscard else .snpCleanInv
    match e with
    | none => s.finishCmo sn t
    | some d =>
      let l :=
        if m.point then (if d.st = 1 then [] else [d.owner]) ++ s.listed d
        else if d.lists r then [r] else []
      if l.isEmpty then s.finishCmo sn t
      else (s.snoopList sn m op l).setTxn sn m.pa { t with phase := .snoop, acks := l.length }
  | .putM | .putO | .putE =>
    match e with
    | some d =>
      if d.st ≠ 1 ∧ d.owner = m.src then
        let s := if m.opc = .putE then s else s.llcKeep sn m.pa m.data m.poison (s.wmask m.world m.dom)
        let after := if d.st = 2 then none else some { d with st := 1 }
        (s.answer sn m .putAck).setTxn sn m.pa { t with after := after }
      else s.answer sn m .stalePutAck
    | none => s.answer sn m .stalePutAck
  | .bktXfer =>
    let s := { s with txns := tdel s.txns (sn, lineOf m.pa) }
    let s := match w, m.ent with
      | some w, some d => { s with dir := tput s.dir (sn, dirSet m.pa, w) d }
      | _, _ => s
    let s := if m.res = 1 then s.llcKeep sn m.pa m.data m.poison (BitVec.allOnes 16) else s
    s.send { m with opc := .bktAck, src := 0x1000 + sn, dst := .home (m.src - 0x1000), ent := none }
  | _ => s

/-- The permission a request needs (R279): read, write. -/
def needs (m : Msg) : Bool × Bool :=
  match m.opc with
  | .getS | .readOnce => (true, false)
  | .getM | .upg | .writeUnique | .writePtl => (false, true)
  | .cmoReq => if m.cmoop = 0 ∨ m.cmoop = 2 then (true, false) else (false, true)
  | _ => (false, false)

/-- The request is a Put, which needs no verdict and no entry (R279). -/
def isPut (o : Opc) : Bool := o == .putM || o == .putO || o == .putE

/-- The request takes a directory entry when its line has none (R282). -/
def needsWay (o : Opc) : Bool := o == .getS || o == .getM || o == .upg

/-- The home recalls a line (R285): SnpCleanInv to the owner and every listed sharer. The transaction waits. -/
def State.recall (s : State) (sn : Nat) (m : Msg) (w : Nat) (e : DirEnt) : State :=
  let l := (if e.st = 1 then [] else [e.owner]) ++ s.listed e
  let t : Txn := { msg := m, phase := .recall, way := some w, victim := some e.line, acks := l.length }
  if l.isEmpty then
    ({ s with dir := tdel s.dir (sn, dirSet m.pa, w) }).act sn m (some w) none
  else (s.snoopList sn { m with pa := e.line } .snpCleanInv l).setTxn sn m.pa t

/-- The home counts and reports an error in a directory entry (R274). -/
def State.dirReport (s : State) (sn : Nat) (uc : Bool) : State :=
  if uc then (s.finc ⟨.slErr, sn, 0⟩ slErr_RUE).report (2496 + sn) .uc
  else (s.finc ⟨.slErr, sn, 0⟩ slErr_RCE).report (2496 + sn) .ce

/-- The home recalls a line whose entry it cannot read, beside the request that found it (R274). -/
def State.recallLost (s : State) (sn w : Nat) (e : DirEnt) : State :=
  s.recall sn { opc := .redir, pa := e.line, src := 0x1000 + sn, dst := .home sn } w e.lost

/-- A set of the directory is looked up, which reads all its entries (R586): corrected errors are counted, and an entry that
cannot be read is recalled, but for the entry of the line `pa`, whose error is told (`true`). An entry of a line that a
transaction holds is judged when that has closed. -/
def State.dirLook (s : State) (sn pa : Nat) : State × Bool :=
  if s.slFlaws.isEmpty then (s, false)
  else
    let set := dirSet pa
    let hit := fun (f : SlFlaw) => f.dir && f.sn == sn && f.at_ == set && !s.wayHeld sn set f.way
    (s.slFlaws.filter hit).foldl (fun a f =>
      let b := a.1.dirReport sn f.uc
      match tfind b.dir (sn, set, f.way) with
      | some e =>
        if !f.uc then (b, a.2)
        else if e.line = lineOf pa then (b, true)
        else if b.lineHeld sn e.line then (b, a.2) else (b.recallLost sn f.way e, a.2)
      | none => (b, a.2))
      ({ s with slFlaws := s.slFlaws.filter (fun f => !hit f) }, false)

/-- An older request waits that needs a way in the set of the line (R278). -/
def State.wayAwaited (s : State) (sn pa : Nat) (older : List Msg) : Bool :=
  older.any (fun m => needsWay m.opc && dirSet m.pa == dirSet pa && (s.dirFind sn m.pa).isNone)

/-- A request takes a way of its set (R278, R284): a free one, or that of a victim, which is recalled first. -/
def State.takeWay (s : State) (sn : Nat) (m : Msg) : Option State :=
  let set := dirSet m.pa
  match (List.range 16).find? (fun w => (tfind s.dir (sn, set, w)).isNone && !s.wayHeld sn set w) with
  | some w => some ((s.touchDir sn m.pa w).act sn m (some w) none)
  | none =>
    if (List.range 16).all (fun w => s.wayHeld sn set w) then none
    else
      let w := plruVictim (tget 0 s.plru (sn, set)) (s.wayHeld sn set)
      match tfind s.dir (sn, set, w) with
      | some e => some ((s.touchDir sn m.pa w).recall sn m w e)
      | none => none

/-- The position is the first line not processed (R240). -/
def RangeEng.placed (r : RangeEng) : RangeEng := { r with pos := ((r.due.map (·.2)).head?).getD r.next }

/-- The engine's line has been processed (R240). -/
def RangeEng.processed (r : RangeEng) (ln : Nat) : RangeEng := { r with due := r.due.filter (fun e => e.1 != ln) }.placed

/-- A home has serialised a request of a range engine at point .M: its line is processed (R240). -/
def State.serialised (s : State) (m : Msg) : State :=
  match coreOfAgent m.src with
  | some p =>
    if m.opc = .cmoReq ∧ m.point ∧ m.tag = (s.core p).range.run + 1 then
      s.modCore p (fun c => { c with range := c.range.processed (lineOf m.pa) })
    else s
  | none => s

/-- A home has refused the engine's line (R243). -/
def RangeEng.refused (r : RangeEng) (ln : Nat) : RangeEng :=
  match r.due.find? (fun e => e.1 == ln) with
  | some e => { r with due := r.due.erase e, bad := some (match r.bad with | some a => min a e.2 | none => e.2) }
  | none => r

/-- A request that the gatekeeper has passed acts on what the lookups of its set find. `dirErr` and `llcErr` are errors that
they find in what the line has there. -/
def State.lookAct (s : State) (sn : Nat) (m : Msg) (older : List Msg) (dirErr llcErr : Upset) : Option State :=
  let s := (s.llcLook sn m.pa).llcUpsetLine sn m.pa llcErr
  let (s, bad) := s.dirLook sn m.pa
  let (s, bad) := match dirErr with
    | .ce _ => (s.dirReport sn false, bad)
    | .uc _ _ => (s.dirReport sn true, true)
    | _ => (s, bad)
  match s.dirFind sn m.pa with
  | some (w, e) => some (if bad then s.recall sn m w e.lost else (s.touchDir sn m.pa w).act sn m (some w) (some e))
  | none =>
    if !needsWay m.opc then some (s.act sn m none none)
    else if s.wayAwaited sn m.pa older then none
    else s.takeWay sn m

/-- Starts a request at its home (R278–R285, R300). The request has left the queue, where `older` stand before it. `none`
while it cannot start. -/
def State.startTxn (s : State) (sn : Nat) (m : Msg) (older : List Msg) (dirErr llcErr : Upset) : Option State :=
  let b := bucketOf m.pa
  let rB : Reg := ⟨.slBkt, b, 0⟩
  let st := s.fget rB slBkt_STATE
  let dest := (tget {} s.bkts b).dest
  let redir := fun (t : Nat) => some (s.send { m with opc := .redir, src := 0x1000 + sn, dst := .agent m.req, orig := m.opc,
                                                      aux := t, aux2 := b })
  if s.fget rB slBkt_SN ≠ sn then (if st = 3 ∧ dest = sn then none else redir (s.fget rB slBkt_SN))
  else if st = 3 then redir dest
  else if st ≠ 0 then none
  else if s.lineHeld sn m.pa then none
  else
    let v := if isPut m.opc then none
      else if !s.dramOk m.pa then some 3
      else s.verdict (s.dramGate m.pa) m.world m.dom (needs m).1 (needs m).2 m.pa 64
    match v with
    | some 3 =>
      let s := s.reportUnless m.spec (3040 + s.chanOf m.pa) .uc
      some (s.send { m with opc := .refuse, src := 0x1000 + sn, dst := .agent m.req, orig := m.opc, status := 2 })
    | some rsn =>
      let s := s.gateFault (s.dramGate m.pa) m.spec (needs m).2 m.world m.dom m.req rsn m.pa
      some (s.send { m with opc := .refuse, src := 0x1000 + sn, dst := .agent m.req, orig := m.opc, status := 1 })
    | none => (s.lookAct sn m older dirErr llcErr).map (·.serialised m)

/-- `QRES` of a slice (R302). -/
def State.qres (s : State) (sn : Nat) : Nat := s.fget ⟨.slHqcfg, sn, 0⟩ slHqcfg_QRES

/-- The home queue has an entry for a request (R302). -/
def State.queueRoom (s : State) (sn : Nat) (vc3 : Bool) : Bool :=
  let q := tget [] s.hq sn
  let n3 := (q.filter (·.vc3)).length
  let n0 := q.length - n3
  let r := s.qres sn
  (vc3 && decide (n3 < r)) || decide (n0 + (n3 - r) + r < 48)

/-- A VC0 coherence request arrives at its home (R278, R302, R312): it starts at once when it can and nothing older of its
line waits; otherwise it enters the home queue. With no free entry, a VC3 request is answered with Retry, and any other
stays on the mesh. -/
def State.arrive (s : State) (sn : Nat) (m : Msg) : Option State :=
  let q := tget [] s.hq sn
  let waits := q.any (fun x => x.pa == m.pa)
  match (if waits then none else s.startTxn sn m q .none .none) with
  | some s' => some s'
  | none =>
    if s.queueRoom sn m.vc3 then some { s with hq := tput s.hq sn (q ++ [m]) }
    else if m.vc3 then
      some (((s.fset ⟨.slHqcfg, sn, 0⟩ slHqcfg_QOVF 1).report (2496 + sn) .uc 1).send
        { m with opc := .retry, src := 0x1000 + sn, dst := .agent m.req, orig := m.opc })
    else none

/-- The transaction at a slice that a snoop answer for a line belongs to: its own line, or the victim it recalls. -/
def State.txnFor (s : State) (sn pa : Nat) : Option (Nat × Txn) :=
  match s.txns.find? (fun t => t.1.1 == sn && (t.2.victim == some (lineOf pa))) with
  | some t => some (t.1.2, t.2)
  | none =>
    match tfind s.txns (sn, lineOf pa) with
    | some t => some (lineOf pa, t)
    | none => none

/-- A snoop answer reaches the home (R282–R285): InvAck, SnpAck or SnpData. -/
def State.homeAnswer (s : State) (sn : Nat) (m : Msg) : State :=
  match s.txnFor sn m.pa with
  | none => s
  | some (ln, t) =>
    if t.acks = 0 then s else
    let mask := s.wmask t.msg.world t.msg.dom
    let hasData := m.opc == .snpData
    let t := { t with acks := t.acks - 1 }
    match t.phase with
    | .recall =>
      let s := if hasData then s.llcKeep sn m.pa m.data m.poison mask else s
      if t.acks = 0 then
        let w := t.way.getD 0
        ({ s with dir := tdel s.dir (sn, dirSet ln, w), txns := tdel s.txns (sn, ln) }).act sn t.msg t.way none
      else s.setTxn sn ln t
    | .snoop =>
      let t := if hasData then { t with data := m.data, poison := m.poison, got := true } else t
      let t := match t.msg.opc with
        | .cmoReq => if t.msg.cmoop = 0 then { t with cleaned := t.cleaned ++ [m.src] }
                     else { t with removed := t.removed ++ [m.src] }
        | _ => t
      if t.acks = 0 then
        match t.msg.opc with
        | .cmoReq => s.finishCmo sn t
        | _ => s.mergeWrite sn t
      else s.setTxn sn ln t
    | _ => s.setTxn sn ln t

/-- FwdMiss (R281): the pointer goes, and the requester joins what is left; the line comes from the home in DS, from the
owner in DO. -/
def State.homeFwdMiss (s : State) (sn : Nat) (m : Msg) : State :=
  match tfind s.txns (sn, lineOf m.pa) with
  | none => s
  | some t =>
    match t.after, s.dirFind sn m.pa with
    | none, _ | _, none => s
    | some e, some (_, old) =>
      let t := { t with after := some ((old.dropSharer m.src).addSharer t.msg.req) }
      if e.st = 1 then s.supply sn t
      else (s.snoopTo sn t.msg .fwdGetS e.owner).setTxn sn m.pa t

/-- Unblock (R280, R282): the transaction closes with its RES applied. -/
def State.homeUnblock (s : State) (sn : Nat) (m : Msg) : State :=
  match tfind s.txns (sn, lineOf m.pa) with
  | none => s
  | some t =>
    let old := s.dirFind sn m.pa
    let after :=
      if m.res = 1 then t.after.map (fun e => if e.st = 3 then { e with st := 1, ptrs := e.owner :: e.ptrs } else e)
      else if m.res = 2 then old.map (·.2)
      else t.after
    s.closeTxn sn m.pa { t with after := after }

/-- The line of an open transaction arrives from its channel (R282, R297). -/
def State.homeMem (s : State) (sn pa : Nat) (d : Line) (po : BitVec 4) : State :=
  match tfind s.txns (sn, lineOf pa) with
  | none => s
  | some t =>
    if t.phase ≠ .mem then s else
    let m := t.msg
    match m.opc with
    | .writePtl => s.finishWrite sn { t with data := d, poison := po }
    | .readOnce => (s.answer sn m .roData d po).setTxn sn pa { t with phase := .unblock }
    | _ =>
      let s := s.llcFill sn pa d po false (s.wmask m.world m.dom)
      (s.answer sn m .data d po t.grant t.n).setTxn sn pa { t with phase := .unblock }

/-! The value of a line in the coherence order (R247): what a walk, a fetch check or a remote observer reads. -/

/-- The current data and poison of a DRAM line: an owner's copy, a copy in flight with ownership, a sharer's copy, the
LLC, or memory. -/
def State.coherent (s : State) (pa : Nat) : Line × BitVec 4 :=
  let ln := lineOf pa
  let owned := s.cores.findSome? (fun e =>
    match e.2.line ln with
    | some l => (match l.st with
      | .E | .M | .O | .OM_A | .MI_A | .OI_A | .EI_A => some (l.data, poison4 (e.2.merged ln l).poison)
      | .IM_A => some (l.data, poison4 l.poison)
      | _ => none)
    | none => none)
  let flight := s.net.findSome? (fun m =>
    if m.pa == ln && ((m.opc == .data && m.grant != 1) || m.opc == .snpData || (m.opc == .bktXfer && m.res == 1)) then some (m.data, m.poison)
    else none)
  let held := s.txns.findSome? (fun t => if t.1.2 == ln && t.2.got then some (t.2.data, t.2.poison) else none)
  let shared := s.cores.findSome? (fun e =>
    match e.2.line ln with
    | some l => if l.st == .S || l.st == .SM_AD || l.st == .SM_A then some (l.data, poison4 l.poison) else none
    | none => none)
  match ((owned.or flight).or held).or shared, s.llcFind (s.homeNow ln) ln with
  | some x, _ => x
  | none, some (_, x) => (x.data, x.poison)
  | none, none => s.chanLine ln

end Sys2Proof.Machine
end

