-- ==== Sys2Proof/Machine/CtlRegs.lean ====
section
/-! DEFINITION. Core control registers: numbers, copies, levels, values in effect (R89–R92, R133, R351). -/

namespace Sys2Proof.Machine

/-- How many copies a control register has (R90). -/
inductive CrKind where
  /-- One per core. -/
  | core
  /-- One per world. -/
  | world
  /-- An L2 register: the open world only. -/
  | l2
  /-- An L3 register: the sealed world only. -/
  | l3
  deriving DecidableEq, Repr

/-- A row of the control-register map: layout, lowest level that reads, lowest level that writes, copies. -/
structure CrInfo where
  name : RegName
  rl : Nat
  wl : Option Nat
  kind : CrKind
  deriving DecidableEq, Repr

/-- The control-register number space (R90, R186, R351); `none` is unassigned. -/
def crInfo (crn : BitVec 12) : Option CrInfo :=
  let n := crn.toNat
  let lv := n / 0x100
  let k : CrKind := if lv = 1 then .world else if lv = 2 then .l2 else .l3
  if n = 0x000 then some ⟨.cycle, 0, none, .core⟩
  else if n = 0x001 then some ⟨.instret, 0, none, .core⟩
  else if n = 0x002 then some ⟨.clkCt, 0, none, .core⟩
  else if n = 0x003 then some ⟨.fpsr, 0, some 0, .core⟩
  else if n = 0x004 then some ⟨.tpid, 0, some 0, .world⟩
  else if n = 0x010 then some ⟨.isaver, 0, none, .core⟩
  else if n = 0x011 then some ⟨.coreid, 1, none, .core⟩
  else if n = 0x101 then some ⟨.gtb, 1, some 1, .world⟩
  else if n = 0x110 then some ⟨.specctl, 1, some 1, .world⟩
  else if n = 0x111 then some ⟨.peatcfg, 1, some 1, .world⟩
  else if n = 0x120 then some ⟨.ceiling, 1, some 3, .world⟩
  else if n = 0x130 then some ⟨.domid, 1, some 3, .world⟩
  else if n = 0x140 then some ⟨.s1tb, 1, some 1, .world⟩
  else if n = 0x141 then some ⟨.s1ctl, 1, some 1, .world⟩
  else if n = 0x240 then some ⟨.htb, 2, some 2, .l2⟩
  else if n = 0x241 then some ⟨.hctl, 2, some 2, .l2⟩
  else if n = 0x242 then some ⟨.s2tb, 2, some 2, .l2⟩
  else if n = 0x243 then some ⟨.s2ctl, 2, some 2, .l2⟩
  else if n = 0x244 then some ⟨.s2fipa, 2, some 2, .l2⟩
  else if n = 0x310 then some ⟨.htb, 3, some 3, .l3⟩
  else if n = 0x311 then some ⟨.hctl, 3, some 3, .l3⟩
  else if n = 0x312 then some ⟨.s2tb, 3, some 3, .l3⟩
  else if n = 0x313 then some ⟨.s2ctl, 3, some 3, .l3⟩
  else if n = 0x314 then some ⟨.s2fipa, 3, some 3, .l3⟩
  else if n = 0x315 then some ⟨.kctl, 3, some 3, .l3⟩
  else if 0x318 ≤ n ∧ n ≤ 0x31F then some ⟨if n % 2 = 0 then .kgwb else .kgwl, 3, some 3, .l3⟩
  else if lv = 1 ∨ lv = 2 ∨ lv = 3 then
    match n % 0x100 with
    | 0 => some ⟨.vtb, lv, some lv, k⟩
    | 2 => some ⟨.epc, lv, some lv, k⟩
    | 3 => some ⟨.estat, lv, some lv, k⟩
    | 4 => some ⟨.eaddr, lv, some lv, k⟩
    | 5 => some ⟨.escr, lv, some lv, k⟩
    | 6 => some ⟨.shmax, lv, if lv = 1 then some 2 else if lv = 2 then some 3 else none, k⟩
    | _ => none
  else none

/-- The copy of a control register that MFC and MTC name in a world (R90); `none` where that world has none. -/
def crKey (world : Bool) (i : CrInfo) (crn : BitVec 12) : Option CrKey :=
  match i.kind with
  | .core => some ⟨false, crn⟩
  | .world => some ⟨world, crn⟩
  | .l2 => if world then none else some ⟨false, crn⟩
  | .l3 => if world then some ⟨true, crn⟩ else none

/-- The registers synchronised under R133. -/
def syncCr (crn : BitVec 12) : Bool :=
  let n := crn.toNat
  n == 0x100 || n == 0x200 || n == 0x300 || n == 0x110 || n == 0x111 || n == 0x120 || n == 0x130 ||
  (0x140 ≤ n && n ≤ 0x14F) || (0x240 ≤ n && n ≤ 0x24F) || (0x310 ≤ n && n ≤ 0x31F)

/-- Reset value of a control-register copy. An entry X of the spec is 0 (log entry 2). -/
def resetCr (k : CrKey) : Word :=
  if k.crn = 0x120#12 then (if k.world then 3 else 2)
  else
    match crInfo k.crn with
    | some i => BitVec.ofNat 64 (resetConst i.name)
    | none => 0

/-- A copy as last written. -/
def Core.crv (c : Core) (k : CrKey) : Word := tget (resetCr k) c.arch.cr k

/-- Sets a copy: what the hardware does. -/
def Core.setCr (c : Core) (k : CrKey) (v : Word) : Core :=
  { c with arch := { c.arch with cr := tput c.arch.cr k v } }

def Core.crFld (c : Core) (k : CrKey) (f : Fld) : Nat := fld (c.crv k) f
def Core.setCrFld (c : Core) (k : CrKey) (f : Fld) (x : Nat) : Core := c.setCr k (setFld (c.crv k) f x)

/-- The key of a banked register of level `l` of the core's world (VTB, EPC, ESTAT, EADDR, ESCR, SHMAX). -/
def lvKey (world : Bool) (l off : Nat) : CrKey :=
  ⟨if l = 2 then false else if l = 3 then true else world, BitVec.ofNat 12 (l * 0x100 + off)⟩

/-- A number for a copy. -/
def CrKey.num (k : CrKey) : Nat := k.crn.toNat + 4096 * b2n k.world

/-- The control registers under which one instruction operates (R133): each copy written since the last context-synchronising
event at its new value or at one that a write has replaced, as the free choice falls. -/
def Core.effective (c : Core) (choose : Nat → Nat) : Tab CrKey Word :=
  (c.arch.crOld.filterMap (fun e =>
    let olds := (c.arch.crOld.filter (fun x => x.1 == e.1)).map (·.2)
    (olds[choose e.1.num % (olds.length + 1)]?).map (fun v => (e.1, v)))) ++ c.arch.cr

/-- The context-synchronising event completes every earlier MTC (R134). -/
def Core.synced (c : Core) : Core := { c with arch := { c.arch with crOld := [] } }

/-- The control registers under which the oldest instruction operates now: as it began with them, or as last written. -/
def Core.effNow (c : Core) : Tab CrKey Word := c.pick.getD c.arch.cr

/-- `NOSPEC_EFF` of a world's copy (R123, R391): `NOSPEC` as in effect, or the domain in Quiet mode as the core last saw it. -/
def Core.nospecEff (c : Core) (world : Bool) : Bool :=
  let get := fun (n : BitVec 12) => tget (resetCr ⟨world, n⟩) c.effNow ⟨world, n⟩
  fld (get 0x110#12) specctl_NOSPEC == 1 || c.quietFor world (fld (get 0x130#12) domid_DOM)

/-- What an instruction sees: its core, the control registers in effect, and where it executes. -/
structure Ctx where
  p : Nat
  eff : Tab CrKey Word
  level : Nat
  world : Bool
  pc : Word
  deriving DecidableEq, Repr

def Ctx.cr (x : Ctx) (k : CrKey) : Word := tget (resetCr k) x.eff k
/-- DOMID in force (R352). -/
def Ctx.dom (x : Ctx) : Nat := fld (x.cr ⟨x.world, 0x130#12⟩) domid_DOM

/-- The interrupt target that a core serves (R175): its LCN, or 1024 + CCN. -/
def State.targetOf (s : State) (p : Nat) : Option Nat :=
  if p < 1088 then s.lcnOf p else some (1024 + (p - 1088))

/-- The core that serves an interrupt target. -/
def State.coreOfTarget (s : State) (t : Nat) : Option Nat :=
  if t < 1024 then some (s.fget ⟨.cfgLcnmap, t, 0⟩ cfgLcnmap_PCN)
  else if t < 1028 then some (1088 + (t - 1024)) else none

/-- COREID (R92, R380). -/
def State.coreid (s : State) (p : Nat) : Word :=
  if p < 1088 then
    match s.twinOf p with
    | some (k, _) =>
      BitVec.ofNat 64 (2 * k + s.fget ⟨.cfgLcnmap, 2 * k, 0⟩ cfgLcnmap_PCN * 2 ^ 16 + 2 ^ 27)
    | none => BitVec.ofNat 64 ((s.lcnOf p).getD 0 + p * 2 ^ 16)
  else BitVec.ofNat 64 ((p - 1088) * 2 ^ 28 + 2 ^ 31)

/-- What MFC reads from a copy of core `p` (R89, R90, R123, R151). -/
def State.crRead (s : State) (p : Nat) (k : CrKey) : Word :=
  let c := s.core p
  let v := c.crv k
  match k.crn.toNat with
  | 0x000 => c.cycle
  | 0x001 => c.arch.instret - BitVec.ofNat 64 c.unagreed.length
  | 0x002 => s.ct
  | 0x010 => 3
  | 0x011 => s.coreid p
  | 0x306 => 0xFFFF
  | 0x203 | 0x303 => setFld v estat_NMIACT (b2n c.nmiAct)
  | 0x110 => setFld v specctl_NOSPEC_EFF (b2n (c.nospecEff k.world))
  | _ => v

end Sys2Proof.Machine
end

