-- ==== Sys2Proof/Machine/Intr.lean ====
section
/-! DEFINITION. The Interrupt Distributor's evaluation (R168–R182): which sources pend, which interrupts are eligible, what
each core is told. -/

namespace Sys2Proof.Machine

def rSrcCfg (n : Nat) : Reg := ⟨.idistSrcCfg, n, 0⟩
def rTgtCfg (t : Nat) : Reg := ⟨.idistTgtCfg, t, 0⟩
def rTgtStat (t : Nat) : Reg := ⟨.idistTgtStat, t, 0⟩

/-- The source lies in the `INTBASE`/`INTCNT` range of an FX function (R441). -/
def State.fnInt (s : State) (n : Nat) : Bool :=
  s.regs.any (fun e => e.1.name == .fxFnCfg &&
    decide (fld e.2 fxFnCfg_INTBASE ≤ n ∧ n < fld e.2 fxFnCfg_INTBASE + fld e.2 fxFnCfg_INTCNT))

/-- The source lies in the `RP_MSI` range of a root port (R168). -/
def State.msiInt (s : State) (n : Nat) : Bool :=
  s.regs.any (fun e => e.1.name == .rpMsi &&
    decide (fld e.2 rpMsi_BASE ≤ n ∧ n < fld e.2 rpMsi_BASE + fld e.2 rpMsi_CNT))

/-- `EDGE` of a source (R168, R441, R468, R482). -/
def State.edgeSrc (s : State) (n : Nat) : Bool :=
  n == 160 || decide (256 ≤ n ∧ n < 1024) || (decide (1024 ≤ n) && s.fnInt n)

/-- The source can become pending (R168). -/
def State.canPend (s : State) (n : Nat) : Bool :=
  decide (32 ≤ n ∧ n < 40) || decide (64 ≤ n ∧ n < 80) || decide (96 ≤ n ∧ n < 162) || decide (192 ≤ n ∧ n < 224) ||
  (decide (256 ≤ n ∧ n < 1024) && s.msiInt n) || (decide (1024 ≤ n ∧ n < 8192) && s.fnInt n)

def State.src (s : State) (n : Nat) : IntSrc := tget {} s.intSrc n
def State.setSrc (s : State) (n : Nat) (x : IntSrc) : State := { s with intSrc := tput s.intSrc n x }

/-- The source is pending (R178). -/
def State.srcPend (s : State) (n : Nat) : Bool :=
  let x := s.src n
  s.canPend n && (if s.edgeSrc n then x.edgePend else !x.active && (x.line || x.swLatch))

/-- The source's target belongs to its domain (R174). -/
def State.deliverable (s : State) (n : Nat) : Bool :=
  s.fget (rTgtCfg (s.fget (rSrcCfg n) idistSrcCfg_TGT)) idistTgtCfg_DOMAIN == s.fget (rSrcCfg n) idistSrcCfg_DOMAIN

/-- A source that comes to be held by a domain mismatch is reported once, whether it is enabled or not (R174). -/
def State.evalHold (s : State) (n : Nat) : State :=
  let x := s.src n
  let held := s.srcPend n && !s.deliverable n
  if held && !x.held then
    ((s.setSrc n { x with held := true }).fset (rTgtStat (s.fget (rSrcCfg n) idistSrcCfg_TGT)) idistTgtStat_MISROUTE 1).report
      3389 .ce
  else if !held && x.held then s.setSrc n { x with held := false }
  else s

/-- The interface of a world and level (R175). -/
def pageOf (world : Bool) (level : Nat) : PageKind :=
  if world then (if level = 3 then .sealedL3 else .sealedL1) else (if level = 2 then .openL2 else .openL1)

def pageWorld : PageKind → Bool
  | .openL1 | .openL2 => false
  | .sealedL1 | .sealedL3 => true

def pageLevel : PageKind → Nat
  | .openL1 | .sealedL1 => 1
  | .openL2 => 2
  | .sealedL3 => 3

/-- The order of the pages in the own-interface window (R175). -/
def pageNum : PageKind → Nat
  | .openL1 => 0
  | .openL2 => 1
  | .sealedL1 => 2
  | .sealedL3 => 3

def pageOfNum (n : Nat) : PageKind :=
  if n = 0 then .openL1 else if n = 1 then .openL2 else if n = 2 then .sealedL1 else .sealedL3

def State.iface (s : State) (t : Nat) (p : PageKind) : Iface := tget {} s.ifaces (t, p)
def State.setIface (s : State) (t : Nat) (p : PageKind) (f : Iface) : State := { s with ifaces := tput s.ifaces (t, p) f }

/-- `RPRIO` (R176): 16 when nothing is active. -/
def Iface.rprio (f : Iface) : Nat :=
  match f.stack with
  | [] => 16
  | x :: _ => x.2

def Iface.isActive (f : Iface) (n : Nat) : Bool := f.stack.any (fun x => x.1 == n)

def Iface.tmrEn (f : Iface) : Bool := f.priv.testBit 12
/-- IDIST evaluates the line of INTID 17, as it does in every CLK_PERI cycle (R180). -/
def Iface.evalTmr (f : Iface) (ct : Word) : Iface := { f with tmrLine := f.tmrEn && decide (f.tmrcmp.toNat ≤ ct.toNat) }

/-- The interrupts pending and enabled at an interface, with their priorities (R177). -/
def State.candidates (s : State) (t : Nat) (p : PageKind) : List (Nat × Nat) :=
  let f := s.iface t p
  let sgis := f.sgi.filter (fun x => !f.isActive x.1)
  let rng := if f.rngPend && f.priv.testBit 4 && !f.isActive 16 then [(16, bits f.priv 0 4)] else []
  let tmr := if f.tmrEn && (f.tmrLine || f.tmrLatch) && !f.isActive 17 then [(17, bits f.priv 8 4)] else []
  let shared := (s.intSrc.map (·.1)).filter (fun n =>
    s.srcPend n && !(s.src n).active && s.fget (rSrcCfg n) idistSrcCfg_EN == 1 &&
    s.fget (rSrcCfg n) idistSrcCfg_TGT == t && s.fget (rSrcCfg n) idistSrcCfg_WORLD == b2n (pageWorld p) &&
    s.fget (rSrcCfg n) idistSrcCfg_TLEVEL == pageLevel p && s.deliverable n)
  sgis ++ rng ++ tmr ++ shared.map (fun n => (n, s.fget (rSrcCfg n) idistSrcCfg_PRIO))

/-- The eligible interrupts of an interface (R177). -/
def State.eligible (s : State) (t : Nat) (p : PageKind) : List (Nat × Nat) :=
  let f := s.iface t p
  (s.candidates t p).filter (fun x => decide (x.2 < f.pmr ∧ x.2 < f.rprio))

/-- The highest eligible interrupt at an interface: lowest priority number, then lowest INTID (R177). -/
def State.highest (s : State) (t : Nat) (p : PageKind) : Option (Nat × Nat) :=
  (s.eligible t p).foldl (fun best x =>
    match best with
    | none => some x
    | some b => if x.2 < b.2 ∨ (x.2 = b.2 ∧ x.1 < b.1) then some x else some b) none

/-- The interfaces in the order in which a core tests them (R154). -/
def testOrder : List PageKind := [.sealedL3, .sealedL1, .openL2, .openL1]

/-- What a core is told: the highest eligible priority of each interface, 31 for none. -/
def State.intViewOf (s : State) (t : Nat) : Nat :=
  let v := fun p => ((s.highest t p).map (·.2)).getD 31
  v .sealedL3 + v .sealedL1 * 2 ^ 5 + v .openL2 * 2 ^ 10 + v .openL1 * 2 ^ 15

/-- IDIST tells the core of a target when its interfaces changed (R182): one IntDeliver. -/
def State.notify (s : State) (t : Nat) : State :=
  let v := s.intViewOf t
  if tget 1048575 s.intSent t = v then s
  else
    match s.coreOfTarget t with
    | none => s
    | some p =>
      { s with intSent := tput s.intSent t v }.send
        { opc := .intDeliver, pa := 0, src := 0x810, dst := .agent (agentOf p), aux := v, aux2 := t }

/-- A change of a source's state is evaluated at once: hold, then delivery (R174, R181). -/
def State.srcChanged (s : State) (n : Nat) : State :=
  (s.evalHold n).notify (s.fget (rSrcCfg n) idistSrcCfg_TGT)

/-- An edge at a source (R178). Within a CLK_PERI cycle events are applied before register accesses (R182): the access that
has cleared the source's pending state in this cycle has cleared this edge too. -/
def State.edge (s : State) (n : Nat) : State :=
  if s.canPend n && s.edgeSrc n && !s.intClr.contains n then (s.setSrc n { s.src n with edgePend := true }).srcChanged n else s

/-- The level of a source's line as its block drives it. -/
def State.lineNow (s : State) (n : Nat) : Bool :=
  if 32 ≤ n ∧ n < 40 then
    s.regs.any (fun e => e.1.name == .fbSrcStat && fld e.2 fbSrcStat_IP == 1 &&
      s.fget ⟨.fbSrcCfg, e.1.i, 0⟩ fbSrcCfg_INTSEL == n - 32)
  else if 64 ≤ n ∧ n < 80 then s.fget ⟨.mcStat, n - 64, 0⟩ mcStat_EVT == 1
  else if 96 ≤ n ∧ n < 128 then s.fget ⟨.fxPortStat, n - 96, 0⟩ fxPortStat_EVT == 1
  else if 128 ≤ n ∧ n < 160 then s.fget ⟨.fbWatchStat, n - 128, 0⟩ fbWatchStat_STATE != 0
  else if n = 161 then s.fget ⟨.spStat, 0, 0⟩ spStat_EVT == 1
  else if 192 ≤ n ∧ n < 208 then tget false s.hotPlug (n - 192)
  else if 208 ≤ n ∧ n < 224 then tget 0 s.rpIntx (n - 208) != 0
  else (s.src n).line

/-- The level-triggered sources whose lines the module's own blocks drive. -/
def drivenLines : List Nat :=
  (List.range 8).map (· + 32) ++ (List.range 16).map (· + 64) ++ (List.range 32).map (· + 96) ++
  (List.range 32).map (· + 128) ++ [161] ++ (List.range 32).map (· + 192)

/-- IDIST samples a line (R182). -/
def State.sampleLine (s : State) (n : Nat) : State :=
  let l := s.lineNow n
  if (s.src n).line = l then s else (s.setSrc n { s.src n with line := l }).srcChanged n

/-- The priority in a core's view of an interface. -/
def viewPrio (v : Nat) (p : PageKind) : Nat :=
  match p with
  | .sealedL3 => bits v 0 5
  | .sealedL1 => bits v 5 5
  | .openL2 => bits v 10 5
  | .openL1 => bits v 15 5

/-- An entry that R154 admits: the level entered, the cause, and `INFO` (R141). -/
structure IntTake where
  level : Nat
  cause : Nat
  info : Nat
  deriving DecidableEq, Repr

/-- `INFO` of cause 0x20: level and world of the interface. -/
def pageInfo (q : PageKind) : Nat := pageLevel q + 4 * b2n (pageWorld q)

/-- The maskable interrupt that a core would take now, shields apart (R154). -/
def State.intPick (s : State) (p : Nat) : Option IntTake :=
  let c := s.core p
  let cw := c.arch.world
  let cl := c.arch.level
  let ie := fun t => c.crFld (lvKey cw t 3) estat_IE == 1
  let first := testOrder.findSome? (fun q =>
    if viewPrio c.intView q = 31 then none
    else if pageWorld q = cw then
      (if pageLevel q > cl ∨ (pageLevel q = cl ∧ ie (pageLevel q)) then some (⟨pageLevel q, 0x20, pageInfo q⟩ : IntTake)
       else none)
    else if pageWorld q then some ⟨3, 0x20, pageInfo q⟩
    else none)
  match first with
  | some x => some x
  | none =>
    let thr := match s.targetOf p with
      | some t => s.fget (rTgtCfg t) idistTgtCfg_OPTHR
      | none => 0
    let foreign := [PageKind.openL2, .openL1].find? (fun q => decide (viewPrio c.intView q < thr))
    match foreign with
    | some q => if cw && (decide (cl < 3) || ie 3) then some ⟨3, 0x22, pageLevel q⟩ else none
    | none => none

/-- The eligible interrupts that a shield of core `p` defers: those that R154 would admit, or of which it would tell the
Kiln (R157, R158), by interface and INTID. -/
def State.shHeld (s : State) (p : Nat) : List (Nat × Nat) :=
  let c := s.core p
  let cw := c.arch.world
  let cl := c.arch.level
  let ie := fun t => c.crFld (lvKey cw t 3) estat_IE == 1
  match s.targetOf p with
  | none => []
  | some t =>
    let thr := s.fget (rTgtCfg t) idistTgtCfg_OPTHR
    testOrder.flatMap (fun q =>
      let es := s.eligible t q
      let in_ := if pageWorld q = cw then
          (if pageLevel q > cl ∨ (pageLevel q = cl ∧ ie (pageLevel q)) then es else [])
        else if pageWorld q then es
        else if cl < 3 ∨ ie 3 then es.filter (fun x => decide (x.2 < thr))
        else []
      in_.map (fun x => (pageNum q, x.1)))

/-- The interrupt that a core takes at its next boundary: none while a shield runs (R157). -/
def State.intNow (s : State) (p : Nat) : Option IntTake := if (s.core p).shOn then none else s.intPick p

end Sys2Proof.Machine
end

