-- ==== Sys2Proof/Machine/Layout.lean ====
section
/-! DEFINITION. Where the configuration registers stand (R40, R41): the tables of the chapters as one. -/

namespace Sys2Proof.Machine

/-- The blocks of the configuration space, in the order of their regions (R40). -/
inductive Blk where
  | cfg | clk | pwr | core | idist | iotu | sl | mesh | mg | mc | fx | sp | rp | fb | ledg | ash | sbc
  deriving DecidableEq, Repr

/-- The number of a block's region. -/
def blkNum : Blk → Nat
  | .cfg => 0
  | .clk => 1
  | .pwr => 2
  | .core => 3
  | .idist => 4
  | .iotu => 5
  | .sl => 6
  | .mesh => 7
  | .mg => 8
  | .mc => 9
  | .fx => 10
  | .sp => 11
  | .rp => 12
  | .fb => 13
  | .ledg => 14
  | .ash => 15
  | .sbc => 16

/-- The block of a region. -/
def blkOfNum : Nat → Option Blk
  | 0 => some .cfg
  | 1 => some .clk
  | 2 => some .pwr
  | 3 => some .core
  | 4 => some .idist
  | 5 => some .iotu
  | 6 => some .sl
  | 7 => some .mesh
  | 8 => some .mg
  | 9 => some .mc
  | 10 => some .fx
  | 11 => some .sp
  | 12 => some .rp
  | 13 => some .fb
  | 14 => some .ledg
  | 15 => some .ash
  | 16 => some .sbc
  | _ => none

/-- The blocks that are reached by selection (R40). -/
def selected : Blk → Bool
  | .cfg | .clk | .sp | .ledg | .ash | .sbc => false
  | _ => true

/-- How many instances a kind has, 0 where the block does not define it. -/
def instCount : Blk → Nat → Nat
  | .pwr, 0 => 22
  | .pwr, 1 => 18
  | .core, 0 => 1088
  | .core, 1 => 4
  | .idist, 0 => 8192
  | .idist, 1 => 1028
  | .iotu, 0 => 4608
  | .iotu, 1 => 1024
  | .sl, 0 => 256
  | .mesh, 0 => 256
  | .mg, 0 => 35
  | .mc, 0 => 16
  | .fx, 0 => 32
  | .fx, 1 => 4096
  | .fx, 2 => 16384
  | .fx, 3 => 256
  | .rp, 0 => 16
  | .fb, 0 => 4096
  | _, _ => 0

/-- One row of the layout: `name[i][j]` stands at `base + si·i + sj·j`. In a window (`kind` given) `i` is the
selected instance, and `base` counts from the start of the bank. -/
structure Lay where
  blk : Blk
  name : RegName
  kind : Option Nat
  base : Nat
  ni : Nat
  si : Nat
  nj : Nat
  sj : Nat
  deriving DecidableEq, Repr

/-- `CFG_`. -/
def layCfg : List Lay := [
  ⟨.cfg, .cfgIdent, none, 0x0, 1, 8, 1, 8⟩,
  ⟨.cfg, .cfgSparepool, none, 0x8, 1, 8, 1, 8⟩,
  ⟨.cfg, .cfgLcnmap, none, 0x10000, 1024, 8, 1, 8⟩,
  ⟨.cfg, .cfgTwin, none, 0x20000, 512, 16, 1, 8⟩,
  ⟨.cfg, .cfgTwstat, none, 0x20008, 512, 16, 1, 8⟩,
  ⟨.cfg, .cfgTwpc, none, 0x22000, 512, 8, 1, 8⟩,
  ⟨.cfg, .cfgQuiet, none, 0x30000, 2, 512, 64, 8⟩]

/-- `CLK_`. -/
def layClk : List Lay := [
  ⟨.clk, .clkPll, none, 0x0, 1, 8, 1, 8⟩,
  ⟨.clk, .clkCt, none, 0x100, 1, 8, 1, 8⟩,
  ⟨.clk, .clkCtadj, none, 0x108, 1, 8, 1, 8⟩,
  ⟨.clk, .clkCtstep, none, 0x110, 1, 8, 1, 8⟩,
  ⟨.clk, .clkTilediv, none, 0x1000, 272, 8, 1, 8⟩]

/-- `PWR_`. -/
def layPwr : List Lay := [
  ⟨.pwr, .pwrTherm, none, 0x0, 1, 8, 1, 8⟩,
  ⟨.pwr, .pwrRailCtl, some 0, 0x1000, 22, 0, 1, 8⟩,
  ⟨.pwr, .pwrRailStat, some 0, 0x1008, 22, 0, 1, 8⟩,
  ⟨.pwr, .pwrTemp, some 1, 0x1000, 18, 0, 1, 8⟩]

/-- `CORE_`. -/
def layCore : List Lay := [
  ⟨.core, .coreCtl, some 0, 0x1000, 1088, 0, 1, 8⟩,
  ⟨.core, .coreStat, some 0, 0x1008, 1088, 0, 1, 8⟩,
  ⟨.core, .coreEntry, some 0, 0x1010, 1088, 0, 1, 8⟩,
  ⟨.core, .coreDbgen, some 0, 0x1800, 1088, 0, 1, 8⟩]

/-- `IDIST_`. -/
def layIdist : List Lay := [
  ⟨.idist, .idistSrcCfg, some 0, 0x1000, 8192, 0, 1, 8⟩,
  ⟨.idist, .idistSrcState, some 0, 0x1008, 8192, 0, 1, 8⟩,
  ⟨.idist, .idistTgtCfg, some 1, 0x1000, 1028, 0, 1, 8⟩,
  ⟨.idist, .idistTgtStat, some 1, 0x1008, 1028, 0, 1, 8⟩]

/-- `IOTU_`. -/
def layIotu : List Lay := [
  ⟨.iotu, .iotuSte, some 0, 0x1000, 4608, 0, 1, 8⟩,
  ⟨.iotu, .iotuCtxCfg, some 1, 0x1000, 1024, 0, 1, 8⟩,
  ⟨.iotu, .iotuCtxS1tb, some 1, 0x1008, 1024, 0, 1, 8⟩,
  ⟨.iotu, .iotuCtxS2tb, some 1, 0x1010, 1024, 0, 1, 8⟩,
  ⟨.iotu, .iotuCtxInv, some 1, 0x1018, 1024, 0, 1, 8⟩,
  ⟨.iotu, .iotuCtxInvstat, some 1, 0x1020, 1024, 0, 1, 8⟩,
  ⟨.iotu, .iotuCtxFault, some 1, 0x1028, 1024, 0, 1, 8⟩,
  ⟨.iotu, .iotuCtxFaddr, some 1, 0x1030, 1024, 0, 1, 8⟩]

/-- `SL_`. -/
def laySl : List Lay := [
  ⟨.sl, .slBkt, none, 0x0, 4096, 8, 1, 8⟩,
  ⟨.sl, .slWmask, none, 0x10000, 2, 512, 64, 8⟩,
  ⟨.sl, .slCtl, some 0, 0x1000, 256, 0, 1, 8⟩,
  ⟨.sl, .slHqcfg, some 0, 0x1008, 256, 0, 1, 8⟩,
  ⟨.sl, .slErr, some 0, 0x1010, 256, 0, 1, 8⟩]

/-- `MESH_`. -/
def layMesh : List Lay := [
  ⟨.mesh, .meshEpoch, none, 0x0, 1, 8, 1, 8⟩,
  ⟨.mesh, .meshRt, some 0, 0x1000, 256, 0, 256, 8⟩,
  ⟨.mesh, .meshSlot, some 0, 0x1800, 256, 0, 24, 8⟩,
  ⟨.mesh, .meshPort, some 0, 0x1900, 256, 0, 8, 8⟩,
  ⟨.mesh, .meshLink, some 0, 0x1a00, 256, 0, 4, 8⟩,
  ⟨.mesh, .meshStat, some 0, 0x1b00, 256, 0, 1, 8⟩]

/-- `MG_`. -/
def layMg : List Lay := [
  ⟨.mg, .mgCtl, some 0, 0x1000, 35, 0, 1, 8⟩,
  ⟨.mg, .mgFault, some 0, 0x1008, 35, 0, 1, 8⟩,
  ⟨.mg, .mgFaddr, some 0, 0x1010, 35, 0, 1, 8⟩,
  ⟨.mg, .mgRgnBase, some 0, 0x2000, 35, 0, 64, 32⟩,
  ⟨.mg, .mgRgnLimit, some 0, 0x2008, 35, 0, 64, 32⟩,
  ⟨.mg, .mgRgnDom, some 0, 0x2010, 35, 0, 64, 32⟩]

/-- `MC_`. -/
def layMc : List Lay := [
  ⟨.mc, .mcIlv, none, 0x0, 1, 8, 1, 8⟩,
  ⟨.mc, .mcKeyslot, none, 0x100, 66, 8, 1, 8⟩,
  ⟨.mc, .mcCfg, some 0, 0x1000, 16, 0, 1, 8⟩,
  ⟨.mc, .mcStat, some 0, 0x1008, 16, 0, 1, 8⟩,
  ⟨.mc, .mcScrub, some 0, 0x1010, 16, 0, 1, 8⟩,
  ⟨.mc, .mcSpare, some 0, 0x1018, 16, 0, 1, 8⟩,
  ⟨.mc, .mcErr, some 0, 0x1020, 16, 0, 1, 8⟩,
  ⟨.mc, .mcTiming, some 0, 0x1028, 16, 0, 1, 8⟩,
  ⟨.mc, .mcBwres, some 0, 0x1100, 16, 0, 64, 8⟩]

/-- `FX_`. -/
def layFx : List Lay := [
  ⟨.fx, .fxClsProf, none, 0x0, 4, 8, 1, 8⟩,
  ⟨.fx, .fxPortCfg, some 0, 0x1000, 32, 0, 1, 8⟩,
  ⟨.fx, .fxPortStat, some 0, 0x1008, 32, 0, 1, 8⟩,
  ⟨.fx, .fxPortCnt, some 0, 0x1010, 32, 0, 1, 8⟩,
  ⟨.fx, .fxQbvCtl, some 0, 0x1018, 32, 0, 1, 8⟩,
  ⟨.fx, .fxQbvBase, some 0, 0x1020, 32, 0, 1, 8⟩,
  ⟨.fx, .fxQbvCycle, some 0, 0x1028, 32, 0, 1, 8⟩,
  ⟨.fx, .fxPsafeCtl, some 0, 0x1038, 32, 0, 1, 8⟩,
  ⟨.fx, .fxQbvEnt, some 0, 0x1100, 32, 0, 256, 8⟩,
  ⟨.fx, .fxPsafeData, some 0, 0x1900, 32, 0, 32, 8⟩,
  ⟨.fx, .fxQCfg, some 1, 0x1000, 4096, 0, 1, 8⟩,
  ⟨.fx, .fxQDbase, some 1, 0x1008, 4096, 0, 1, 8⟩,
  ⟨.fx, .fxQCbase, some 1, 0x1010, 4096, 0, 1, 8⟩,
  ⟨.fx, .fxQCtl, some 1, 0x1018, 4096, 0, 1, 8⟩,
  ⟨.fx, .fxQPtr, some 1, 0x1020, 4096, 0, 1, 8⟩,
  ⟨.fx, .fxQHdr, some 1, 0x1028, 4096, 0, 4, 8⟩,
  ⟨.fx, .fxQErr, some 1, 0x1048, 4096, 0, 1, 8⟩,
  ⟨.fx, .fxClsKey0, some 2, 0x1000, 16384, 0, 1, 8⟩,
  ⟨.fx, .fxClsKey1, some 2, 0x1008, 16384, 0, 1, 8⟩,
  ⟨.fx, .fxClsAct, some 2, 0x1010, 16384, 0, 1, 8⟩,
  ⟨.fx, .fxFnCfg, some 3, 0x1000, 256, 0, 1, 8⟩,
  ⟨.fx, .fxFnCtl, some 3, 0x1008, 256, 0, 1, 8⟩,
  ⟨.fx, .fxFnStat, some 3, 0x1010, 256, 0, 1, 8⟩,
  ⟨.fx, .fxFnPend, some 3, 0x1018, 256, 0, 1, 8⟩]

/-- `SP_`. -/
def laySp : List Lay := [
  ⟨.sp, .spCtl, none, 0x0, 1, 8, 1, 8⟩,
  ⟨.sp, .spStat, none, 0x8, 1, 8, 1, 8⟩,
  ⟨.sp, .spWctl, none, 0x10, 1, 8, 1, 8⟩,
  ⟨.sp, .spHdbval, none, 0x18, 1, 8, 1, 8⟩,
  ⟨.sp, .spHintset, none, 0x20, 1, 8, 1, 8⟩,
  ⟨.sp, .spWstat, none, 0x28, 1, 8, 1, 8⟩,
  ⟨.sp, .spWinCfg, none, 0x100, 16, 16, 1, 8⟩,
  ⟨.sp, .spWinTgt, none, 0x108, 16, 16, 1, 8⟩]

/-- `RP_`. -/
def layRp : List Lay := [
  ⟨.rp, .rpBifur, none, 0x0, 4, 8, 1, 8⟩,
  ⟨.rp, .rpCtl, some 0, 0x1000, 16, 0, 1, 8⟩,
  ⟨.rp, .rpStat, some 0, 0x1008, 16, 0, 1, 8⟩,
  ⟨.rp, .rpMsi, some 0, 0x1010, 16, 0, 1, 8⟩,
  ⟨.rp, .rpMsiaddr, some 0, 0x1018, 16, 0, 1, 8⟩]

/-- `FB_`. -/
def layFb : List Lay := [
  ⟨.fb, .fbCtl, none, 0x0, 1, 8, 1, 8⟩,
  ⟨.fb, .fbStat, none, 0x8, 1, 8, 1, 8⟩,
  ⟨.fb, .fbPin, none, 0x10, 1, 8, 1, 8⟩,
  ⟨.fb, .fbPinmin, none, 0x18, 1, 8, 1, 8⟩,
  ⟨.fb, .fbIpend, none, 0x1000, 64, 8, 1, 8⟩,
  ⟨.fb, .fbWatchCfg, none, 0x2000, 32, 16, 1, 8⟩,
  ⟨.fb, .fbWatchStat, none, 0x2008, 32, 16, 1, 8⟩,
  ⟨.fb, .fbSrcCfg, some 0, 0x1000, 4096, 0, 1, 8⟩,
  ⟨.fb, .fbSrcStat, some 0, 0x1008, 4096, 0, 1, 8⟩,
  ⟨.fb, .fbSrcLast, some 0, 0x1010, 4096, 0, 1, 8⟩,
  ⟨.fb, .fbSrcDet, some 0, 0x1018, 4096, 0, 1, 8⟩]

/-- `LEDG_`. -/
def layLedg : List Lay := [
  ⟨.ledg, .ledgCtl, none, 0x0, 1, 8, 1, 8⟩,
  ⟨.ledg, .ledgHead, none, 0x8, 1, 8, 1, 8⟩,
  ⟨.ledg, .ledgMseq, none, 0x10, 1, 8, 1, 8⟩,
  ⟨.ledg, .ledgStat, none, 0x18, 1, 8, 1, 8⟩]

/-- `ASH_`. -/
def layAsh : List Lay := [
  ⟨.ash, .ashCtl, none, 0x0, 1, 8, 1, 8⟩,
  ⟨.ash, .ashStat, none, 0x8, 1, 8, 1, 8⟩,
  ⟨.ash, .ashHead, none, 0x10, 1, 8, 1, 8⟩,
  ⟨.ash, .ashSwevt, none, 0x18, 1, 8, 1, 8⟩]

/-- `SBC_`. -/
def laySbc : List Lay := [
  ⟨.sbc, .sbcStat, none, 0x0, 1, 8, 1, 8⟩,
  ⟨.sbc, .sbcRst, none, 0x8, 1, 8, 1, 8⟩,
  ⟨.sbc, .sbcConfirm, none, 0x10, 1, 8, 1, 8⟩,
  ⟨.sbc, .sbcDbgnonce, none, 0x18, 1, 8, 1, 8⟩,
  ⟨.sbc, .sbcCapop, none, 0x100, 4, 32, 1, 8⟩,
  ⟨.sbc, .sbcCaparg, none, 0x108, 4, 32, 1, 8⟩,
  ⟨.sbc, .sbcCapval, none, 0x110, 4, 32, 1, 8⟩,
  ⟨.sbc, .sbcCapstat, none, 0x118, 4, 32, 1, 8⟩,
  ⟨.sbc, .sbcClaimTile, none, 0x10000, 272, 8, 1, 8⟩,
  ⟨.sbc, .sbcClaimFn, none, 0x11000, 4, 8, 1, 8⟩,
  ⟨.sbc, .sbcClaimMc, none, 0x11100, 1, 8, 1, 8⟩,
  ⟨.sbc, .sbcClaimKey, none, 0x11200, 2, 8, 1, 8⟩,
  ⟨.sbc, .sbcClaimStat, none, 0x11300, 1, 8, 1, 8⟩]

/-- The layout of a block. -/
def layOf : Blk → List Lay
  | .cfg => layCfg
  | .clk => layClk
  | .pwr => layPwr
  | .core => layCore
  | .idist => layIdist
  | .iotu => layIotu
  | .sl => laySl
  | .mesh => layMesh
  | .mg => layMg
  | .mc => layMc
  | .fx => layFx
  | .sp => laySp
  | .rp => layRp
  | .fb => layFb
  | .ledg => layLedg
  | .ash => layAsh
  | .sbc => laySbc

/-- The block of a register. -/
def blkOf : RegName → Option Blk
  | .cfgIdent | .cfgSparepool | .cfgLcnmap | .cfgTwin | .cfgTwstat | .cfgTwpc | .cfgQuiet => some .cfg
  | .clkPll | .clkCt | .clkCtadj | .clkCtstep | .clkTilediv => some .clk
  | .pwrTherm | .pwrRailCtl | .pwrRailStat | .pwrTemp => some .pwr
  | .coreCtl | .coreStat | .coreEntry | .coreDbgen => some .core
  | .idistSrcCfg | .idistSrcState | .idistTgtCfg | .idistTgtStat => some .idist
  | .iotuSte | .iotuCtxCfg | .iotuCtxS1tb | .iotuCtxS2tb | .iotuCtxInv | .iotuCtxInvstat | .iotuCtxFault | .iotuCtxFaddr => some .iotu
  | .slBkt | .slWmask | .slCtl | .slHqcfg | .slErr => some .sl
  | .meshEpoch | .meshRt | .meshSlot | .meshPort | .meshLink | .meshStat => some .mesh
  | .mgCtl | .mgFault | .mgFaddr | .mgRgnBase | .mgRgnLimit | .mgRgnDom => some .mg
  | .mcIlv | .mcKeyslot | .mcCfg | .mcStat | .mcScrub | .mcSpare | .mcErr | .mcTiming | .mcBwres => some .mc
  | .fxClsProf | .fxPortCfg | .fxPortStat | .fxPortCnt | .fxQbvCtl | .fxQbvBase | .fxQbvCycle | .fxPsafeCtl | .fxQbvEnt | .fxPsafeData | .fxQCfg | .fxQDbase | .fxQCbase | .fxQCtl | .fxQPtr | .fxQHdr | .fxQErr | .fxClsKey0 | .fxClsKey1 | .fxClsAct | .fxFnCfg | .fxFnCtl | .fxFnStat | .fxFnPend => some .fx
  | .spCtl | .spStat | .spWctl | .spHdbval | .spHintset | .spWstat | .spWinCfg | .spWinTgt => some .sp
  | .rpBifur | .rpCtl | .rpStat | .rpMsi | .rpMsiaddr => some .rp
  | .fbCtl | .fbStat | .fbPin | .fbPinmin | .fbIpend | .fbWatchCfg | .fbWatchStat | .fbSrcCfg | .fbSrcStat | .fbSrcLast | .fbSrcDet => some .fb
  | .ledgCtl | .ledgHead | .ledgMseq | .ledgStat => some .ledg
  | .ashCtl | .ashStat | .ashHead | .ashSwevt => some .ash
  | .sbcStat | .sbcRst | .sbcConfirm | .sbcDbgnonce | .sbcCapop | .sbcCaparg | .sbcCapval | .sbcCapstat | .sbcClaimTile | .sbcClaimFn | .sbcClaimMc | .sbcClaimKey | .sbcClaimStat => some .sbc
  | _ => none

/-- The register that a row puts at an offset, the instance given for a window. -/
def Lay.at (l : Lay) (inst off : Nat) : Option Reg :=
  if off < l.base then none
  else
    let d := off - l.base
    match l.kind with
    | some _ =>
      let j := d / l.sj
      if j * l.sj = d ∧ j < l.nj then some ⟨l.name, inst, j⟩ else none
    | none =>
      let i := d / l.si
      let j := d % l.si / l.sj
      if i < l.ni ∧ j < l.nj ∧ i * l.si + j * l.sj = d then some ⟨l.name, i, j⟩ else none

/-- The register at an offset of a block's global part. -/
def globalAt (b : Blk) (off : Nat) : Option Reg :=
  (layOf b).findSome? (fun l => if l.kind.isNone then l.at 0 off else none)

/-- The register at an offset of a bank's window, `CORE_` instances of kind 1 being the Collier cores (R515). -/
def windowAt (b : Blk) (kind inst off : Nat) : Option Reg :=
  if b = .core ∧ kind = 1 then
    if off = 0x1800 then none else (layOf b).findSome? (fun l => l.at (1088 + inst) off)
  else (layOf b).findSome? (fun l => if l.kind = some kind then l.at inst off else none)

/-- Where a register stands: its block, the kind of its instance and the instance for a window, and its offset in the
global part or in the bank. -/
structure CfgPlace where
  blk : Blk
  win : Option (Nat × Nat)
  off : Nat
  deriving DecidableEq, Repr

/-- The place of a register. -/
def placeOfReg (r : Reg) : Option CfgPlace :=
  match blkOf r.name with
  | none => none
  | some b =>
    (layOf b).findSome? (fun l =>
      if l.name = r.name then
        match l.kind with
        | none => some ⟨b, none, l.base + l.si * r.i + l.sj * r.j⟩
        | some k =>
          some ⟨b, some (if b = .core ∧ 1088 ≤ r.i then (1, r.i - 1088) else (k, r.i)), l.base + l.sj * r.j⟩
      else none)

end Sys2Proof.Machine
end

