-- ==== Sys2Proof/Machine/Ledger.lean ====
section
/-! DEFINITION. The Change Ledger and the Ash Record (R549–R559, R585). -/

namespace Sys2Proof.Machine

/-! Entries of the Change Ledger. -/

def rLedgHead : Reg := ⟨.ledgHead, 0, 0⟩
def rLedgMseq : Reg := ⟨.ledgMseq, 0, 0⟩
def rLedgStat : Reg := ⟨.ledgStat, 0, 0⟩
def rLedgCtl : Reg := ⟨.ledgCtl, 0, 0⟩

/-- The bytes of a line, first `n`. -/
def lineBytes (n : Nat) (l : Line) : List Byte := (List.range n).map (lineByte l)

/-- A little-endian word of up to eight bytes. -/
def leWord (l : List Byte) : Word := l.foldr (fun b a => a * 256 + b.setWidth 64) 0

/-- A word placed in doubleword `i` of a line. -/
def inDword (i : Nat) (v : Word) : Line := v.setWidth 512 <<< (64 * i)

/-- `CHAIN` of an entry (R551). -/
def chainOf (prev entry : Line) : Word := leWord ((sha384 (lineBytes 64 prev ++ lineBytes 56 entry)).take 8)

/-- An entry (R550). -/
def ledgEntry (prev : Line) (seq ct : Word) (target : Nat) (old new : Word) (origin : Nat) : Line :=
  let e := inDword 0 seq ||| inDword 1 ct ||| inDword 2 (BitVec.ofNat 64 target) ||| inDword 3 old ||| inDword 4 new |||
    inDword 5 (BitVec.ofNat 64 origin)
  e ||| inDword 7 (chainOf prev e)

/-- Writes the next entry into the ring. -/
def State.ledgAdd (s : State) (target : Nat) (old new : Word) (origin : Nat) : State :=
  let n := (s.rd rLedgHead).toNat
  let prev := if n = 0 then 0 else tget 0 s.ledg ((n - 1) % 8192)
  let e := ledgEntry prev (BitVec.ofNat 64 n) s.ct target old new origin
  ({ s with ledg := tput s.ledg (n % 8192) e }).wr rLedgHead (BitVec.ofNat 64 (n + 1))

/-- A Ledger event entry (`KIND` 3). -/
def State.ledgEvent (s : State) (kind : Nat) : State := s.ledgAdd (3 * 2 ^ 48 + kind) 0 0 (0x810 + 2 ^ 18)

/-- The slot that the next entry needs is free: the mirror is off, or has copied what the slot holds (R552). -/
def State.ledgRoom (s : State) : Bool :=
  s.fget rLedgCtl ledgCtl_MEN == 0 ||
  decide ((s.rd rLedgHead).toNat < (s.rd rLedgMseq).toNat + 8192)

/-- The last write entered reached the Ledger in this cycle, from an agent with a higher number. -/
def State.ledgLate (s : State) (agent : Nat) : Bool :=
  match s.ledgLast with
  | some (c, a) => decide (s.now ≤ c ∧ agent < a)
  | none => false

/-- A logged write of an agent that arrives now is entered now: none waits, the ring has room, and the order by agent of the
writes of one cycle admits it (R549). -/
def State.ledgTakes (s : State) (agent : Nat) : Bool := s.ledgQ.isEmpty && s.ledgRoom && !s.ledgLate agent

/-- A logged write of any agent that arrives now is entered now. -/
def State.ledgFree (s : State) : Bool :=
  s.ledgQ.isEmpty && s.ledgRoom && (match s.ledgLast with
    | some (c, _) => decide (c < s.now)
    | none => true)

/-- `TARGET` of a write (R550). -/
def LedgTgt.target : LedgTgt → Nat
  | .cr p _ crn => 2 ^ 48 + crn.toNat + p * 2 ^ 16
  | .reg _ addr => addr
  | .img _ _ addr => addr

/-- `ORIGIN` of a write (R550). A write that Kindling makes for a Collier core names agent 0x810. -/
def WriteReq.origin (w : WriteReq) (refused : Bool) : Nat :=
  let agent := match w.via with
    | some _ => 0x810
    | none => agentNo w.who
  let core := match w.who with
    | .core _ => w.via.isNone
    | _ => false
  agent + w.dom * 2 ^ 12 + b2n w.world * 2 ^ 18 + (if core then w.level else 0) * 2 ^ 19 +
    (match w.bank with
     | some b => b * 2 ^ 21 + 2 ^ 23
     | none => 0) +
    b2n refused * 2 ^ 24 +
    (match w.via with
     | some c => 2 ^ 25 + c * 2 ^ 27
     | none => 0)

/-- The entry of a write. -/
def State.ledgLog (s : State) (w : WriteReq) (old new : Word) (refused : Bool) : State :=
  { s.ledgAdd w.tgt.target old new (w.origin refused) with ledgLast := some (w.at_, agentNo w.who) }

/-- A write takes its place among those that wait: by the cycle in which it reaches the Ledger, then by agent (R549). -/
def ledgInsert (w : WriteReq) : List WriteReq → List WriteReq
  | [] => [w]
  | x :: r => if w.at_ < x.at_ ∨ (w.at_ = x.at_ ∧ agentNo w.who < agentNo x.who) then w :: x :: r else x :: ledgInsert w r

/-! The Ash Record. -/

def rAshStat : Reg := ⟨.ashStat, 0, 0⟩
def rAshHead : Reg := ⟨.ashHead, 0, 0⟩
def rAshCtl : Reg := ⟨.ashCtl, 0, 0⟩

def State.frozen (s : State) : Bool := s.fget rAshStat ashStat_FROZEN == 1

/-- An event is offered (R554, R555): queued; counted in `LOST` when the record is frozen or the queue full. -/
def State.ashEvent (s : State) (typ src cls : Nat) (d0 d1 : Word := 0) : State :=
  if s.frozen || decide (64 ≤ s.ashQ.length) then s.finc rAshStat ashStat_LOST
  else { s with ashQ := s.ashQ ++ [⟨s.ct, typ, src, cls, d0, d1⟩] }

/-- The 32 bytes of an event (R554). -/
def AshEv.enc (e : AshEv) (seq : Nat) : BitVec 256 :=
  e.ct.setWidth 256 |||
  (BitVec.ofNat 256 (seq % 2 ^ 32 + e.typ % 2 ^ 16 * 2 ^ 32 + e.src % 2 ^ 12 * 2 ^ 48 + e.cls % 4 * 2 ^ 60) <<< 64) |||
  (e.d0.setWidth 256 <<< 128) ||| (e.d1.setWidth 256 <<< 192)

/-- Writes an event into the ring. -/
def State.ashWrite (s : State) (e : AshEv) : State :=
  let n := s.fget rAshHead ashHead_SEQ
  ({ s with ash := tput s.ash (n % 65536) (e.enc n) }).fset rAshHead ashHead_SEQ (n + 1)

/-- The event arms or advances the trigger of R556. -/
def State.ashTrigger (s : State) (e : AshEv) : State :=
  match s.ashTrig with
  | some k => { s with ashTrig := some (k - 1) }
  | none =>
    if s.fget rAshCtl ashCtl_TRIGEN == 1 && e.typ == 1 && e.src == s.fget rAshCtl ashCtl_TRIGSRC &&
        e.cls == s.fget rAshCtl ashCtl_TRIGCLASS then
      { s with ashTrig := some (s.fget rAshCtl ashCtl_POSTCNT) }
    else s

/-- Records every queued event, in order. -/
def State.ashDrain (s : State) : State :=
  s.ashQ.foldl (fun a e => a.ashWrite e) { s with ashQ := [] }

/-- The record freezes (R556): what is queued is recorded, then, unless the cause is nPFW, a freeze event. -/
def State.ashFreezeNow (s : State) (cause : Nat) : State :=
  if s.frozen then s
  else
    let s := s.ashDrain
    let s := if cause = 2 then s
      else s.ashWrite ⟨s.ct, 0x0013, (freeAshSrc 0x0013).toNat % 4096, (freeAshSrc 0x0013).toNat / 4096,
        BitVec.ofNat 64 cause, 0⟩
    ({ s with ashTrig := none }.fset rAshStat ashStat_FROZEN 1).fset rAshStat ashStat_FRZCAUSE cause

/-- An event whose `SRC` and `CLASS` the spec does not state. -/
def State.ashPlain (s : State) (typ : Nat) (d0 d1 : Word := 0) : State :=
  s.ashEvent typ ((freeAshSrc typ).toNat % 4096) ((freeAshSrc typ).toNat / 4096) d0 d1

/-! The mirror (R552). -/

/-- The mirror is abandoned. -/
def State.abandonMirror (s : State) : State :=
  let m := s.rd rLedgMseq
  let s := (s.fset rLedgCtl ledgCtl_MEN 0).fset rLedgStat ledgStat_MIRERR 1
  let s := { s with mirOut := false, mirRef := false }
  ((s.ledgEvent 5).ashPlain 0x0040 m).report 3396 .uc

end Sys2Proof.Machine
end

