-- ==== Sys2Proof/Machine/Rights.lean ====
section
/-! DEFINITION. Who reaches which register: agents, banks, selections, write rights (R42–R49, R172, R213, R320, R366,
R368, R389, R434, R454, R483, R511, R515, R563, R579). -/

namespace Sys2Proof.Machine

/-! The agent of an access. -/

/-- The world, domain and level under which an agent asks for an access (R25). -/
structure Acc where
  who : Agent
  world : Bool
  dom : Nat
  level : Nat
  deriving DecidableEq, Repr

/-- An access that an agent makes now: a core with its own world, domain and level; the SBC sealed; the others open, D0. -/
def State.accOf (s : State) (who : Agent) : Acc :=
  match who with
  | .core p =>
    let c := s.core p
    ⟨who, c.arch.world, c.crFld ⟨c.arch.world, 0x130#12⟩ domid_DOM, c.arch.level⟩
  | .sbc => ⟨who, true, 0, 0⟩
  | _ => ⟨who, false, 0, 0⟩

def Acc.isSbc (a : Acc) : Bool := a.who == .sbc
def Acc.isHost (a : Acc) : Bool := a.who == .host
/-- A Collier core. -/
def Acc.collier (a : Acc) : Bool :=
  match a.who with
  | .core p => decide (1088 ≤ p)
  | _ => false
/-- A core. -/
def Acc.isCore (a : Acc) : Bool :=
  match a.who with
  | .core _ => true
  | _ => false
/-- A core at L1 or above. -/
def Acc.l1up (a : Acc) : Bool := a.isCore && decide (1 ≤ a.level)
/-- A core in the sealed world at L1 or L3. -/
def Acc.sealed13 (a : Acc) : Bool := a.isCore && a.world && (a.level == 1 || a.level == 3)
/-- A core in the sealed world at L3. -/
def Acc.sealed3 (a : Acc) : Bool := a.isCore && a.world && a.level == 3
/-- Every core at L1 or above, the SBC, the Collier cores. -/
def Acc.reader (a : Acc) : Bool := a.l1up || a.isSbc || a.collier
/-- A sealed core at L1 or L3, the SBC, a Collier core (R320). -/
def Acc.r320 (a : Acc) : Bool := a.sealed13 || a.isSbc || a.collier

/-- The owner of a bank (R44). -/
def Acc.owns (a : Acc) (bank : Nat) : Bool :=
  match bank with
  | 0 => a.sealed13 || a.isSbc
  | 1 => a.isCore && !a.collier && !a.world && a.level == 2
  | 2 => a.collier
  | 3 => a.isHost
  | _ => false

/-- The bank that an agent uses for a register it reaches by selection (R13): the lowest that it owns. -/
def Acc.bank (a : Acc) : Option Nat := [0, 1, 2, 3].find? a.owns

/-! Claims (R366–R369). -/

def State.tileClaimed (s : State) (tile : Nat) : Bool := s.fget ⟨.sbcClaimTile, tile, 0⟩ sbcClaimTile_CLAIM == 1
/-- The tile of a core is claimed; Collier cores have no claim. -/
def State.coreClaimed (s : State) (p : Nat) : Bool := decide (p < 1088) && s.tileClaimed (tileOfCore p)
def State.fnClaimed (s : State) (n : Nat) : Bool := (s.rd ⟨.sbcClaimFn, n / 64, 0⟩).getLsbD (n % 64)
def State.mcClaimed (s : State) (k : Nat) : Bool := (s.rd ⟨.sbcClaimMc, 0, 0⟩).getLsbD k
def State.keyClaimed (s : State) (k : Nat) : Bool := (s.rd ⟨.sbcClaimKey, k / 64, 0⟩).getLsbD (k % 64)

/-! Functions and their contexts (R206, R439, R440). -/

/-- The stream of a function, and its context where its entry is valid (R206, R207). -/
def fnStream (n : Nat) : Nat := n

def State.steCtx (s : State) (stream : Nat) : Option Nat :=
  let e := s.rd ⟨.iotuSte, stream, 0⟩
  if fld e iotuSte_V = 1 then some (fld e iotuSte_CTX) else none

/-- The world and domain of the context of a stream, where both entries are valid. -/
def State.streamWho (s : State) (stream : Nat) : Option (Bool × Nat) :=
  match s.steCtx stream with
  | none => none
  | some c =>
    let g := s.rd ⟨.iotuCtxCfg, c, 0⟩
    if fld g iotuCtxCfg_V = 1 then some (fld g iotuCtxCfg_WORLD == 1, fld g iotuCtxCfg_DOMAIN) else none

/-- The function whose range holds a queue (R440). -/
def State.fnOfQueue (s : State) (q : Nat) : Option Nat :=
  (s.regs.find? (fun e => e.1.name == .fxFnCfg &&
    decide (fld e.2 fxFnCfg_QBASE ≤ q ∧ q < fld e.2 fxFnCfg_QBASE + fld e.2 fxFnCfg_QCNT))).map (·.1.i)

/-! Selection (R42, R43). -/

/-- The SRCNs of R492. -/
def fbListed (n : Nat) : Bool :=
  decide (n ≤ 1108) || decide (1152 ≤ n ∧ n ≤ 3074) || decide (3080 ≤ n ∧ n ≤ 3397)

/-- The instance that a Firebreak source belongs to is claimed (R511). -/
def State.srcClaimed (s : State) (n : Nat) : Bool :=
  if n < 1088 then s.coreClaimed n
  else if 1152 ≤ n ∧ n < 1696 then s.coreClaimed (2 * (n - 1152))
  else if 1696 ≤ n ∧ n < 2240 then s.coreClaimed (2 * (n - 1696))
  else if 3008 ≤ n ∧ n < 3024 then s.mcClaimed (n - 3008)
  else if 3024 ≤ n ∧ n < 3040 then s.mcClaimed (n - 3024)
  else if 3080 ≤ n ∧ n < 3336 then s.fnClaimed (n - 3080)
  else false

/-- The instance is claimed by the sealed world (R169, R213, R366, R511). -/
def State.instClaimed (s : State) (b : Blk) (kind i : Nat) : Bool :=
  match b, kind with
  | .core, 0 => s.coreClaimed i
  | .idist, 0 => s.fget (rSrcCfg i) idistSrcCfg_WORLD == 1
  | .iotu, 1 => s.fget ⟨.iotuCtxCfg, i, 0⟩ iotuCtxCfg_WORLD == 1
  | .mc, 0 => s.mcClaimed i
  | .fx, 1 => match s.fnOfQueue i with
    | some n => s.fnClaimed n
    | none => false
  | .fx, 2 => s.fget ⟨.fxClsAct, i, 0⟩ fxClsAct_V == 1 && s.fnClaimed (s.fget ⟨.fxClsAct, i, 0⟩ fxClsAct_FN)
  | .fx, 3 => s.fnClaimed i
  | .fb, 0 => s.srcClaimed i
  | _, _ => false

/-- The port of a core's tile, spare tile or island (R318). -/
def corePort (p : Nat) : Nat × Nat :=
  let tn := routerOfCore p
  (tn, if p < 1024 then 0 else if p < 1088 then 2 else portOf tn .island)

/-- The routers at which a channel stands (R21). -/
def mcRouters (k : Nat) : List Nat := [0, 1].map (fun j => 16 * (2 * (k % 8) + j) + (if k < 8 then 0 else 15))

/-- The router at which a field port stands (R21). -/
def fpRouter (k : Nat) : Nat := 16 * (k % 16) + (if k < 16 then 0 else 15)

/-- The instance is powered off or fenced (R42, R43). -/
def State.unitOff (s : State) (b : Blk) (kind i : Nat) : Bool :=
  match b, kind with
  | .core, 0 => (s.core i).run == .off || s.fenced (corePort i)
  | .core, 1 => (s.core (1088 + i)).run == .off
  | .sl, 0 => s.fenced (i, 1)
  | .rp, 0 => let tn := routerOf (0x830 + i); s.rpMerged i || s.fenced (tn, portOf tn (.rp i))
  | .mc, 0 => (mcRouters i).any (fun tn => s.fenced (tn, portOf tn (.mc i)))
  | .fx, 0 => s.fenced (fpRouter i, portOf (fpRouter i) (.fp i))
  | _, _ => false

/-- The bank through which Cordwood powers a core on and takes a slice out of retirement (R516, R526) shows both as valid
(log entry 75). -/
def revived (b : Blk) (bank : Nat) : Bool := bank == 2 && (b == .core || b == .sl)

/-- `SEL_STATUS` of a selection in a bank (R42). -/
def State.selStatus (s : State) (b : Blk) (bank kind i : Nat) : Nat :=
  if i ≥ instCount b kind then 1
  else if b = .idist ∧ kind = 0 ∧ i < 32 then 1
  else if b = .iotu ∧ kind = 0 ∧ 272 ≤ i ∧ i ≤ 511 then 1
  else if b = .fb ∧ !fbListed i then 1
  else if s.unitOff b kind i && !(b == .core && revived b bank) then 2
  else if b = .sl ∧ s.fget ⟨.slCtl, i, 0⟩ slCtl_RETIRED = 1 ∧ !revived b bank then 3
  else if 1 ≤ bank ∧ s.instClaimed b kind i then 4
  else 0

/-! Rights. -/

/-- The field is not of type RW-S. -/
def notRws (f : Fld) : Bool := f.ty != .rws
def isW1c (f : Fld) : Bool := f.ty == .w1c
def allFields (_ : Fld) : Bool := true
def noFields (_ : Fld) : Bool := false

/-- The rights of SB1 and SB2 over something that belongs to a world and domain: SB1 where it is open and not D0, SB2 where
it is open and D0. -/
def byDomain (bank : Nat) (x : Option (Bool × Nat)) (ok : Fld → Bool) : Fld → Bool :=
  match x, bank with
  | some (false, d), 1 => if d ≠ 0 then ok else noFields
  | some (false, d), 2 => if d = 0 then ok else noFields
  | _, _ => noFields

/-- The fields that a write through a bank may change. -/
def State.bankRights (s : State) (a : Acc) (bank : Nat) (r : Reg) : Fld → Bool :=
  if r.name = .coreDbgen then (if bank = 0 && a.isSbc then allFields else noFields)
  else if bank = 0 then allFields
  else if bank = 3 then noFields
  else
    match blkOf r.name with
    | some .idist =>
      if r.name = .idistSrcCfg ∨ r.name = .idistSrcState then
        byDomain bank (some (s.fget (rSrcCfg r.i) idistSrcCfg_WORLD == 1, s.fget (rSrcCfg r.i) idistSrcCfg_DOMAIN)) notRws
      else
        let d := s.fget (rTgtCfg r.i) idistTgtCfg_DOMAIN
        if bank = 1 then (if r.i < 1024 ∧ d ≠ 0 then isW1c else noFields)
        else if d = 0 ∨ 1024 ≤ r.i then isW1c else noFields
    | some .iotu =>
      if r.name = .iotuSte then noFields
      else
        let g := s.rd ⟨.iotuCtxCfg, r.i, 0⟩
        byDomain bank (some (fld g iotuCtxCfg_WORLD == 1, fld g iotuCtxCfg_DOMAIN)) notRws
    | some .fx =>
      match r.name with
      | .fxQCfg | .fxQDbase | .fxQCbase | .fxQCtl | .fxQPtr | .fxQHdr | .fxQErr =>
        byDomain bank ((s.fnOfQueue r.i).bind (fun n => s.streamWho (fnStream n))) allFields
      | .fxClsKey0 | .fxClsKey1 | .fxClsAct =>
        byDomain bank (s.streamWho (fnStream (s.fget ⟨.fxClsAct, r.i, 0⟩ fxClsAct_FN))) notRws
      | .fxFnCfg | .fxFnCtl | .fxFnStat | .fxFnPend => byDomain bank (s.streamWho (fnStream r.i)) notRws
      | _ => if bank = 2 then notRws else noFields
    | some .mg => noFields
    | some .fb => if bank = 2 then allFields else noFields
    | some .pwr => if bank = 2 then allFields else noFields
    | _ => if bank = 2 then notRws else noFields

/-- The fields that a write to a global part may change; `none` drops it in the manner of R12. Writes of `LEDG_`, `ASH_`
and `SBC_` without the right are ignored (R563). -/
def globalRights (a : Acc) (r : Reg) : Option (Fld → Bool) :=
  let strong := a.isSbc || (a.sealed3 && !a.collier)
  match blkOf r.name with
  | some .cfg =>
    match r.name with
    | .cfgLcnmap | .cfgTwin | .cfgQuiet =>
      if strong then some allFields else if a.r320 then some isW1c else none
    | .cfgTwstat => if strong then some allFields else none
    | _ => none
  | some .clk =>
    match r.name with
    | .clkPll | .clkTilediv => if a.r320 then some allFields else none
    | .clkCtadj | .clkCtstep => if a.isSbc || (a.sealed13 && !a.collier) then some allFields else none
    | _ => none
  | some .ledg => some (if strong then allFields else noFields)
  | some .ash =>
    some (if strong || (a.collier && (r.name == .ashCtl || r.name == .ashSwevt)) then allFields else noFields)
  | some .sbc =>
    match r.name with
    | .sbcRst => some (if a.isSbc then allFields else noFields)
    | .sbcConfirm => some (if a.sealed3 && !a.collier then allFields else noFields)
    | .sbcCapop | .sbcCaparg | .sbcCapval | .sbcCapstat =>
      some (if decide (a.who = .core (1088 + r.i)) then allFields else noFields)
    | .sbcClaimTile | .sbcClaimFn | .sbcClaimMc | .sbcClaimKey | .sbcClaimStat =>
      some (if a.isSbc || a.sealed3 then allFields else noFields)
    | _ => some noFields
  | some _ => if a.r320 then some (if a.collier then notRws else allFields) else none
  | none => none

/-- The agent may read the register of a global part. -/
def globalRead (a : Acc) (r : Reg) : Bool :=
  match blkOf r.name with
  | some .cfg => a.reader || (a.isHost && r.name == .cfgIdent)
  | some .clk => a.reader || (a.isHost && (r.name == .clkPll || r.name == .clkCt))
  | some .sbc => a.reader
  | some .fb => a.r320 || (a.isHost && (r.name == .fbStat || r.name == .fbPin))
  | some _ => a.r320
  | none => false

/-! A write in progress. -/

def WriteReq.acc (w : WriteReq) : Acc := ⟨w.who, w.world, w.dom, w.level⟩

/-- The value that a write offers to a register. -/
def State.off (s : State) (w : WriteReq) (r : Reg) : Word := offered (s.rd r) w.val w.mask

/-- The write of every field that `ok` admits, by its Type code. -/
def State.plain (s : State) (w : WriteReq) (r : Reg) (ok : Fld → Bool) : State :=
  s.wr r (s.merged r ok w.val w.mask)

/-- The same, but for some fields. -/
def State.plainBut (s : State) (w : WriteReq) (r : Reg) (ok : Fld → Bool) (but : List Fld) : State :=
  s.plain w r (fun f => ok f && !but.contains f)

/-- The rights of a write. -/
def State.rights (s : State) (w : WriteReq) (r : Reg) : Fld → Bool :=
  match w.bank with
  | some b => s.bankRights w.acc b r
  | none => (globalRights w.acc r).getD noFields

end Sys2Proof.Machine
end

