-- ==== Sys2Proof/Machine/Clk.lean ====
section
/-! DEFINITION. The core map and the clock registers (R23, R24, R28–R32, R47, R48, R510, R518, R519). -/

namespace Sys2Proof.Machine

/-- An access dropped in the manner of R12, and one to an unpopulated configuration offset (R38). -/
def State.cfgDrop (s : State) : State := s.report 3390 .ce
def State.cfgUnpop (s : State) : State := s.report 3390 .uc

/-! The core map. -/

/-- Parked for R24: `PARKED`, or `OFF`. -/
def State.isParked (s : State) (p : Nat) : Bool := (s.core p).run == .parked || (s.core p).run == .off

def rLcn (n : Nat) : Reg := ⟨.cfgLcnmap, n, 0⟩
def State.pcnOf (s : State) (n : Nat) : Nat := s.fget (rLcn n) cfgLcnmap_PCN

/-- Another LCN maps to a PCN. -/
def State.mappedElsewhere (s : State) (n q : Nat) : Bool :=
  (List.range 1024).any (fun k => k != n && s.pcnOf k == q)

/-- A change of the mapping of LCN n to PCN q is refused (R24, R519). -/
def State.lcnRefused (s : State) (n q : Nat) : Bool :=
  let p := s.pcnOf n
  decide (1088 ≤ q) || s.mappedElsewhere n q || !s.isParked p || !s.isParked q || s.coreClaimed p != s.coreClaimed q

/-- The bit of `CFG_SPAREPOOL` of a spare core (R47): off, unmapped, and no self-test failed since power-on reset. -/
def State.poolOf (s : State) (p : Nat) : State :=
  if 1024 ≤ p ∧ p < 1088 then
    let r : Reg := ⟨.cfgSparepool, 0, 0⟩
    let m : Word := 1 <<< (p - 1024)
    let c := s.core p
    s.wr r (if c.run = .off ∧ (s.lcnOf p).isNone ∧ !c.bistFailed then s.rd r ||| m else s.rd r &&& ~~~m)
  else s

/-- The held context moves with its LCN (R518): the registers, `CTXV`, the NMI-active flag; the Peat store, caches, TLBs,
return-address stack and target buffer of the new core start empty. -/
def State.moveContext (s : State) (n p q : Nat) : State :=
  let a := s.core p
  let b := s.core q
  let b := { b with arch := a.arch, ctxv := a.ctxv, nmiAct := a.nmiAct, peat := [], lines := [], l2ptr := [], l1i := [], l1iPtr := []
                    l1d := [], l1dPtr := [], flaws := [], itlb := [], itlbPtr := 0, dtlb := [], dtlbPtr := 0, l2tlb := [], l2tlbPtr := []
                    ras := [], tgtBuf := [], tgtPtr := [] }
  let b := (b.setCrFld ⟨true, 0x111#12⟩ peatcfg_CUR 0).setCrFld ⟨false, 0x111#12⟩ peatcfg_CUR 0
  let v := s.intViewOf n
  let s := (s.setCore p { a with ctxv := false, intView := 1048575 }).setCore q { b with intView := v }
  ({ s with intSent := tput s.intSent n v }.poolOf p).poolOf q

/-- A write of `CFG_LCNMAP[n]` (R24, R518, R519). -/
def State.wLcnmap (s : State) (w : WriteReq) (r : Reg) (ok : Fld → Bool) : State × Bool :=
  let old := s.pcnOf r.i
  let q := fld (s.off w r) cfgLcnmap_PCN
  let s := s.plainBut w r ok [cfgLcnmap_PCN]
  if !ok cfgLcnmap_PCN || q == old then (s, false)
  else if s.lcnRefused r.i q then (s.fset r cfgLcnmap_ERR 1, true)
  else ((s.fset r cfgLcnmap_PCN q).moveContext r.i old q, false)

/-! Clocks. -/

def rTilediv (i : Nat) : Reg := ⟨.clkTilediv, i, 0⟩

/-- A write of `CLK_TILEDIV[i]` (R29, R30). -/
def State.wTilediv (s : State) (w : WriteReq) (r : Reg) (ok : Fld → Bool) : State × Bool :=
  if !ok clkTilediv_DIV then (s, true)
  else if !w.world && s.tileClaimed r.i then (s.fset r clkTilediv_STATUS 2, true)
  else if s.fget r clkTilediv_PENDING = 1 then (s.fset r clkTilediv_STATUS 1, true)
  else
    let d := fld (s.off w r) clkTilediv_DIV
    let s1 := s.fset r clkTilediv_STATUS 0
    if d = s.fget r clkTilediv_DIV then (s1, false)
    else ((s1.fset r clkTilediv_DIV d).fset r clkTilediv_PENDING 1, false)

/-- The divider field that a tile's clock runs at: `DIV` 3 until the first switch. -/
def State.divNow (s : State) (i : Nat) : Nat := tget 3 s.tileDiv i

/-- TILE_CLOCK_SWITCH (R29). -/
def execTileClockSwitch (i : Nat) (s : State) : Host.Outcome State Fault Refusal :=
  if i ≥ 272 then .fault .noSuchUnit
  else if s.fget (rTilediv i) clkTilediv_PENDING = 0 then .next s
  else .next (({ s with tileDiv := tput s.tileDiv i (s.fget (rTilediv i) clkTilediv_DIV) }).fset (rTilediv i)
    clkTilediv_PENDING 0)

def rCtadj : Reg := ⟨.clkCtadj, 0, 0⟩

/-- The clamp of R31. -/
def clampAdj (v : BitVec 32) : BitVec 32 :=
  if v.toInt > 10737418 then BitVec.ofNat 32 10737418
  else if v.toInt < -10737418 then BitVec.ofInt 32 (-10737418)
  else v

/-- A write of `CLK_CTADJ` (R31). -/
def State.wCtadj (s : State) (w : WriteReq) (r : Reg) (ok : Fld → Bool) : State × Bool :=
  if !ok clkCtadj_ADJ then (s, true)
  else (s.wr r ((clampAdj ((s.off w r).setWidth 32)).setWidth 64), false)

/-- Adds a signed step to CT (R32). -/
def State.ctStep (s : State) (v : Word) : State := s.wr ⟨.clkCt, 0, 0⟩ (s.ct + v)

/-- A write of `CLK_CTSTEP` (R32); CT holds 0 until the root PLL first locks (R31): the whole register, the low half sign-extended, or the high half, which is dropped. -/
def State.wCtstep (s : State) (w : WriteReq) (_r : Reg) (ok : Fld → Bool) : State × Bool :=
  if !ok clkCtstep_STEP then (s, true)
  else if !s.ctOn then (s, false)
  else if w.mask = BitVec.allOnes 64 then (s.ctStep w.val, false)
  else if w.mask.getLsbD 0 then (s.ctStep ((w.val.setWidth 32).signExtend 64), false)
  else (s.cfgDrop, true)

def rPll : Reg := ⟨.clkPll, 0, 0⟩

def rSbcStat : Reg := ⟨.sbcStat, 0, 0⟩

/-- A step of the boot sequence has been reached: `STEP`, and its Ash event (R554). -/
def State.bootStep (s : State) (n ver : Nat) : State :=
  (s.fset rSbcStat sbcStat_STEP n).ashPlain 0x0020 (BitVec.ofNat 64 n) (BitVec.ofNat 64 ver)

/-- PLL_LOCK (R28, R31): CT starts at the first lock, which is step 2 of the boot sequence (R540). -/
def execPllLock (s : State) : Host.Outcome State Fault Refusal :=
  let s : State := { s.fset rPll clkPll_LOCK 1 with ctOn := true, onRefclk := false }
  .next (if s.fget rSbcStat sbcStat_STEP < 2 then s.bootStep 2 0 else s)

/-- PLL_LOSS_OF_LOCK (R28, R510). -/
def execPllLossOfLock (s : State) : Host.Outcome State Fault Refusal :=
  if s.fget rPll clkPll_LOCK = 0 then .next s
  else .next ({ ((s.fset rPll clkPll_LOCK 0).fset rPll clkPll_UNLOCKED 1) with onRefclk := true }.report 3392 .ft)

end Sys2Proof.Machine
end

