-- ==== Sys2Proof/Machine/Mesh.lean ====
section
/-! DEFINITION. Slices, buckets, the mesh's links, epochs and ports (R294–R323, R390, R525–R531). -/

namespace Sys2Proof.Machine

/-! Quiet parties. -/

/-- `WAYOK` of a party (R390). -/
def State.wayOk (s : State) (wd : Bool) (d : Nat) : Bool :=
  let m := s.wmask wd d
  m != 0 && (List.range 128).all (fun i => i == 64 * b2n wd + d || m &&& s.wmask (decide (64 ≤ i)) (i % 64) == 0)

/-- `BWOK` of a domain (R390). -/
def State.bwOk (s : State) (d : Nat) : Bool :=
  (List.range 16).all (fun k =>
    !(s.chanState k == 1 || s.chanState k == 3) || s.fget ⟨.mcBwres, k, d⟩ mcBwres_SLOTS != 0)

/-- A Quiet party whose configuration fails is marked and reported (R390). -/
def State.quietCheck (s : State) : State :=
  ((s.regs.filter (fun e => e.1.name == .cfgQuiet)).map (·.1)).foldl (fun a r =>
    if a.fget r cfgQuiet_EN == 1 && a.fget r cfgQuiet_VIOL == 0 && !(a.wayOk (r.i == 1) r.j && a.bwOk r.j) then
      (a.fset r cfgQuiet_VIOL 1).report 3391 .uc
    else a) s

/-- A write of a register on which `WAYOK` or `BWOK` depends. -/
def State.wQuietBase (s : State) (w : WriteReq) (r : Reg) (ok : Fld → Bool) : State × Bool :=
  ((s.plain w r ok).quietCheck, false)

/-! Slices and buckets. -/

def rBkt (b : Nat) : Reg := ⟨.slBkt, b, 0⟩

/-- `BKTCNT` of a slice. -/
def State.bktCnt (s : State) (sn : Nat) : Nat :=
  ((List.range 4096).filter (fun b => s.fget (rBkt b) slBkt_SN == sn)).length

def State.sliceRetired (s : State) (sn : Nat) : Bool := s.fget ⟨.slCtl, sn, 0⟩ slCtl_RETIRED == 1

/-- A slice takes part in a move (R301). -/
def State.moving (s : State) (sn : Nat) : Bool :=
  s.bkts.any (fun e => e.2.dest == sn || s.fget (rBkt e.1) slBkt_SN == sn)

/-- A write of `SL_BKT[B]` (R299, R301). -/
def State.wBkt (s : State) (w : WriteReq) (r : Reg) (ok : Fld → Bool) : State × Bool :=
  let v := s.off w r
  let sn := s.fget r slBkt_SN
  let t := fld v slBkt_NEWSN
  if ok slBkt_MOVE && fld v slBkt_MOVE == 1 then
    if s.fget r slBkt_STATE ≠ 0 ∨ t = sn ∨ s.sliceRetired t ∨ s.fenced (t, 1) ∨ s.moving sn ∨ s.moving t then
      (s.fset r slBkt_ERR 1, true)
    else
      let s := (s.plain w r ok).fset r slBkt_STATE 1
      ({ s with bkts := tput s.bkts r.i { dest := t } }, false)
  else (s.plain w r ok, false)

/-- A write of `SL_CTL` (R301). -/
def State.wSlCtl (s : State) (w : WriteReq) (r : Reg) (ok : Fld → Bool) : State × Bool :=
  let v := s.off w r
  if ok slCtl_RETIRED && fld v slCtl_RETIRED == 1 && s.fget r slCtl_RETIRED == 0 && s.bktCnt r.i != 0 then
    ((s.plainBut w r ok [slCtl_RETIRED]).fset r slCtl_ERR 1, true)
  else (s.plain w r ok, false)

/-- A write of `SL_ERR` (R322). -/
def State.wSlErr (s : State) (_w : WriteReq) (r : Reg) (ok : Fld → Bool) : State × Bool :=
  (if ok slErr_DCE then s.wr r 0 else s, false)

/-- The directory entries and LLC lines of a bucket at a slice. -/
def State.bktDir (s : State) (sn b : Nat) : Tab (Nat × Nat × Nat) DirEnt :=
  s.dir.filter (fun e => e.1.1 == sn && bucketOf e.2.line == b)
def State.bktLlc (s : State) (sn b : Nat) : Tab (Nat × Nat × Nat) LlcLine :=
  s.llc.filter (fun e => e.1.1 == sn && bucketOf e.2.line == b)

/-- Sends the next BktXfer of a bucket (R299): a directory entry with its dirty line, or a dirty line alone. The old home keeps
both until the acknowledgement. -/
def State.bktSendOne (s : State) (b : Nat) : State :=
  let sn := s.fget (rBkt b) slBkt_SN
  let mv := tget {} s.bkts b
  let m : Msg := { opc := .bktXfer, pa := 0, src := 0x1000 + sn, dst := .home mv.dest, req := 0x1000 + sn, aux := b }
  let out := fun (a : State) (ln : Nat) => { a with bkts := tput a.bkts b { mv with sent := mv.sent ++ [ln] } }
  let go := fun (ln : Nat) (ent : Option DirEnt) =>
    let s := s.llcReadLine sn ln
    let m := { m with pa := ln, ent := ent }
    out (s.send (match s.llcFind sn ln with
      | some (_, x) => { m with res := 1, data := x.data, poison := x.poison }
      | none => m)) ln
  match (s.bktDir sn b).find? (fun e => !mv.sent.contains e.2.line) with
  | some (_, e) => go e.line (some e)
  | none =>
    match (s.bktLlc sn b).find? (fun e => !mv.sent.contains e.2.line) with
    | some (_, x) => go x.line none
    | none => s

/-- The old home frees what an acknowledged BktXfer has carried (R299). -/
def State.bktFree (s : State) (b ln : Nat) : State :=
  let sn := s.fget (rBkt b) slBkt_SN
  let mv := tget {} s.bkts b
  let s := match s.dirFind sn ln with
    | some (w, _) => { s with dir := tdel s.dir (sn, dirSet ln, w) }
    | none => s
  { s.llcDrop sn ln with bkts := tput s.bkts b { mv with sent := mv.sent.erase ln } }

/-- The waiting requests of a bucket are answered with Redir, in queue order (R299). -/
def State.bktRedir (s : State) (b : Nat) : State :=
  let sn := s.fget (rBkt b) slBkt_SN
  let dest := (tget {} s.bkts b).dest
  let q := tget [] s.hq sn
  let s : State := { s with hq := tput s.hq sn (q.filter (fun m => bucketOf m.pa != b)) }
  (q.filter (fun m => bucketOf m.pa == b)).foldl (fun a m =>
    a.send { m with opc := .redir, src := 0x1000 + sn, dst := .agent m.req, orig := m.opc, aux := dest, aux2 := b }) s

/-- With nothing left to move, the bucket enters `REMAPPING` (R299). -/
def State.bktNext (s : State) (b : Nat) : State :=
  let s := if (tget {} s.bkts b).sent.length < 8 then s.bktSendOne b else s
  let mv := tget {} s.bkts b
  if !mv.sent.isEmpty then s
  else
    let sn := s.fget (rBkt b) slBkt_SN
    let s := (s.fset (rBkt b) slBkt_STATE 3).bktRedir b
    let s : State := { s with bkts := tput s.bkts b { mv with updOut := 256 } }
    s.sendAll { opc := .bktUpd, pa := 0, src := 0x1000 + sn, dst := .router 0, req := 0x1000 + sn, aux := b, aux2 := mv.dest }
      ((List.range 256).map Node.router)

/-- BUCKET_COPY_START (R299): the bucket's open transactions have closed; up to eight transfers leave. -/
def execBucketCopyStart (b : Nat) (s : State) : Host.Outcome State Fault Refusal :=
  if b ≥ 4096 then .fault .noSuchUnit
  else
    let sn := s.fget (rBkt b) slBkt_SN
    if s.fget (rBkt b) slBkt_STATE ≠ 1 ∨ s.txns.any (fun t => t.1.1 == sn &&
        (bucketOf t.1.2 == b || (match t.2.victim with
          | some v => bucketOf v == b
          | none => false))) then .next s
    else
      let s : State := { s.fset (rBkt b) slBkt_STATE 2 with
                 llc := s.llc.filter (fun e => !(e.1.1 == sn && bucketOf e.2.line == b && !e.2.dirty)) }
      let s := (List.range 7).foldl (fun a _ => a.bktSendOne b) s
      .next (s.bktNext b)

/-- The new home installs what a BktXfer carries (R299); with no free way it first recalls a victim. -/
def State.bktInstall (s : State) (sn : Nat) (m : Msg) : Option State :=
  match m.ent with
  | none => some (s.act sn m none none)
  | some _ =>
    let set := dirSet m.pa
    match (List.range 16).find? (fun w => (tfind s.dir (sn, set, w)).isNone && !s.wayHeld sn set w) with
    | some w => some ((s.touchDir sn m.pa w).act sn m (some w) none)
    | none =>
      if (List.range 16).all (fun w => s.wayHeld sn set w) then none
      else
        let w := plruVictim (tget 0 s.plru (sn, set)) (s.wayHeld sn set)
        match tfind s.dir (sn, set, w) with
        | some e => some ((s.touchDir sn m.pa w).recall sn m w e)
        | none => none

/-- BKT_XFER (R299). -/
def execBktXfer (b : Nat) (s : State) : Host.Outcome State Fault Refusal :=
  if b ≥ 4096 then .fault .noSuchUnit
  else
    match s.recv (fun m => m.opc == .bktXfer && m.aux == b) with
    | none => .next s
    | some (m, s') =>
      match m.dst with
      | .home sn => .next ((s'.bktInstall sn m).getD s)
      | _ => .next s

/-- BKT_UPD (R299): a router's copy takes the new slice. -/
def execBktUpd (b tn : Nat) (s : State) : Host.Outcome State Fault Refusal :=
  if b ≥ 4096 ∨ tn ≥ 256 then .fault .noSuchUnit
  else
    match s.recv (fun m => m.opc == .bktUpd && m.aux == b && decide (m.dst = .router tn)) with
    | none => .next s
    | some (m, s') =>
      .next ({ s' with rtBkt := tput s'.rtBkt (tn, b) m.aux2 }.send
        { m with opc := .bktAck, src := 0x1000 + tn, dst := .home (m.req - 0x1000) })

/-- BKT_ACK (R299). -/
def execBktAck (b : Nat) (s : State) : Host.Outcome State Fault Refusal :=
  if b ≥ 4096 then .fault .noSuchUnit
  else
    match s.recv (fun m => m.opc == .bktAck && m.aux == b) with
    | none => .next s
    | some (m, s') =>
      let mv := tget {} s'.bkts b
      if s'.fget (rBkt b) slBkt_STATE = 2 then .next ((s'.bktFree b m.pa).bktNext b)
      else if mv.updOut = 1 then
        .next ((({ s' with bkts := tdel s'.bkts b }.fset (rBkt b) slBkt_SN mv.dest).fset (rBkt b) slBkt_STATE 0))
      else .next { s' with bkts := tput s'.bkts b { mv with updOut := mv.updOut - 1 } }

/-! Urgency and slot tables. -/

/-- A header rises by one in urgency, to 15 (R309). -/
def Msg.raise (m : Msg) (seq : Nat) : Msg :=
  { m with urg := min 15 (m.urg + 1), at15 := if m.urg = 14 then seq else m.at15 }

/-- URGENCY_RAISE (R309): the oldest header of a class that waits in a lane of one input of a router. The lanes of a router
hold 36 headers: no more requests to one home stand at 15 (R314). -/
def execUrgencyRaise (tn input vc lane : Nat) (s : State) : Host.Outcome State Fault Refusal :=
  if tn ≥ 256 || input ≥ 7 || vc ≥ 4 || lane ≥ 2 then .fault .noSuchUnit
  else
    let via := fun (m : Msg) => m.inj && m.opc.vc == vc && !m.vc3 && s.lane m == lane &&
      (s.inputAt m tn == some input || (m.from == tn && m.atR.isSome))
    match s.net.findIdx? via with
    | none => .next s
    | some i =>
      let full := fun (m : Msg) => decide (m.urg = 14 ∧ (s.net.filter (fun x => x.at15 != 0 && decide (x.dst = m.dst))).length ≥ 36)
      .next { s with net := s.net.modify i (fun (m : Msg) => if full m then m else m.raise (s.urgSeq + 1)), urgSeq := s.urgSeq + 1 }

/-- Valid entries of a slot word. -/
def slotValid (v : Word) : Nat := ((List.range 16).filter (fun i => v.getLsbD (4 * i + 3))).length

/-- A slot word after a write: entries that name input 6 or 7 are reserved encodings and stay (R10). -/
def slotMerge (old new : Word) : Word :=
  (List.range 16).foldl (fun a i =>
    let x := bits new.toNat (4 * i) 4
    if x % 8 ≥ 6 then a else BitVec.ofNat 64 (setBits a.toNat (4 * i) 4 x)) old

/-- A write of `MESH_SLOT[o][k]` (R310, R323). -/
def State.wMeshSlot (s : State) (w : WriteReq) (r : Reg) (ok : Fld → Bool) : State × Bool :=
  if !ok meshSlot_SLOTS then (s, true)
  else
    let old := s.rd r
    let new := slotMerge old (s.off w r)
    let others := ((List.range 4).filter (fun k => k != r.j % 4)).map (fun k => slotValid (s.rd ⟨.meshSlot, r.i, r.j / 4 * 4 + k⟩))
    if slotValid new + others.sum > 48 then (s.fset ⟨.meshStat, r.i, 0⟩ meshStat_SLOTERR 1, true)
    else
      let act := tget old s.slotAct (r.i, r.j)
      ({ s with slotAct := tput s.slotAct (r.i, r.j) act }.wr r new, false)

/-- SLOT_TABLE_UPDATE (R323): what was written takes effect. -/
def execSlotTableUpdate (tn : Nat) (s : State) : Host.Outcome State Fault Refusal :=
  if tn ≥ 256 then .fault .noSuchUnit
  else .next { s with slotAct := s.slotAct.filter (fun e => e.1.1 != tn) }

/-! Links. -/

def rLink (tn : Nat) (d : Dir) : Reg := ⟨.meshLink, tn, d.num⟩

/-- Both ends of a link. -/
def bothEnds (tn : Nat) (d : Dir) : List (Nat × Dir) :=
  (tn, d) :: (match neighbour tn d with
    | some c => [(c, d.opp)]
    | none => [])

/-- Takes a link down, in both directions (R315, R323). -/
def State.takeDown (s : State) (tn : Nat) (d : Dir) (replay : Bool) : State :=
  (bothEnds tn d).foldl (fun a l =>
    let a := a.fset (rLink l.1 l.2) meshLink_DOWN 1
    let a := if replay then a.fset (rLink l.1 l.2) meshLink_REPLAYFAIL 1 else a
    { a with linkOk := a.linkOk.filter (fun x => x != (l.1, l.2.num))
             linkUp := a.linkUp.filter (fun x => x != (l.1, l.2.num)) }) s

/-- A write of `MESH_LINK[o]` (R315, R323). -/
def State.wMeshLink (s : State) (w : WriteReq) (r : Reg) (ok : Fld → Bool) : State × Bool :=
  let v := s.off w r
  let d := dirOfNum r.j
  let old := s.fget r meshLink_DOWN
  let clr := ok meshLink_REPLAYFAIL && fld (v &&& w.mask) meshLink_REPLAYFAIL == 1
  let s := s.plainBut w r ok [meshLink_DOWN]
  let s := if clr then s.fset r meshLink_CECNT 0 else s
  if !ok meshLink_DOWN || fld v meshLink_DOWN == old then (s, false)
  else if fld v meshLink_DOWN = 1 then (s.takeDown r.i d false, false)
  else if s.linkOk.contains (r.i, r.j) then ({ s with linkUp := (r.i, r.j) :: s.linkUp }, false)
  else (s, true)

/-- LINK_RETRAIN (R531): a down link tries its test pattern. -/
def execLinkRetrain (tn o : Nat) (pass : Bool) (s : State) : Host.Outcome State Fault Refusal :=
  if tn ≥ 256 ∨ o ≥ 4 then .fault .noSuchUnit
  else if !s.linkDown (tn, dirOfNum o) then .next s
  else
    let ends := (bothEnds tn (dirOfNum o)).map (fun l => (l.1, l.2.num))
    let rest := s.linkOk.filter (fun x => !ends.contains x)
    .next { s with linkOk := if pass then ends ++ rest else rest }

/-- The message carries a line. -/
def Msg.isLine (m : Msg) : Bool :=
  match m.opc with
  | .writeUnique | .writePtl | .putM | .putO | .data | .roData | .snpData | .ncWriteP | .ncWriteO | .ncData | .bktXfer => true
  | _ => false

/-- FLIT_ECC_ERROR (R315): an error on a flit that arrives at router `tn` over its port `o`. When the replays of a flit
fail, the oldest line packet on its way over the link is the one that the receiver completes with poison. -/
def execFlitEccError (tn o : Nat) (kind : FlitError) (s : State) : Host.Outcome State Fault Refusal :=
  if tn ≥ 256 ∨ o ≥ 4 then .fault .noSuchUnit
  else
    let d := dirOfNum o
    match neighbour tn d with
    | none => .next s
    | some c =>
      match kind with
      | .corrected => .next ((s.finc (rLink tn d) meshLink_CECNT).report (2752 + tn) .ce o)
      | .replayed => .next s
      | .replayFail =>
        if s.linkDown (tn, d) then .next s
        else
          let hit := fun (m : Msg) => m.inj && m.isLine && (s.routeOf m).contains (c, d.opp) && (s.heldAt m).isNone
          let s' := match s.net.findIdx? hit with
            | none => s
            | some i => { s with net := s.net.modify i (fun (m : Msg) => { m with poison := 15, atR := some tn }) }
          .next ((s'.takeDown tn d true).report (2752 + tn) .uc o)

/-! Epochs. -/

def rEpoch : Reg := ⟨.meshEpoch, 0, 0⟩
def State.epoch (s : State) : Nat := s.fget rEpoch meshEpoch_STATE

/-- A write of `MESH_EPOCH` (R316). -/
def State.wEpoch (s : State) (w : WriteReq) (r : Reg) (ok : Fld → Bool) : State × Bool :=
  let cmd := ok meshEpoch_CMD && fld (s.off w r) meshEpoch_CMD == 1
  let s := s.plain w r ok
  if !cmd then (s, false)
  else if s.epoch ≠ 0 then (s.fset r meshEpoch_ERR 1, true)
  else (s.fset r meshEpoch_STATE 1, false)

/-- EPOCH_DRAIN0_DONE (R316). -/
def execEpochDrain0Done (s : State) : Host.Outcome State Fault Refusal :=
  if s.epoch ≠ 1 ∨ s.net.any (fun m => m.inj && m.opc.vc == 0 && !m.vc3 && (s.heldAt m).isNone) then .next s
  else .next (s.fset rEpoch meshEpoch_STATE 2)

/-- Every router copies `SMODE` to `MODE`, and the links that retrained come up (R316, R323). -/
def State.swap (s : State) : State :=
  let s : State := { s with net := s.net.map (fun (m : Msg) => if m.inj then { m with atR := (s.heldAt m).map (·.1) } else m) }
  let s : State := ((s.regs.filter (fun e => e.1.name == .meshRt)).map (·.1)).foldl
    (fun a r => a.fset r meshRt_MODE (a.fget r meshRt_SMODE)) s
  let s := s.linkUp.foldl (fun a l => a.fset (rLink l.1 (dirOfNum l.2)) meshLink_DOWN 0) s
  let down := ((s.regs.filter (fun e => e.1.name == .meshLink && fld e.2 meshLink_DOWN == 1)).map (fun e => (e.1.i, e.1.j)))
  { s with linkOk := s.linkOk.filter (fun l => !s.linkUp.contains l), linkUp := [], linkOld := down }

/-- EPOCH_DRAIN1_DONE (R316): nothing but held packets is in flight; the routers swap and the held packets move again. -/
def execEpochDrain1Done (s : State) : Host.Outcome State Fault Refusal :=
  if s.epoch ≠ 2 ∨ s.net.any (fun m => m.inj && (s.heldAt m).isNone) then .next s
  else
    let s := s.swap.fset rEpoch meshEpoch_STATE 4
    .next (s.net.foldl (fun a m => if m.inj then a.routeErr m else a) s)

/-- A message that its sender's port has held back enters the mesh: a request for a line goes to the home that its router's
bucket table names now (R296). -/
def State.released (s : State) (m : Msg) : Msg :=
  if m.inj then m
  else
    match m.dst with
    | .home _ => { m with inj := true, dst := if m.opc.vc = 0 then .home (s.homeFrom m.from m.pa) else m.dst }
    | _ => { m with inj := true }

/-- EPOCH_RELEASE_DONE (R316). -/
def execEpochReleaseDone (s : State) : Host.Outcome State Fault Refusal :=
  if s.epoch ≠ 4 ∨ s.net.any (fun m => m.inj && (s.heldAt m).isNone) then .next s
  else
    let s := (s.fset rEpoch meshEpoch_STATE 0).fset rEpoch meshEpoch_DONE 1
    let s := s.fset rEpoch meshEpoch_COUNT (s.fget rEpoch meshEpoch_COUNT + 1)
    .next { s with net := s.net.map s.released }

/-- A write of `MESH_RT[d]` (R308): a mode that the destination forbids is a reserved encoding. -/
def modeLegal (tn d m : Nat) : Bool :=
  match m with
  | 0 | 1 => true
  | 2 => tn / 16 == d / 16 && decide (tn / 16 < 15)
  | 3 => tn / 16 == d / 16 && decide (0 < tn / 16)
  | 4 => tn % 16 == d % 16 && decide (tn % 16 < 15)
  | 5 => tn % 16 == d % 16 && decide (0 < tn % 16)
  | _ => false

def State.wMeshRt (s : State) (w : WriteReq) (r : Reg) (ok : Fld → Bool) : State × Bool :=
  if modeLegal r.i r.j (fld (s.off w r) meshRt_SMODE) then (s.plain w r ok, false) else (s, false)

/-! Ports. -/

def rPort (tn p : Nat) : Reg := ⟨.meshPort, tn, p⟩

/-- The cores behind an endpoint. -/
def endCores (tn : Nat) : Endpoint → List Nat
  | .cores => (List.range 4).map (fun c => 4 * tn + c)
  | .spare d => (List.range 4).map (fun k => 1024 + 4 * d + k)
  | _ => []

/-- A core has nothing open, unsent or held (R318). -/
def State.coreQuiesced (s : State) (p : Nat) : Bool :=
  let c := s.core p
  c.lines.isEmpty && c.sq.isEmpty && c.wait.isNone && !s.net.any (fun m => m.src == agentOf p) &&
  !s.resend.any (fun e => e.1.src == agentOf p)

/-- An I/O-die block is idle: it has no request of its own outstanding (log entry 41). -/
def State.blockIdle (s : State) (b : IoBlock) : Bool :=
  match b with
  | .mc k => (tget {} s.chans k).queue.isEmpty
  | .rp k => !s.io.any (fun r => r.agent == 0x830 + k) && !s.rpOut.any (fun e => e.1.1 == k)
  | .fp k => s.fget ⟨.fxPortCfg, k, 0⟩ fxPortCfg_EN == 0
  | .fx e => !s.io.any (fun r => r.agent == (if e then 0x841 else 0x840))
  | .sp => !s.io.any (fun r => r.agent == 0x820)
  | .island => false

/-- DRAIN is accepted (R318). -/
def State.mayDrainPort (s : State) (tn : Nat) (e : Endpoint) : Bool :=
  match e with
  | .slice => s.bktCnt tn == 0
  | .io b => s.blockIdle b
  | _ => (endCores tn e).all s.isParked

/-- The endpoint has no transaction open, no message unsent and no line held (R318). -/
def State.portDrained (s : State) (tn : Nat) (e : Endpoint) : Bool :=
  match e with
  | .slice =>
    !s.txns.any (fun t => t.1.1 == tn) && (tget [] s.hq tn).isEmpty && !s.dir.any (fun t => t.1.1 == tn) &&
    !s.llc.any (fun t => t.1.1 == tn) && !s.net.any (fun m => m.src == 0x1000 + tn)
  | .io b =>
    let mine := fun (m : Msg) => s.portFrom m == (tn, portOf tn b)
    s.blockIdle b && !s.net.any (fun m => !m.inj && mine m) && !s.resend.any (fun e => mine e.1)
  | _ => (endCores tn e).all s.coreQuiesced

/-- The tile that the claim check of R320 names for a port. -/
def portTile (tn : Nat) : Endpoint → Nat
  | .spare d => 256 + d
  | _ => tn

/-- The port opens: a slice comes up empty (R526). -/
def State.openPort (s : State) (tn p : Nat) : State :=
  (s.fset (rPort tn p) meshPort_STATE 0).fset (rPort tn p) meshPort_STATUS 0

def State.refusePort (s : State) (tn p : Nat) : State :=
  (s.fset (rPort tn p) meshPort_ERR 1).fset (rPort tn p) meshPort_STATUS 1

/-- What stands on its way to a fenced endpoint is answered or dropped by the router (R319). -/
def State.fenceNet (s : State) (tn p : Nat) : State :=
  let mine := fun (m : Msg) => decide (s.portTo m = (tn, p))
  (s.net.filter mine).foldl State.fenceDrop { s with net := s.net.filter (fun m => !mine m) }

/-- A command of `MESH_PORT` (R318, R526): the state, and whether it is refused. `STATUS` is the result of the last
write, one without a command among them. -/
def State.portCmd (s : State) (tn p : Nat) (e : Endpoint) (cmd : Nat) : State × Bool :=
  let r := rPort tn p
  let st := s.fget r meshPort_STATE
  let done := fun (a : State) (x : Nat) => ((a.fset r meshPort_STATE x).fset r meshPort_STATUS 0, false)
  match cmd with
  | 1 => if st = 0 ∧ s.mayDrainPort tn e then done s 1 else (s.refusePort tn p, true)
  | 2 => if st = 2 then done (s.fset r meshPort_STATE 3 |>.fenceNet tn p) 3 else (s.refusePort tn p, true)
  | 3 =>
    if st ≠ 3 then (s.refusePort tn p, true)
    else
      match e with
      | .slice => ({ s with slTest := tn :: s.slTest.filter (· != tn) }.fset r meshPort_STATUS 0, false)
      | .io _ => (s.openPort tn p, false)
      | _ =>
        if (endCores tn e).any (fun c => (s.core c).run != .off && (s.core c).run != .bist && (s.core c).bistpass) then
          (s.openPort tn p, false)
        else (s.refusePort tn p, true)
  | _ => (s.fset r meshPort_STATUS 0, false)

/-- A write of `MESH_PORT[p]` (R318, R320). -/
def State.wMeshPort (s : State) (w : WriteReq) (r : Reg) (ok : Fld → Bool) : State × Bool :=
  let cmd := fld (s.off w r) meshPort_CMD
  match endpointAt r.i r.j with
  | none => (s, false)
  | some e =>
    if w.bank = some 2 ∧ s.tileClaimed (portTile r.i e) then (s.fset r meshPort_STATUS 2, true)
    else if !ok meshPort_CMD then (s, true)
    else (s.plain w r ok).portCmd r.i r.j e cmd

/-- PORT_DRAIN_ACK (R318). -/
def execPortDrainAck (tn q : Nat) (s : State) : Host.Outcome State Fault Refusal :=
  if tn ≥ 256 ∨ q ≥ 8 then .fault .noSuchUnit
  else
    match endpointAt tn q with
    | none => .next s
    | some e =>
      if s.fget (rPort tn q) meshPort_STATE = 1 ∧ s.portDrained tn e then .next (s.fset (rPort tn q) meshPort_STATE 2)
      else .next s

/-- SLICE_SELF_TEST_DONE (R526): the port opens with an empty slice, or stays fenced. -/
def execSliceSelfTestDone (sn : Nat) (pass : Bool) (s : State) : Host.Outcome State Fault Refusal :=
  if sn ≥ 256 then .fault .noSuchUnit
  else if !s.slTest.contains sn then .next s
  else
    let s : State := { s with slTest := s.slTest.filter (· != sn) }
    if pass then
      .next ({ s with dir := s.dir.filter (fun e => e.1.1 != sn), llc := s.llc.filter (fun e => e.1.1 != sn) }.openPort sn 1)
    else .next (s.refusePort sn 1)

end Sys2Proof.Machine
end

