-- ==== Sys2Proof/Machine/Channel.lean ====
section
/-! DEFINITION. Memory channels, gatekeepers and key slots: their commands and what they do on their own (R325–R348,
R527, R528). -/

namespace Sys2Proof.Machine

def rMc (n : RegName) (k : Nat) : Reg := ⟨n, k, 0⟩
def State.setChan (s : State) (k : Nat) (c : Chan) : State := { s with chans := tput s.chans k c }
def State.chan (s : State) (k : Nat) : Chan := tget {} s.chans k

/-! Service. -/

/-- A corrected error (R327). -/
def State.mcCe (s : State) (k rank dev : Nat) : State :=
  (((s.finc (rMc .mcErr k) mcErr_CE).fset (rMc .mcErr k) mcErr_RANK rank).fset (rMc .mcErr k) mcErr_DEV dev).report (3008 + k) .ce

/-- The other channel of a mirrored pair. -/
def pairOf (k : Nat) : Nat := if k % 2 = 0 then k + 1 else k - 1

/-- The other channel of the pair holds a copy and serves. -/
def State.survivor (s : State) (k : Nat) : Bool := s.mirror && s.chanState (pairOf k) == 1

/-- The errors that a read of a line finds are counted and reported (R327, R332); an uncorrectable line is poisoned. -/
def State.readErr (s : State) (k pa : Nat) (e : DramError) : State :=
  match e with
  | .none => s
  | .ce rank dev => s.mcCe k rank dev
  | .uc rank =>
    if s.survivor k then (s.mcCe k rank 0).mcCe (pairOf k) rank 0
    else
      { ((s.finc (rMc .mcErr k) mcErr_UC).fset (rMc .mcErr k) mcErr_RANK rank).report (3008 + k) .uc with
        memPoison := tput s.memPoison (lineOf pa) 15 }

/-- A read delivers its line to who waits for it. -/
def State.deliverRead (s : State) (r : ChReq) (d : Line) (po : BitVec 4) : State :=
  match r.who with
  | .home sn pa => s.homeMem sn pa d po
  | .nc m =>
    s.send { s.ncAnswer m .ncData with data := lineGet d (lineOff m.pa) m.size
                                       poison := if poisoned (poison8 po) (lineOff m.pa) m.size then 15 else 0 }
  | _ => s

/-- A write has been performed. -/
def State.deliverWrite (s : State) (r : ChReq) : State :=
  match r.who with
  | .nc m => s.send (s.ncAnswer m .ncAck)
  | _ => s

/-- Performs one request at its channel. -/
def State.chanDo (s : State) (k : Nat) (r : ChReq) (e : DramError) : State :=
  if r.write then
    if r.bmask = BitVec.allOnes 64 then (s.dramWrite r.pa r.data r.poison).deliverWrite r
    else
      let s := if s.chanDead k || s.asleep k then s else s.readErr k r.pa e
      let (d, po) := s.dramRead r.pa
      (s.dramWrite r.pa (lineMerge d r.bmask r.data) (unpoisonMask po r.bmask ||| r.poison)).deliverWrite r
  else
    let s := if s.chanDead k then s.report (3024 + k) .uc else if s.asleep k then s else s.readErr k r.pa e
    let (d, po) := s.dramRead r.pa
    s.deliverRead r d po

/-- The key slot of the request generates a key: the request waits (R341). -/
def State.keyWait (s : State) (r : ChReq) : Bool :=
  match s.keySlot r.pa with
  | some k => s.slotState k == 1
  | none => false

/-- Request `i` of a queue may be served: no earlier request is for its line. -/
def chanFree (q : List ChReq) (i : Nat) (r : ChReq) : Bool := (q.take i).all (fun x => lineOf x.pa != lineOf r.pa)

/-- The request that a channel serves next (R343): reserved ones oldest first, then best-effort ones oldest first. -/
def State.chanNext (s : State) (k : Nat) : Option Nat :=
  let q := (s.chan k).queue
  let ok := fun (want : Bool) => (List.range q.length).find? (fun i =>
    match q[i]? with
    | some r => r.reserved == want && chanFree q i r && !s.keyWait r
    | none => false)
  (ok true).or (ok false)

/-- Lines of a channel. -/
def State.chanLines (s : State) : Nat := s.fget rIlv mcIlv_CAPG * 2 ^ 24

/-- The copy engines of a channel move on by one line, at best-effort priority (R331, R334). -/
def State.copyNext (s : State) (k : Nat) : State :=
  let up := fun (a : State) (r : Reg) (f : Fld) => if a.fget r f + 1 < a.chanLines then a.fset r f (a.fget r f + 1) else a
  let s := if s.chanState k = 3 then up s (rMc .mcStat k) mcStat_POS else s
  if s.fget (rMc .mcSpare k) mcSpare_STATE = 1 then up s (rMc .mcSpare k) mcSpare_POS else s

/-- CHANNEL_SERVE (R343); `err` is what the read finds. With nothing to serve a copy engine has the channel. -/
def execChannelServe (k : Nat) (err : DramError) (s : State) : Host.Outcome State Fault Refusal :=
  if k ≥ 16 then .fault .noSuchUnit
  else
    match s.chanNext k with
    | none => .next (s.copyNext k)
    | some i =>
      let c := s.chan k
      match c.queue[i]? with
      | none => .next s
      | some r => .next ((s.setChan k { c with queue := c.queue.eraseIdx i }).chanDo k r err)

/-- BW_WINDOW_START (R343): fresh credits; `USED` shows what the last window granted. -/
def execBwWindowStart (k : Nat) (s : State) : Host.Outcome State Fault Refusal :=
  if k ≥ 16 then .fault .noSuchUnit
  else
    let c := s.chan k
    let ds := (List.range 64).filter (fun d => s.fget ⟨.mcBwres, k, d⟩ mcBwres_SLOTS != 0 ||
      s.fget ⟨.mcBwres, k, d⟩ mcBwres_USED != 0 || tget 0 c.granted d != 0)
    let s := ds.foldl (fun a d => a.fset ⟨.mcBwres, k, d⟩ mcBwres_USED (tget 0 c.granted d)) s
    .next (s.setChan k { c with credit := ds.map (fun d => (d, s.fget ⟨.mcBwres, k, d⟩ mcBwres_SLOTS)), granted := [] })

/-! Scrub, sparing. -/

/-- The physical address of a channel address (R326). -/
def State.unmap (s : State) (k a : Nat) : Nat :=
  if s.mirror then a / 256 * 2048 + (k / 2 ^^^ bits a 8 3) * 256 + a % 256
  else a / 256 * 4096 + (k ^^^ bits a 8 4) * 256 + a % 256

/-- PATROL_SCRUB_READ (R330): the next line is read; at the end of a pass `PASSES` counts. -/
def execPatrolScrubRead (k : Nat) (err : DramError) (s : State) : Host.Outcome State Fault Refusal :=
  if k ≥ 16 then .fault .noSuchUnit
  else if s.fget (rMc .mcCfg k) mcCfg_TRAINED = 0 ∨ ¬(s.chanState k = 1 ∨ s.chanState k = 3) ∨ s.chanLines = 0 then .next s
  else
    let r := rMc .mcScrub k
    let n := s.fget r mcScrub_POS
    let s := s.readErr k (s.unmap k (n * 64)) err
    if n + 1 < s.chanLines then .next (s.fset r mcScrub_POS (n + 1))
    else .next ((s.fset r mcScrub_POS 0).fset r mcScrub_PASSES (s.fget r mcScrub_PASSES + 1))

/-- The RW-L fields are locked (R348). -/
def State.mcLocked (s : State) : Bool := s.fget rIlv mcIlv_LOCK == 1
def State.notLocked (s : State) (f : Fld) : Bool := !(f.ty == .rwl && s.mcLocked)

/-- A write of `MC_CFG`. -/
def State.wMcCfg (s : State) (w : WriteReq) (r : Reg) (ok : Fld → Bool) : State × Bool :=
  (s.plain w r (fun f => ok f && s.notLocked f), false)

/-- A write of `MC_SPARE` (R331). -/
def State.wMcSpare (s : State) (w : WriteReq) (r : Reg) (ok : Fld → Bool) : State × Bool :=
  let start := ok mcSpare_START && fld (s.off w r) mcSpare_START == 1
  let s := s.plain w r (fun f => ok f && s.notLocked f)
  if !start then (s, false)
  else if s.fget r mcSpare_STATE ≠ 0 ∨ s.fget r mcSpare_SPEN = 0 ∨ s.fget r mcSpare_FROM = s.fget r mcSpare_SPARE then
    (s.fset r mcSpare_ERR 1, true)
  else ((s.fset r mcSpare_STATE 1).fset r mcSpare_POS 0, false)

/-- SPARE_COPY_DONE (R331). -/
def execSpareCopyDone (k : Nat) (s : State) : Host.Outcome State Fault Refusal :=
  if k ≥ 16 then .fault .noSuchUnit
  else if s.fget (rMc .mcSpare k) mcSpare_STATE ≠ 1 then .next s
  else .next ((s.fset (rMc .mcSpare k) mcSpare_STATE 2).fset (rMc .mcStat k) mcStat_EVT 1)

/-! Failure, rejoin. -/

/-- A channel enters `FAILED` (R333): what is queued goes on at the survivor. -/
def State.failChan (s : State) (k : Nat) : State :=
  let q := (s.chan k).queue
  let s := ((s.fset (rMc .mcStat k) mcStat_STATE 2).fset (rMc .mcStat k) mcStat_EVT 1).fset (rMc .mcCfg k) mcCfg_TRAINED 0
  let s := if s.survivor k then
      let o := s.chan (pairOf k)
      (s.setChan k { s.chan k with queue := [] }).setChan (pairOf k) { o with queue := o.queue ++ q }
    else s
  (s.report (3024 + k) .uc).quietCheck

/-- CHANNEL_FAIL (R333): hardware detects the failure. -/
def execChannelFail (k : Nat) (s : State) : Host.Outcome State Fault Refusal :=
  if k ≥ 16 then .fault .noSuchUnit
  else if s.chanState k = 1 ∨ s.chanState k = 3 then .next (s.failChan k)
  else .next s

/-- A write of `MC_STAT` (R333, R334). -/
def State.wMcStat (s : State) (w : WriteReq) (r : Reg) (ok : Fld → Bool) : State × Bool :=
  let cmd := if ok mcStat_CMD then fld (s.off w r) mcStat_CMD else 0
  let s := s.plain w r ok
  let k := r.i
  match cmd with
  | 1 =>
    if !s.survivor k then (s.fset r mcStat_ERR 1, true)
    else if s.chanState k = 2 then (s, false)
    else (s.failChan k, false)
  | 2 =>
    if s.survivor k && s.chanState k == 2 && s.fget (rMc .mcCfg k) mcCfg_TRAINED == 1 then
      (((s.fset r mcStat_STATE 3).fset r mcStat_POS 0).quietCheck, false)
    else (s.fset r mcStat_ERR 1, true)
  | _ => (s, false)

/-- What waits at the survivor for lines that channel `k` serves again: during the resilver every write stood in both
queues (R334), so `k` goes on with them in their order (R247). -/
def State.rejoined (s : State) (k : Nat) : State :=
  let o := s.chan (pairOf k)
  let back := fun (r : ChReq) => s.serving r.pa == k
  (s.setChan (pairOf k) { o with queue := o.queue.filter (fun r => !back r) }).setChan k
    { s.chan k with queue := (s.chan k).queue ++ o.queue.filter back }

/-- RESILVER_DONE (R334). -/
def execResilverDone (k : Nat) (s : State) : Host.Outcome State Fault Refusal :=
  if k ≥ 16 then .fault .noSuchUnit
  else if s.chanState k ≠ 3 then .next s
  else .next ((((s.fset (rMc .mcStat k) mcStat_STATE 1).rejoined k).fset (rMc .mcStat k) mcStat_EVT 1).quietCheck)

/-- CHANNEL_RETRAIN (R528): retraining of a failed channel ends. -/
def execChannelRetrain (k : Nat) (pass : Bool) (s : State) : Host.Outcome State Fault Refusal :=
  if k ≥ 16 then .fault .noSuchUnit
  else if s.chanState k ≠ 2 then .next s
  else .next (s.fset (rMc .mcCfg k) mcCfg_TRAINED (b2n pass))

/-- A write of `MC_ILV` (R325, R329): with `LOCK`, every trained channel serves. -/
def State.wIlv (s : State) (w : WriteReq) (r : Reg) (ok : Fld → Bool) : State × Bool :=
  let was := s.mcLocked
  let s := s.plain w r (fun f => ok f && s.notLocked f)
  if !was && s.mcLocked then
    ((List.range 16).foldl (fun a k =>
      if a.fget (rMc .mcCfg k) mcCfg_TRAINED = 1 ∧ a.chanState k = 0 then a.fset (rMc .mcStat k) mcStat_STATE 1 else a) s, false)
  else (s, false)

/-- A write of `MC_BWRES[d]` (R343, R348). -/
def State.wBwres (s : State) (w : WriteReq) (r : Reg) (ok : Fld → Bool) : State × Bool :=
  let v := fld (s.off w r) mcBwres_SLOTS
  let old := s.fget r mcBwres_SLOTS
  let rest := ((List.range 64).filter (fun d => d != r.j)).map (fun d => s.fget ⟨.mcBwres, r.i, d⟩ mcBwres_SLOTS)
  let bad := ok mcBwres_SLOTS && decide (old < v ∧ v ≤ 64) &&
    decide (rest.sum + v > s.fget (rMc .mcTiming r.i) mcTiming_SLOTMAX)
  if bad then ((s.plainBut w r ok [mcBwres_SLOTS]).fset r mcBwres_ERR 1, true)
  else
    let s := s.plain w r ok
    let s := if s.mirror && r.i % 2 == 0 then s.fset ⟨.mcBwres, r.i + 1, r.j⟩ mcBwres_SLOTS (s.fget r mcBwres_SLOTS) else s
    (s.quietCheck, false)

/-- A write of `MC_ERR` (R348). -/
def State.wMcErr (s : State) (_w : WriteReq) (r : Reg) (ok : Fld → Bool) : State × Bool :=
  (if ok mcErr_CE then (s.fset r mcErr_CE 0).fset r mcErr_UC 0 else s, false)

/-! Key slots (R341). -/

def rKey (k : Nat) : Reg := ⟨.mcKeyslot, k, 0⟩

/-- A write of `MC_KEYSLOT[s]`: commands come from the SBC only. -/
def State.wKeyslot (s : State) (w : WriteReq) (r : Reg) (ok : Fld → Bool) : State × Bool :=
  let cmd := fld (s.off w r) mcKeyslot_CMD
  let s := s.plain w r ok
  if cmd = 0 ∨ cmd = 3 then (s, false)
  else if !w.acc.isSbc then (s, true)
  else if s.fget r mcKeyslot_STATE = 1 then (s.fset r mcKeyslot_ERR 1, true)
  else if cmd = 1 then (s.fset r mcKeyslot_STATE 1, false)
  else (s.fset r mcKeyslot_STATE 0, false)

/-- KEY_VALID (R341). -/
def State.keyValid (s : State) (k : Nat) : State :=
  (s.fset (rKey k) mcKeyslot_STATE 2).fset (rKey k) mcKeyslot_GENCNT (s.fget (rKey k) mcKeyslot_GENCNT + 1)

/-- KEY_VALID (R341). -/
def execKeyValid (k : Nat) (s : State) : Host.Outcome State Fault Refusal :=
  if k ≥ 66 then .fault .noSuchUnit
  else if s.fget (rKey k) mcKeyslot_STATE ≠ 1 then .next s
  else .next (s.keyValid k)

/-! Gatekeepers (R338). -/

def rMgCtl (i : Nat) : Reg := ⟨.mgCtl, i, 0⟩

/-- Open transactions and queued requests of a gatekeeper have their verdict under the regions that were. -/
def State.markPre (s : State) (i : Nat) : State :=
  { s with txns := s.txns.map (fun (t : (Nat × Nat) × Txn) =>
             if s.dramGate t.1.2 = i then (t.1, { t.2 with msg := { t.2.msg with pre := true } }) else t)
           chans := s.chans.map (fun (c : Nat × Chan) =>
             (c.1, { c.2 with queue := c.2.queue.map (fun r => if s.dramGate r.pa = i then { r with pre := true } else r) })) }

/-- A commit: the shadows of all 64 regions become active. -/
def State.gateCommit (s : State) (i : Nat) : State :=
  let s := s.markPre i
  let act := (List.range 64).foldl (fun a r =>
    tput (tput (tput a (i, r, 0) (s.rd ⟨.mgRgnBase, i, r⟩)) (i, r, 1) (s.rd ⟨.mgRgnLimit, i, r⟩)) (i, r, 2)
      (s.rd ⟨.mgRgnDom, i, r⟩)) s.mgAct
  { s with mgAct := act }.fset (rMgCtl i) mgCtl_BUSY 1

/-- A write of `MG_CTL` (R338). -/
def State.wMgCtl (s : State) (w : WriteReq) (r : Reg) (ok : Fld → Bool) : State × Bool :=
  let commit := ok mgCtl_COMMIT && fld (s.off w r) mgCtl_COMMIT == 1
  let s := s.plain w r ok
  if !commit then (s, false)
  else if s.fget r mgCtl_BUSY = 1 then (s.fset r mgCtl_REFUSED 1, true)
  else (s.gateCommit r.i, false)

/-- A write of `MG_FAULT` (R349). -/
def State.wMgFault (s : State) (w : WriteReq) (r : Reg) (ok : Fld → Bool) : State × Bool :=
  let had := s.fget r mgFault_FV
  let s := s.plain w r ok
  if had = 1 ∧ s.fget r mgFault_FV = 0 then ((s.fset r mgFault_FMULT 0).fset r mgFault_CNT 0, false) else (s, false)

/-- An access that the old regions passed is still open at a gatekeeper. -/
def State.gateOpen (s : State) (i : Nat) : Bool :=
  s.txns.any (fun t => t.2.msg.pre && s.dramGate t.1.2 == i) ||
  s.chans.any (fun c => c.2.queue.any (fun r => r.pre && s.dramGate r.pa == i))

/-- GATEKEEPER_COMMIT_DONE (R338). -/
def execGatekeeperCommitDone (i : Nat) (s : State) : Host.Outcome State Fault Refusal :=
  if i ≥ 35 then .fault .noSuchUnit
  else if s.gateOpen i then .next s
  else .next (s.fset (rMgCtl i) mgCtl_BUSY 0)

end Sys2Proof.Machine
end

