-- ==== Sys2Proof/Machine/Operands.lean ====
section
/-! DEFINITION. The operand forms of the instruction formats (R54) and the integer functions (R55–R62). -/

namespace Sys2Proof.Machine

/-- imm16 sign-extended, and zero-extended. -/
def simm (i : BitVec 16) : Word := i.signExtend 64
def zimm (i : BitVec 16) : Word := i.setWidth 64
/-- sext(imm16 << 16), of LUI and ADDPCI. -/
def upper (i : BitVec 16) : Word := (i.setWidth 32 <<< 16).signExtend 64
/-- The displacement of a branch, in bytes (R67). -/
def disp14 (d : BitVec 14) : Word := d.signExtend 64 <<< 2
def disp25 (d : BitVec 25) : Word := d.signExtend 64 <<< 2
/-- The offset of FLD and FST: sext(imm14) × the access size (R66). -/
def fpOff (i : BitVec 14) (size : Nat) : Word := i.signExtend 64 * BitVec.ofNat 64 size
/-- The bytes that a two-bit size of FLD and FST selects (R66), and of MEMX (R75). -/
def fpSize (z : BitVec 2) : Nat := 2 ^ (z.toNat + 1)
def memxSize (z : BitVec 2) : Nat := 2 ^ z.toNat

/-- The low 32 bits, sign-extended. -/
def sextW (v : Word) : Word := (v.setWidth 32).signExtend 64
def sextB (v : Word) : Word := (v.setWidth 8).signExtend 64
def sextH (v : Word) : Word := (v.setWidth 16).signExtend 64

/-- The shift amounts of a register shift (R58). -/
def sh6 (b : Word) : Nat := b.toNat % 64
def sh5 (b : Word) : Nat := b.toNat % 32

def ofBool (b : Bool) : Word := if b then 1 else 0

def minS (a b : Word) : Word := if a.slt b then a else b
def maxS (a b : Word) : Word := if a.slt b then b else a

def w32 (v : Word) : BitVec 32 := v.setWidth 32
def sllW (a : Word) (n : Nat) : Word := (w32 a <<< n).signExtend 64
def srlW (a : Word) (n : Nat) : Word := (w32 a >>> n).signExtend 64
def sraW (a : Word) (n : Nat) : Word := ((w32 a).sshiftRight n).signExtend 64

/-- Leading zeros, 0–64. -/
def clz (v : Word) : Nat := if v = 0 then 64 else 63 - Nat.log2 v.toNat
/-- Trailing zeros, 0–64. -/
def ctz (v : Word) : Nat := ((List.range 64).find? (fun i => v.getLsbD i)).getD 64
/-- One bits. -/
def popc (v : Word) : Nat := ((List.range 64).filter (fun i => v.getLsbD i)).length
/-- The eight bytes reversed. -/
def bswap (v : Word) : Word :=
  (List.range 8).foldl (fun a i => a ||| (((v >>> (8 * i)) &&& 0xFF) <<< (8 * (7 - i)))) 0

/-- The high half of a product of two integers (R60). -/
def mulHigh (a b : Int) : Word := BitVec.ofInt 64 (a * b / 2 ^ 64)

/-- The signed quotient of two w-bit operands with the results of R62. -/
def quotS {w : Nat} (a b : BitVec w) : BitVec w :=
  if b = 0 then (if a.msb then BitVec.intMin w else BitVec.intMax w) else BitVec.ofInt w (a.toInt.tdiv b.toInt)
def remS {w : Nat} (a b : BitVec w) : BitVec w :=
  if b = 0 then a else BitVec.ofInt w (a.toInt.tmod b.toInt)
def quotU {w : Nat} (a b : BitVec w) : BitVec w := if b = 0 then BitVec.allOnes w else a / b
def remU {w : Nat} (a b : BitVec w) : BitVec w := if b = 0 then a else a % b

end Sys2Proof.Machine
end

