-- ==== Sys2Proof/Machine/Mmu.lean ====
section
/-! DEFINITION. Address translation: descriptors, walks, TLB entries and permissions (R184–R201). -/

namespace Sys2Proof.Machine

/-- Why a table read gives no descriptor (R197). -/
inductive WErr where
  | unpop | refused (reason : Nat) | poison
  /-- The line is not in L2: the read is to be made again once it is (R194). -/
  | miss
  /-- The home has refused the line (R290). -/
  | abort
  deriving DecidableEq, Repr

/-- A translation fault: stage, level and kind (R197), whether it arose on a stage-1 table address, and the IPA. -/
structure XFault where
  stage2 : Bool
  level : Nat
  kind : Nat
  s1walk : Bool
  ipa : Nat
  deriving DecidableEq, Repr

/-- How a walk ends badly: a fault, or a table read at `pa` that failed, with the level and the stage of its descriptor. -/
inductive TErr where
  | fault (f : XFault)
  | bus (e : WErr) (pa level : Nat) (stage2 : Bool)
  deriving DecidableEq, Repr

/-- A leaf of one stage (R190). -/
structure Leaf where
  oa : Nat
  r : Bool
  w : Bool
  x : Bool
  u : Bool
  g : Bool
  pxn : Bool
  mt : Nat
  lg : Nat
  level : Nat
  deriving DecidableEq, Repr

/-- One descriptor at a level (R190, R191): a leaf, a next table, or a fault kind. -/
inductive Desc where
  | leaf (l : Leaf)
  | table (pa : Nat)
  | bad (kind : Nat)
  deriving DecidableEq, Repr

/-- log2 of the input range of a leaf at a level (R189). -/
def leafLg (level : Nat) : Nat := 12 + 9 * (3 - level)

/-- Reads a descriptor (R190, R191). `stage2` makes U, G and PXN reserved; the IOTU ignores U, G, PXN and X of a leaf. In a
table descriptor they stay reserved for the IOTU too, where R190 and R191 leave open which rule wins (log entry 61). -/
def parseDesc (stage2 iotu : Bool) (level : Nat) (d : Word) : Desc :=
  let v := d.toNat
  if bit v 0 = false then .bad 0
  else if bits v 48 16 ≠ 0 ∨ bits v 10 2 ≠ 0 then .bad 1
  else if bit v 1 then
    let oa := bits v 12 36 * 4096
    if level = 0 then .bad 1
    else if stage2 && !iotu && decide (bits v 5 3 ≠ 0) then .bad 1
    else if oa % 2 ^ leafLg level ≠ 0 then .bad 1
    else .leaf { oa := oa, r := bit v 2, w := bit v 3, x := bit v 4, u := bit v 5, g := bit v 6, pxn := bit v 7,
                 mt := bits v 8 2, lg := leafLg level, level := level }
  else if level = 3 then .bad 1
  else if bits v 2 8 ≠ 0 then .bad 1
  else .table (bits v 12 36 * 4096)

/-- The address of the descriptor that a table at `t` holds for an input address at a level (R189). -/
def descAddr (t level a : Nat) : Nat := t + 8 * bits a (leafLg level) 9

/-- A disabled stage (R188): the identity, everything granted, 1 GiB. -/
def identityLeaf (a mt : Nat) : Leaf :=
  { oa := a / 2 ^ 30 * 2 ^ 30, r := true, w := true, x := true, u := false, g := false, pxn := false, mt := mt,
    lg := 30, level := 0 }

/-- The stage-2 walk of one IPA (R189, R194). `n` counts the levels left. -/
def walk2 (rd : Nat → Except WErr Word) (iotu : Bool) (ipa : Nat) : Nat → Nat → Except TErr Leaf
  | 0, _ => .error (.fault ⟨true, 3, 1, false, ipa⟩)
  | n + 1, t =>
    let level := 3 - n
    match rd (descAddr t level ipa) with
    | .error e => .error (.bus e (descAddr t level ipa) level true)
    | .ok d =>
      match parseDesc true iotu level d with
      | .bad k => .error (.fault ⟨true, level, k, false, ipa⟩)
      | .leaf l => .ok l
      | .table t' => walk2 rd iotu ipa n t'

/-- Stage 2 of an IPA: walk it when enabled, otherwise the identity. Memory type 0 is the weakest. -/
def stage2 (rd : Nat → Except WErr Word) (iotu : Bool) (base : Option Nat) (ipa : Nat) : Except TErr Leaf :=
  match base with
  | none => .ok (identityLeaf ipa 0)
  | some b => walk2 rd iotu ipa 4 b

/-- The output address of a leaf. -/
def Leaf.out (l : Leaf) (a : Nat) : Nat := l.oa + a % 2 ^ l.lg

/-- The stage-1 walk (R194): each table address passes stage 2, where it needs R (R192). -/
def walk1 (rd : Nat → Except WErr Word) (iotu : Bool) (base2 : Option Nat) (va : Nat) : Nat → Nat → Except TErr Leaf
  | 0, _ => .error (.fault ⟨false, 3, 1, false, 0⟩)
  | n + 1, t =>
    let level := 3 - n
    let ia := descAddr t level va
    match stage2 rd iotu base2 ia with
    | .error (.fault f) => .error (.fault { f with s1walk := true })
    | .error e => .error e
    | .ok l2 =>
      if !l2.r then .error (.fault ⟨true, l2.level, 3, true, ia⟩)
      else
        match rd (l2.out ia) with
        | .error e => .error (.bus e (l2.out ia) level false)
        | .ok d =>
          match parseDesc false iotu level d with
          | .bad k => .error (.fault ⟨false, level, k, false, 0⟩)
          | .leaf l => .ok l
          | .table t' => walk1 rd iotu base2 va n t'

/-- The strength order of memory types (R193). -/
def mtRank (mt : Nat) : Nat := if mt = 2 then 3 else if mt = 3 then 2 else mt

/-- A regime: guest or host, stage bases (none where disabled), and tags (R184). -/
structure Regime where
  guest : Bool
  s1 : Option Nat
  s2 : Option Nat
  world : Bool
  dom : Nat
  vmid : Nat
  asid : Nat
  deriving DecidableEq, Repr

/-- The regime of a world and level under given control registers (R184, R187). -/
def regimeOf (x : Ctx) (world : Bool) (level : Nat) : Regime :=
  let dom := fld (x.cr ⟨world, 0x130#12⟩) domid_DOM
  if level ≤ 1 then
    let tb := x.cr ⟨world, 0x140#12⟩
    let en := fld (x.cr ⟨world, 0x141#12⟩) s1ctl_EN
    let tb2 := if world then x.cr ⟨true, 0x312#12⟩ else x.cr ⟨false, 0x242#12⟩
    let en2 := if world then fld (x.cr ⟨true, 0x313#12⟩) s2ctl_EN else fld (x.cr ⟨false, 0x243#12⟩) s2ctl_EN
    { guest := true, world := world, dom := dom
      s1 := if en = 1 then some (fld tb s1tb_BASE * 4096) else none
      s2 := if en2 = 1 then some (fld tb2 s2tb_BASE * 4096) else none
      vmid := fld tb2 s2tb_VMID, asid := fld tb s1tb_ASID }
  else
    let tb := if world then x.cr ⟨true, 0x310#12⟩ else x.cr ⟨false, 0x240#12⟩
    let en := if world then fld (x.cr ⟨true, 0x311#12⟩) hctl_EN else fld (x.cr ⟨false, 0x241#12⟩) hctl_EN
    { guest := false, world := world, dom := dom
      s1 := if en = 1 then some (fld tb htb_BASE * 4096) else none
      s2 := none, vmid := 0, asid := 0 }

/-- The permissions an access needs (R192). -/
structure Need where
  r : Bool
  w : Bool
  x : Bool
  deriving DecidableEq, Repr

/-- The whole walk of a virtual address (R194): the entry it forms (R200). `ok1` is the permission check of the
stage-1 leaf, which comes before the final stage-2 translation (R142, R198). -/
def walk (rd : Nat → Except WErr Word) (iotu : Bool) (g : Regime) (ok1 : Leaf → Bool) (va : Nat) :
    Except TErr TlbEnt :=
  let l1 := match g.s1 with
    | none => Except.ok (identityLeaf va (if va < 0x080000000000 then 0 else 2))
    | some b => walk1 rd iotu g.s2 va 4 b
  match l1 with
  | .error e => .error e
  | .ok l =>
    if g.s1.isSome && !ok1 l then .error (.fault ⟨false, l.level, 3, false, 0⟩) else
    let ipa := l.out va
    match stage2 rd iotu g.s2 ipa with
    | .error e => .error e
    | .ok l2 =>
      let lg := min l.lg l2.lg
      let pa := l2.out ipa
      .ok { world := g.world, guest := g.guest, dom := g.dom, vmid := g.vmid, asid := g.asid, glob := l.g, lg := lg,
            va := va / 2 ^ lg * 2 ^ lg, pa := pa / 2 ^ lg * 2 ^ lg,
            r1 := l.r, w1 := l.w, x1 := l.x, u := l.u, pxn := l.pxn, s1en := g.s1.isSome,
            r2 := l2.r, w2 := l2.w, x2 := l2.x,
            mt := if mtRank l.mt < mtRank l2.mt then l2.mt else l.mt, mtS2 := decide (mtRank l.mt < mtRank l2.mt),
            lv1 := l.level, lv2 := l2.level, ipa := ipa / 2 ^ lg * 2 ^ lg }

/-- The stage-1 half of R192. -/
def grants1 (r w x u pxn : Bool) (level : Nat) (n : Need) : Bool :=
  (!n.r || r) && (!n.w || w) && (!n.x || x) &&
  (if n.x then (if level = 0 then u else !u && !(level = 1 && pxn)) else !(level = 0) || u)

/-- The permission check of R192 at a level: stage 1, then stage 2; a fetch from Device memory faults at the stage that
gave the type. The spec names no stage where both give the same type, and no `LEVEL` where the type comes from a disabled
stage 1: the model takes stage 1, and level 0 (log entry 61). -/
def permit (e : TlbEnt) (level : Nat) (n : Need) : Option XFault :=
  let ok1 := !e.s1en || grants1 e.r1 e.w1 e.x1 e.u e.pxn level n
  let ok2 := (!n.r || e.r2) && (!n.w || e.w2) && (!n.x || e.x2)
  let dev := n.x && (e.mt == 2 || e.mt == 3)
  if !ok1 || (dev && !e.mtS2) then some ⟨false, e.lv1, 3, false, 0⟩
  else if !ok2 || dev then some ⟨true, e.lv2, 3, false, e.ipa⟩
  else none

/-- The physical address an entry gives for a virtual address. -/
def TlbEnt.out (e : TlbEnt) (va : Nat) : Nat := e.pa + va % 2 ^ e.lg

/-- An entry covers the address and every tag matches (R200). -/
def TlbEnt.hits (e : TlbEnt) (g : Regime) (va : Nat) : Bool :=
  e.world == g.world && e.guest == g.guest && e.dom == g.dom &&
  (!g.guest || (e.vmid == g.vmid && (e.glob || e.asid == g.asid))) &&
  e.va == va / 2 ^ e.lg * 2 ^ e.lg

/-- The entries of a core that an access may use: its side's L1 TLB, or else the L2 TLB (R199). -/
def Core.tlbHits (c : Core) (fetch : Bool) (g : Regime) (va : Nat) : List TlbEnt :=
  let l1 := ((if fetch then c.itlb else c.dtlb).map (·.2)).filter (fun e => e.hits g va)
  if l1.isEmpty then (c.l2tlb.map (·.2)).filter (fun e => e.hits g va) else l1

/-- The set of the L2 TLB for an entry of at most 2 MiB (R199). -/
def l2TlbSet (lg va : Nat) : Nat := if lg = 12 then bits va 12 9 else bits va 21 9

/-- A 1 GiB translation is held in the L2 TLB as the 2 MiB part that holds the address (R199). -/
def TlbEnt.part (e : TlbEnt) (va : Nat) : TlbEnt :=
  if e.lg = 30 then
    let o := va % 2 ^ 30 / 2 ^ 21 * 2 ^ 21
    { e with lg := 21, va := e.va + o, pa := e.pa + o, ipa := e.ipa + o }
  else e

/-- Installs one entry in the L1 TLB of its side and one in the L2 TLB, round robin (R196, R199). -/
def Core.tlbFill (c : Core) (fetch : Bool) (va : Nat) (e : TlbEnt) : Core :=
  let e2 := e.part va
  let set := l2TlbSet e2.lg va
  let w := tget 0 c.l2tlbPtr set
  let c := { c with l2tlb := tput c.l2tlb (set, w) e2, l2tlbPtr := tput c.l2tlbPtr set ((w + 1) % 4) }
  if fetch then { c with itlb := tput c.itlb c.itlbPtr e, itlbPtr := (c.itlbPtr + 1) % 32 }
  else { c with dtlb := tput c.dtlb c.dtlbPtr e, dtlbPtr := (c.dtlbPtr + 1) % 48 }

/-- Removes the entries that satisfy `f` from every TLB of a core. -/
def Core.tlbRemove (c : Core) (f : TlbEnt → Bool) : Core :=
  { c with itlb := c.itlb.filter (fun e => !f e.2), dtlb := c.dtlb.filter (fun e => !f e.2)
           l2tlb := c.l2tlb.filter (fun e => !f e.2) }

/-- A table read of core `p` (R194): from L2 under matching tags; a line that L2 does not hold is a miss, and an error that
waits to be found in it is found first. Peat lines of the core's own window are read in place. -/
def State.walkRead (s : State) (p : Nat) (world : Bool) (dom : Nat) (pa : Nat) : Except WErr Word :=
  let c := s.core p
  match place pa with
  | .dram =>
    if !s.dramOk pa then .error .unpop
    else if c.refused.contains (lineOf pa) then .error .abort
    else
      match c.line pa with
      | none => .error .miss
      | some l0 =>
        if !(l0.holds && l0.way.isSome && l0.world == world && l0.dom == dom) || c.flawed 2 pa then .error .miss
        else
          let l := c.merged pa l0
          if poisoned l.poison (lineOff pa) 8 then .error .poison
          else .ok ((lineGet l.data (lineOff pa) 8).setWidth 64)
  | .peat q off =>
    if q ≠ p then .error .unpop
    else
      match c.peatWorld off with
      | none => .error .unpop
      | some w =>
        if w ≠ world then .error (.refused 0)
        else
          match s.verdict (peatGate p) world dom true false pa 8 with
          | some r => .error (.refused r)
          | none =>
            if c.flawed 2 pa then .error .miss
            else
              let l := c.peatLine pa
              if poisoned l.poison (off % 64) 8 then .error .poison
              else .ok ((lineGet l.data (off % 64) 8).setWidth 64)
  | _ => .error .unpop

end Sys2Proof.Machine
end

