-- ==== Sys2Proof/Machine/Where.lean ====
section
/-! DEFINITION. What stands at an offset of the configuration space (R12, R38–R44, R175). -/

namespace Sys2Proof.Machine

/-- A core of a world and level may reach an interface page of its own target (R175). -/
def pageOk (world : Bool) (level : Nat) (p : PageKind) : Bool :=
  match p with
  | .openL1 => (!world && (level == 1 || level == 2)) || (world && level == 3)
  | .openL2 => (!world && level == 2) || (world && level == 3)
  | .sealedL1 => world && (level == 1 || level == 3)
  | .sealedL3 => world && level == 3

/-- A register stands at this offset of an interface page. -/
def pageHas (off : Nat) : Bool := off % 8 == 0 && decide (off ≤ 0x040)

/-- What an access to an offset of the configuration space finds. -/
inductive CfgAt where
  /-- Nothing (R38). -/
  | unpop
  /-- It is dropped before it reaches a block (R12, R43, R44), or the block drops it. -/
  | drop
  | reg (r : Reg) (bank : Option Nat)
  | img (k dw : Nat) (bank : Nat)
  | page (t : Nat) (p : PageKind) (off : Nat)
  /-- `SP_WACT[w]` (R462), an option-ROM location (R485), the SRAM windows (R553, R560). -/
  | wact (w j : Nat)
  | rom (i : Nat)
  | ledg (off : Nat)
  | ash (off : Nat)
  deriving DecidableEq, Repr

/-- A bank of a selected block (R41–R44). -/
def State.bankAt (s : State) (a : Acc) (b : Blk) (bank off : Nat) : CfgAt :=
  let sel : Reg := ⟨.sel, blkNum b, bank⟩
  if !a.owns bank then .drop
  else if off < 8 then .reg sel (some bank)
  else if off < 0x1000 then .unpop
  else
    let kind := s.fget sel sel_KIND
    let i := s.fget sel sel_INDEX
    if s.selStatus b bank kind i ≠ 0 then .drop
    else if b = .rp ∧ 0x2000 ≤ off ∧ off < 0x3000 then .img i ((off - 0x2000) / 8 * 2) bank
    else
      match windowAt b kind i (off / 8 * 8) with
      | some r => .reg r (some bank)
      | none => .unpop

/-- The own-interface pages (R175). -/
def State.ownPage (s : State) (a : Acc) (off : Nat) : CfgAt :=
  let k := (off - 0x10000) / 0x1000
  let pk : PageKind := if k = 0 then .openL1 else if k = 1 then .openL2 else if k = 2 then .sealedL1 else .sealedL3
  match a.who with
  | .core p =>
    match s.targetOf p with
    | some t =>
      if !pageOk a.world a.level pk then .drop
      else if pageHas (off % 0x1000 / 8 * 8) then .page t pk (off % 0x1000)
      else .unpop
    | none => .drop
  | _ => .drop

/-- The global part of a block, and the whole region of one that is not selected. -/
def State.globalPart (s : State) (a : Acc) (b : Blk) (off : Nat) : CfgAt :=
  if b = .idist ∧ 0x10000 ≤ off ∧ off < 0x14000 then s.ownPage a off
  else if b = .sp ∧ 0x200 ≤ off ∧ off < 0x300 then .wact ((off - 0x200) / 16) (off / 8 % 2)
  else if b = .sp ∧ 0x100000 ≤ off ∧ off < 0x180000 then .rom ((off - 0x100000) / 8)
  else if b = .ledg ∧ 0x1000000 ≤ off ∧ off < 0x1080000 then .ledg (off - 0x1000000)
  else if b = .ash ∧ 0x1000000 ≤ off ∧ off < 0x1200000 then .ash (off - 0x1000000)
  else
    match globalAt b (off / 8 * 8) with
    | some r => .reg r none
    | none => .unpop

/-- The decode of an access (R12, R40–R44). -/
def State.cfgAt (s : State) (a : Acc) (off size : Nat) : CfgAt :=
  if !((size == 4 || size == 8) && off % size == 0) then .drop
  else
    match blkOfNum (off / 0x8000000) with
    | none => .unpop
    | some b =>
      let o := off % 0x8000000
      if selected b ∧ 0x1000000 ≤ o then
        if o < 0x5000000 then s.bankAt a b (o / 0x1000000 - 1) (o % 0x1000000) else .unpop
      else s.globalPart a b o

/-- Nothing stands where an access of an agent to the configuration space goes (R38). -/
def State.cfgHole (s : State) (a : Acc) (off size : Nat) : Bool :=
  match s.cfgAt a off size with
  | .unpop => true
  | _ => false

end Sys2Proof.Machine
end

