-- ==== Sys2Proof/Machine/Reads.lean ====
section
/-! DEFINITION. What the instructions of a core share below the instruction boundary: the operation monad, registers,
translated addresses, cached lines, uncached requests, loads (R125–R132, R184–R201, R216–R222, R229, R246–R256). -/

namespace Sys2Proof.Machine

/-- A synchronous exception (R141): cause, `EADDR`, `INFO`, `ACC`, and the IPA page of a stage-2 fault (R197). -/
structure Exc where
  cause : Nat
  eaddr : Nat := 0
  info : Nat := 0
  acc : Nat := 0
  ipa : Option Nat := none
  deriving DecidableEq, Repr

/-- Why an instruction does not complete now: it waits and is to be offered again, or it raises an exception. -/
inductive Stop where
  | stall
  | exc (e : Exc)
  deriving DecidableEq, Repr

/-- An operation of a core: what it changes before it stops stays changed. -/
abbrev InsnM := EStateM Stop State

def stall {α : Type} : InsnM α := throw .stall
def raise {α : Type} (cause : Nat) (eaddr info acc : Nat := 0) : InsnM α :=
  throw (.exc { cause := cause, eaddr := eaddr, info := info, acc := acc })
def ill {α : Type} : InsnM α := raise 0x00
def priv {α : Type} : InsnM α := raise 0x01
def stallIf (b : Bool) : InsnM Unit := if b then stall else pure ()
def illIf (b : Bool) : InsnM Unit := if b then ill else pure ()
def privIf (b : Bool) : InsnM Unit := if b then priv else pure ()

def getCore (p : Nat) : InsnM Core := do return (← get).core p
def modCore (p : Nat) (f : Core → Core) : InsnM Unit := modify (·.modCore p f)

/-! Registers (R51, R52). -/

/-- A general register: g0 is zero, g31 the copy of the level and world. -/
def Arch.gget (a : Arch) (r : RegNo) : Word :=
  if r = 0 then 0 else if r = 31 then tget 0 a.sp (a.world, a.level) else tget 0 a.g r
def Arch.gset (a : Arch) (r : RegNo) (v : Word) : Arch :=
  if r = 0 then a
  else if r = 31 then { a with sp := tput a.sp (a.world, a.level) v }
  else { a with g := tput a.g r v }
def Arch.fget (a : Arch) (r : RegNo) : BitVec 128 := tget 0 a.f r
def Arch.fset (a : Arch) (r : RegNo) (v : BitVec 128) : Arch := { a with f := tput a.f r v }

def Core.g (c : Core) (r : RegNo) : Word := c.arch.gget r
def Core.setG (c : Core) (r : RegNo) (v : Word) : Core := { c with arch := c.arch.gset r v }
def Core.fr (c : Core) (r : RegNo) : BitVec 128 := c.arch.fget r
def Core.setF (c : Core) (r : RegNo) (v : BitVec 128) : Core := { c with arch := c.arch.fset r v }

def getG (p : Nat) (r : RegNo) : InsnM Word := do return (← getCore p).g r
def setG (p : Nat) (r : RegNo) (v : Word) : InsnM Unit := modCore p (·.setG r v)
def getF (p : Nat) (r : RegNo) : InsnM (BitVec 128) := do return (← getCore p).fr r
def setF (p : Nat) (r : RegNo) (v : BitVec 128) : InsnM Unit := modCore p (·.setF r v)

/-! Twin pairs. -/

/-- An action of R384 waits until every earlier group is agreed, and is an agreed point when it issues (R385). -/
def twinHold (p : Nat) : InsnM Unit := do
  let s ← get
  if s.leads p then
    stallIf (!(s.core p).unagreed.isEmpty)
    modCore p (fun c => { c with acted := true })

/-! Reports of failed accesses (R38, R336). -/

/-- The Firebreak source of the block that decodes an unpopulated address (R38, R492). -/
def State.decoder (s : State) (pa : Nat) : Nat :=
  match place pa with
  | .dram => 3040 + s.chanOf pa
  | .peat q _ => 3040 + peatGate q
  | .rom _ => 3040 + 34
  | _ => 3390

/-- The gatekeeper instance that guards an address. -/
def State.gateOf (s : State) (pa : Nat) : Nat :=
  match place pa with
  | .dram => s.dramGate pa
  | .peat q _ => peatGate q
  | _ => 34

/-- Records why an access of core `p` made no effect: an unpopulated address or a refusal; the answer of a home is used up. -/
def State.failed (s : State) (p : Nat) (world : Bool) (dom pa : Nat) (write : Bool) (e : WErr) : State :=
  match e with
  | .unpop => s.report (s.decoder pa) .uc
  | .refused r => s.gateFault (s.gateOf pa) false write world dom (agentOf p) r pa
  | .abort => s.modCore p (fun c => { c with refused := c.refused.erase (lineOf pa) })
  | .poison | .miss => s

/-- The exception for a failed access (R141): XABT or POISON. -/
def WErr.exc (e : WErr) (va acc : Nat) : Exc :=
  match e with
  | .unpop => { cause := 0x0B, eaddr := va, info := 0, acc := acc }
  | .refused _ | .abort | .miss => { cause := 0x0B, eaddr := va, info := 1, acc := acc }
  | .poison => { cause := 0x0C, eaddr := va, acc := acc }

def failAt {α : Type} (x : Ctx) (world : Bool) (dom pa : Nat) (write : Bool) (va acc : Nat) (e : WErr) : InsnM α := do
  modify (·.failed x.p world dom pa write e)
  throw (.exc (e.exc va acc))

/-- The open world does not reach the boot ROM (R34, R38): XABT with `INFO` 2. -/
def romCheck (world : Bool) (pa va acc : Nat) : InsnM Unit := do
  match place pa with
  | .rom _ =>
    if world then pure ()
    else
      modify (·.report (3040 + 34) .uc)
      raise 0x0B va 2 acc
  | _ => pure ()

/-! Permissions (R192). -/

def needLoad : Need := ⟨true, false, false⟩
def needStore : Need := ⟨false, true, false⟩
def needAmo : Need := ⟨true, true, false⟩

/-! Cached lines. -/

/-- A request for the line is not answered. -/
def CState.asked : CState → Bool
  | .IS_D | .IM_AD | .IM_A | .SM_AD | .SM_A | .OM_A => true
  | _ => false

/-- Requests of a core to the mesh that are not answered, and those that misses of an L1 cache have made (R221). -/
def Core.openMisses (c : Core) : Nat := (c.lines.filter (fun e => e.2.st.asked)).length
def Core.l1Misses (c : Core) (k : L1Miss) : Nat := (c.lines.filter (fun e => e.2.st.asked && e.2.miss == k)).length

/-- No further miss of the kind finds room (R221). -/
def Core.missFull (c : Core) (k : L1Miss) : Bool :=
  decide (c.openMisses ≥ 48) ||
  (match k with
   | .none => false
   | .data => decide (c.l1Misses .data ≥ 12)
   | .fetch => decide (c.l1Misses .fetch ≥ 4))

/-- Sends a request for a line. -/
def missFor (x : Ctx) (pa : Nat) (opc : Opc) (l : PLine) (tag : Nat := 0) : InsnM Unit := do
  stallIf ((← getCore x.p).missFull l.miss)
  modCore x.p (·.setLine pa l)
  modify (fun s => s.request x.p opc pa l.world l.dom l.spec (tag := tag))

/-- The last request for this line was refused by the gatekeeper: the access raises XABT (R290). One refused with the
speculative flag is made again (R127). -/
def takeRefusal (x : Ctx) (va pa acc : Nat) : InsnM Unit := do
  modCore x.p (fun c => { c with specRefused := c.specRefused.erase (lineOf pa) })
  if (← getCore x.p).refused.contains (lineOf pa) then
    modCore x.p (fun c => { c with refused := c.refused.erase (lineOf pa) })
    raise 0x0B va 1 acc
  else pure ()

/-- Removes a line that another world or domain filled (R218): a stable line is evicted; one in progress is waited for. -/
def otherTags (x : Ctx) (pa : Nat) (l : PLine) : InsnM Unit := do
  let c ← getCore x.p
  let stable := l.st == .S || l.st == .E || l.st == .M || l.st == .O
  if stable && l.way.isSome && (l.st == .S || c.cinderUsed < 32) then modify (·.evict x.p pa)

/-- The eviction states that a miss may recall (R291). -/
def CState.leaving : CState → Bool
  | .MI_A | .OI_A | .EI_A => true
  | _ => false

/-- The line of a cached access, held in L2 with read permission, or write permission when `write`: otherwise its request is
sent, or its recall from the Cinder buffer asked for, and the instruction waits (R218, R289–R292). -/
def wbLine (x : Ctx) (write : Bool) (world : Bool) (dom va pa acc : Nat) (k : L1Miss := .data) : InsnM PLine := do
  takeRefusal x va pa acc
  if k != .data || (l1Find (← getCore x.p).l1d 8 (l1dSet pa) pa world dom).isNone then modify (·.lookFlaws x.p 2 (l2Set pa))
  match (← getCore x.p).line pa with
  | none =>
    missFor x pa (if write then .getM else .getS)
      { st := if write then .IM_AD else .IS_D, world := world, dom := dom, miss := k }
    stall
  | some l =>
    if l.world != world || l.dom != dom then
      otherTags x pa l
      stall
    else if l.way.isNone then
      if l.cinder && l.st.leaving then modCore x.p (·.setLine pa { l with want := true })
      stall
    else if !write then (if l.holds then pure l else stall)
    else if l.writable then pure l
    else
      match l.st with
      | .S => missFor x pa .upg { l with st := .SM_AD, acks := 0, ackcnt := none, spec := false, miss := k }
      | .O => missFor x pa .upg { l with st := .OM_A, acks := 0, ackcnt := none, spec := false, miss := k }
      | _ => pure ()
      stall

/-- What a table read that misses asks of L2 (R194): an error that waits in the line is found, or the line is requested. -/
def walkMiss (x : Ctx) (world : Bool) (dom va pa acc : Nat) : InsnM Unit := do
  if (← getCore x.p).flawed 2 pa then modify (·.readFlaws x.p 2 pa)
  else
    let _line ← wbLine x false world dom va pa acc .none

/-! Translation of one address. -/

/-- What a translation yields: physical address and memory type. -/
structure Xl where
  pa : Nat
  mt : Nat
  deriving DecidableEq, Repr

/-- The exception of a translation that ends badly (R141, R197). -/
def TErr.exc (fetch : Bool) (va acc : Nat) (write : Bool) : TErr → Exc
  | .fault f =>
    let cause :=
      if f.stage2 then (if fetch then 0x09 else 0x0A)
      else if f.kind = 3 then (if fetch then 0x07 else 0x08)
      else (if fetch then 0x05 else 0x06)
    { cause := cause, eaddr := va,
      info := f.level + f.kind * 4 + b2n f.s1walk * 32 + b2n (write && !f.s1walk) * 64,
      acc := if f.s1walk then 5 else acc,
      ipa := if f.stage2 then some f.ipa else none }
  | .bus e _ _ _ => e.exc va 5

/-- The IPA page of a stage-2 fault found in an entry: that of the address, within the entry's page. -/
def XFault.page (f : XFault) (e : TlbEnt) (va : Nat) : XFault :=
  if f.stage2 then { f with ipa := e.ipa + va % 2 ^ e.lg / 4096 * 4096 } else f

/-- Translates a virtual address for a world and level (R184–R201): a TLB entry that hits, one of several by a free
choice, or a walk whose entry is installed. -/
def State.xlate (s : State) (x : Ctx) (world : Bool) (level : Nat) (fetch : Bool) (n : Need) (va : Nat) :
    State × Except TErr Xl :=
  if va ≥ 2 ^ 48 then (s, .error (.fault ⟨false, 0, 2, false, 0⟩))
  else
    let g := regimeOf x world level
    let hits := (s.core x.p).tlbHits fetch g va
    match hits with
    | [] =>
      match walk (s.walkRead x.p world g.dom) false g (fun l => grants1 l.r l.w l.x l.u l.pxn level n) va with
      | .error (.bus e pa n2 st) => (s.failed x.p world g.dom pa false e, .error (.bus e pa n2 st))
      | .error e => (s, .error e)
      | .ok e =>
        match permit e level n with
        | some f => (s, .error (.fault (f.page e va)))
        | none => (s.modCore x.p (·.tlbFill fetch va e), .ok ⟨e.out va, e.mt⟩)
    | e0 :: r =>
      let k := if r.isEmpty then 0 else freeTlbChoice s.draws % hits.length
      let e := hits.getD k e0
      let s := if r.isEmpty then s else s.draw
      match permit e level n with
      | some f => (s, .error (.fault (f.page e va)))
      | none => (s, .ok ⟨e.out va, e.mt⟩)

/-- Translates for an access and raises its fault; a table read that misses makes the instruction wait. -/
def translate (x : Ctx) (world : Bool) (level : Nat) (fetch : Bool) (n : Need) (va acc : Nat) : InsnM Xl := do
  let (s', r) := (← get).xlate x world level fetch n va
  set s'
  match r with
  | .ok t => pure t
  | .error (.bus .miss pa _ _) =>
    walkMiss x world (regimeOf x world level).dom va pa 5
    stall
  | .error e => throw (.exc (e.exc fetch va acc n.w))

/-! Pieces of an access. -/

/-- A part of an access within one line: its virtual and physical address, memory type, place in the datum, size. -/
structure Piece where
  va : Nat
  pa : Nat
  mt : Nat
  off : Nat
  size : Nat
  deriving DecidableEq, Repr

/-- An aligned 16-byte access outside Normal-WB is two 8-byte halves (R254). -/
def halves (p : Piece) : List Piece :=
  if p.size = 16 ∧ p.mt ≠ 0 then
    [{ p with size := 8 }, { p with va := p.va + 8, pa := p.pa + 8, off := p.off + 8, size := 8 }]
  else [p]

/-- Translates an access and checks its alignment (R65, R66, R76, R142): the pieces, lowest address first. `strict` asks for
natural alignment on every memory type. -/
def pieces (x : Ctx) (n : Need) (acc va size : Nat) (strict : Bool) : InsnM (List Piece) := do
  let n1 := min size (64 - va % 64)
  let t1 ← translate x x.world x.level false n va acc
  let ps ← do
    if n1 = size then pure [(⟨va, t1.pa, t1.mt, 0, size⟩ : Piece)]
    else
      let t2 ← if (va + n1) % 4096 = 0 then translate x x.world x.level false n (va + n1) acc
        else pure ⟨t1.pa + n1, t1.mt⟩
      pure [⟨va, t1.pa, t1.mt, 0, n1⟩, ⟨va + n1, t2.pa, t2.mt, n1, size - n1⟩]
  if va % size ≠ 0 ∧ (strict || ps.any (fun p => decide (p.mt ≥ 2))) then raise 0x03 va 0 acc
  else pure (ps.flatMap halves)

/-- The piece goes to its target past the core's caches: Device memory, Normal-NC DRAM, everything but DRAM and the core's
own Peat window. -/
def Piece.direct (p : Piece) (x : Ctx) : Bool :=
  match place p.pa with
  | .dram => p.mt != 0
  | .peat q _ => !(q == x.p && decide (p.mt < 2))
  | .none => false
  | _ => true

/-! The core's own Peat store (R225–R229). -/

/-- Why an access of a world and domain to Peat lines of core `q` fails, if it does. -/
def State.peatErr (s : State) (q : Nat) (world : Bool) (dom : Nat) (r w : Bool) (pa size : Nat) : Option WErr :=
  match (s.core q).peatWorld (pa % 0x100000) with
  | none => some .unpop
  | some pw =>
    if pw ≠ world then some (.refused 0)
    else (s.verdict (peatGate q) world dom r w pa size).map WErr.refused

def peatCheck (x : Ctx) (n : Need) (va pa size acc : Nat) : InsnM Unit := do
  match (← get).peatErr x.p x.world x.dom n.r n.w pa size with
  | none => pure ()
  | some e => failAt x x.world x.dom pa n.w va acc e

/-! L1D and L1I. -/

/-- Poison of a line as the core holds it, and its data. -/
def Core.held (c : Core) (pa : Nat) : Line × BitVec 8 :=
  let po := match c.l1dEnt pa with
    | some e => e.poison
    | none => 0
  if isPeat pa then ((c.peatLine pa).data, (c.peatLine pa).poison ||| po)
  else
    match c.line pa with
    | some l => (l.data, l.poison ||| po)
    | none => (0, po)

/-- L1D holds the line under the tags of an access (R216, R218). -/
def Core.l1dHit (c : Core) (world : Bool) (dom pa : Nat) : Bool := (l1Find c.l1d 8 (l1dSet pa) pa world dom).isSome

/-- Brings the line that L2 or the Peat store holds into L1D, if it is not there (R217, R222, R229). -/
def l1dGet (p : Nat) (world : Bool) (dom pa : Nat) : InsnM Unit := do
  modify (·.lookFlaws p 1 (l1dSet pa))
  if !(← getCore p).l1dHit world dom pa then
    modify (·.readFlaws p 2 pa)
    match (← getCore p).l1dFill pa world dom with
    | some c => modify (·.setCore p c)
    | none => stall

/-- Bytes of a line, or POISON for a poisoned one among them (R262). -/
def consume (d : Line × BitVec 8) (va pa size acc : Nat) : InsnM Line :=
  if poisoned d.2 (lineOff pa) size then raise 0x0C va 0 acc else pure (lineGet d.1 (lineOff pa) size)

/-- Reads bytes of a line that the core holds, from L1D: storage errors are found and reported (R234, R586). No older value of
the line is used after it (R248). -/
def lineRead (x : Ctx) (e : Upset) (va pa size acc : Nat) : InsnM Line := do
  l1dGet x.p x.world x.dom pa
  modCore x.p (fun c => { c with early := tdel c.early (lineOf pa) })
  modify (fun s => (s.readFlaws x.p 1 pa).upset x.p pa e)
  consume ((← getCore x.p).held pa) va pa size acc

/-- Reads bytes of the Peat line of the core's own window. A Normal-NC access goes past L1D. -/
def peatRead (x : Ctx) (e : Upset) (mt va pa size acc : Nat) : InsnM Line := do
  if mt = 0 then lineRead x e va pa size acc
  else
    modify (fun s => (s.readFlaws x.p 2 pa).upset x.p pa e)
    consume ((← getCore x.p).held pa) va pa size acc

/-! Uncached requests (R305). -/

/-- An uncached request of a core. -/
def State.ncMsg (s : State) (x : Ctx) (opc : Opc) (pa size : Nat) (data : Line) : Msg :=
  { opc := opc, pa := pa, src := agentOf x.p, dst := .target, req := agentOf x.p, world := x.world, dom := x.dom,
    level := x.level, size := size, data := data, vc3 := (s.core x.p).quietFor x.world x.dom }

def SqEnt.overlaps (e : SqEnt) (pa size : Nat) : Bool :=
  e.size != 0 && decide (e.pa < pa + size) && decide (pa < e.pa + e.size)

/-- Sends piece `n` of an uncached access and waits for its answer; gives the answer once it is there. Stores of the core to
the same bytes go first (R248). -/
def ncAccess (x : Ctx) (opc : Opc) (dev : Bool) (n va pa size acc : Nat) (data : Line) : InsnM Line := do
  let send (got : List Line) : InsnM Line := do
    stallIf ((← getCore x.p).sq.any (·.overlaps pa size))
    let tag := (← getCore x.p).ncSeq
    modify (fun s => s.send { s.ncMsg x opc pa size data with aux := tag })
    modCore x.p (fun c => { c with wait := some { got := got, pa := pa, size := size, dev := dev, tag := tag }
                                   ncSeq := tag + 1 })
    stall
  match (← getCore x.p).wait with
  | none => send []
  | some w =>
    if n < w.got.length then pure (w.got.getD n 0)
    else if !w.out then send w.got
    else if !w.done then stall
    else
      let drop := modCore x.p (fun c => { c with wait := none })
      if w.err ≠ 0 then
        drop
        raise 0x0B va (if w.err = 2 then 0 else if w.err = 1 then 1 else 3) acc
      else if w.poison then
        drop
        raise 0x0C va 0 acc
      else
        modCore x.p (fun c => { c with wait := some { w with got := w.got ++ [w.data], out := false } })
        pure w.data

/-- A Device access leaves a Twin pair only when agreed (R384). -/
def deviceHold (x : Ctx) (mt : Nat) : InsnM Unit := if mt ≥ 2 then twinHold x.p else pure ()

/-! Loads. -/

/-- The value that a load ahead of its turn has read of a line (R249), for the load of the line that comes first: its address
must come from registers that were the same then. -/
def takeEarly (x : Ctx) (base : Option RegNo) (pa : Nat) : InsnM (Option (Line × BitVec 8)) := do
  let c ← getCore x.p
  match tfind c.early (lineOf pa) with
  | none => pure none
  | some v =>
    modCore x.p (fun c => { c with early := tdel c.early (lineOf pa) })
    match base with
    | none => pure none
    | some r => pure (if tget 0 v.g r = c.g r then some (v.data, v.poison) else none)

/-- Reads a piece of a load from where it is held, without forwarding; `n` counts the uncached pieces before it. -/
def readPiece (x : Ctx) (acc : Nat) (e : Upset) (base : Option RegNo) (n : Nat) (p : Piece) : InsnM Line := do
  match place p.pa with
  | .dram =>
    if !(← get).dramOk p.pa then failAt x x.world x.dom p.pa false p.va acc .unpop
    else if p.mt = 0 then
      match ← takeEarly x base p.pa with
      | some d => consume d p.va p.pa p.size acc
      | none =>
        let _line ← wbLine x false x.world x.dom p.va p.pa acc
        lineRead x e p.va p.pa p.size acc
    else
      deviceHold x p.mt
      ncAccess x .ncRead (decide (p.mt ≥ 2)) n p.va p.pa p.size acc 0
  | .peat q _ =>
    if q = x.p ∧ p.mt < 2 then
      peatCheck x needLoad p.va p.pa p.size acc
      peatRead x e p.mt p.va p.pa p.size acc
    else
      deviceHold x p.mt
      ncAccess x .ncRead (decide (p.mt ≥ 2)) n p.va p.pa p.size acc 0
  | .none => failAt x x.world x.dom p.pa false p.va acc .unpop
  | .rp _ _ =>
    if p.mt = 0 then failAt x x.world x.dom p.pa false p.va acc .unpop
    else
      deviceHold x p.mt
      ncAccess x .ncRead (decide (p.mt ≥ 2)) n p.va p.pa p.size acc 0
  | _ =>
    romCheck x.world p.pa p.va acc
    deviceHold x p.mt
    ncAccess x .ncRead (decide (p.mt ≥ 2)) n p.va p.pa p.size acc 0

/-- Joins the pieces of a load, in order, and counts the uncached ones. -/
def readPieces (x : Ctx) (acc : Nat) (e : Upset) (base : Option RegNo) : Nat → List Piece → InsnM (Line × Nat)
  | n, [] => pure (0, n)
  | n, p :: r => do
    let v ← readPiece x acc e base n p
    let (w, n) ← readPieces x acc e base (if p.direct x then n + 1 else n) r
    pure ((v <<< (8 * p.off)) ||| w, n)

/-- The youngest store in the queue that overlaps a piece of a load (R130). -/
def Core.deciding (c : Core) (pa size : Nat) : Option SqEnt := (c.sq.filter (·.overlaps pa size)).getLast?

/-- The store has every byte of the piece. -/
def SqEnt.covers (e : SqEnt) (pa size : Nat) : Bool := decide (e.pa ≤ pa ∧ pa + size ≤ e.pa + e.size)

/-- What a load finds in the store queue (R130, R131): the value of one store, nothing, or a store to wait for. -/
inductive Fwd where
  | miss
  | value (v : Line)
  | wait
  deriving DecidableEq, Repr

/-- What the piece of a load takes from the queued store that decides it, with the number of that store. -/
def Core.forwardPiece (c : Core) (p : Piece) : Option (Nat × Line) :=
  match c.deciding p.pa p.size with
  | none => none
  | some e => if e.covers p.pa p.size then some (e.sid, lineGet e.data (p.pa - e.pa) p.size <<< (8 * p.off)) else none

/-- Forwarding (R130): every piece lies wholly within one and the same store, or the load waits for the store that overlaps
it. Device accesses never forward (R132). -/
def Core.forward (c : Core) (ps : List Piece) : Fwd :=
  if ps.any (fun p => decide (p.mt ≥ 2)) || !ps.any (fun p => (c.deciding p.pa p.size).isSome) then .miss
  else
    match ps.mapM c.forwardPiece with
    | some ((k, v) :: r) => if r.all (fun e => e.1 == k) then .value (r.foldl (fun a e => a ||| e.2) v) else .wait
    | _ => .wait

/-- The value of a load whose pieces are known: from the store queue, or from where they are held. A load that must wait for
a store in the queue waits. -/
def loadPieces (x : Ctx) (acc : Nat) (e : Upset) (base : Option RegNo) (n : Nat) (ps : List Piece) : InsnM (Line × Nat) := do
  match (← getCore x.p).forward ps with
  | .value v => pure (v, n)
  | .wait => stall
  | .miss => readPieces x acc e base n ps

/-- A load at a virtual address: value in the low bytes. -/
def load (x : Ctx) (acc va size : Nat) (strict : Bool) (e : Upset) : InsnM Line := do
  let ps ← pieces x needLoad acc va size strict
  return (← loadPieces x acc e none 0 ps).1

/-- A doubleword read as a load at the level of `x`; `n` counts the uncached reads of the instruction before it. -/
def readDword (x : Ctx) (n va : Nat) : InsnM (Word × Nat) := do
  let ps ← pieces x needLoad 2 va 8 false
  let (v, n) ← loadPieces x 2 .none none n ps
  pure (v.setWidth 64, n)

/-! Fetches. -/

/-- Reads bytes at a physical address in place, past the caches of core `p` (log entry 12). -/
def State.peek (s : State) (world : Bool) (dom pa size : Nat) : Except WErr Line :=
  match place pa with
  | .dram =>
    if !s.dramOk pa then .error .unpop
    else
      match s.verdict (s.dramGate pa) world dom true false pa size with
      | some r => .error (.refused r)
      | none =>
        let (d, po) := s.chanLine pa
        if poisoned (poison8 po) (lineOff pa) size then .error .poison
        else .ok (lineGet d (lineOff pa) size)
  | .peat q _ =>
    match s.peatErr q world dom true false pa size with
    | some e => .error e
    | none =>
      let d := (s.core q).held pa
      if poisoned d.2 (lineOff pa) size then .error .poison else .ok (lineGet d.1 (lineOff pa) size)
  | .rom off =>
    match s.verdict 34 world dom true false pa size with
    | some r => .error (.refused r)
    | none => .ok ((List.range size).foldl (fun a i => lineSet a i 1 ((romByte (off + i)).setWidth 512)) 0)
  | _ => .error .unpop

/-- L1I holds the line under the tags of a fetch. -/
def Core.l1iHit (c : Core) (x : Ctx) (va pa : Nat) : Bool := (l1Find c.l1i 4 (l1iSet va) pa x.world x.dom).isSome

/-- A fetch through L1I of a line that L2 or the core's own Peat store supplies (R216–R222): a line with an error is taken
out and fetched again (R234). -/
def fetchLine (x : Ctx) (va pa : Nat) : InsnM Unit := do
  modify (·.lookFlaws x.p 0 (l1iSet va))
  if (← getCore x.p).l1iHit x va pa then modify (·.readFlaws x.p 0 pa)
  if !(← getCore x.p).l1iHit x va pa then
    if !isPeat pa then
      let _line ← wbLine x false x.world x.dom va pa 1 .fetch
    modify (·.readFlaws x.p 2 pa)
    match (← getCore x.p).l1iFill va pa x.world x.dom with
    | some c => modify (·.setCore x.p c)
    | none => stall

/-- The fetch of the instruction: translation, then the access (R142 step 1). -/
def fetchCheck (x : Ctx) : InsnM Unit := do
  let va := x.pc.toNat
  let t ← translate x x.world x.level true ⟨false, false, true⟩ va 1
  romCheck x.world t.pa va 1
  let inPlace : InsnM Unit := do
    match (← get).peek x.world x.dom t.pa 4 with
    | .ok _ => pure ()
    | .error e => failAt x x.world x.dom t.pa false va 1 e
  match place t.pa with
  | .dram =>
    if !(← get).dramOk t.pa then failAt x x.world x.dom t.pa false va 1 .unpop
    else if t.mt = 0 then
      fetchLine x va t.pa
      let _word ← consume ((← getCore x.p).held t.pa) va t.pa 4 1
    else inPlace
  | .peat q _ =>
    if q = x.p then
      peatCheck x needLoad va t.pa 4 1
      if t.mt = 0 then fetchLine x va t.pa else modify (·.readFlaws x.p 2 t.pa)
      let _word ← consume ((← getCore x.p).held t.pa) va t.pa 4 1
    else inPlace
  | _ => inPlace

end Sys2Proof.Machine
end

