-- ==== Sys2Proof/Machine/Ops.lean ====
section
/-! DEFINITION. The operations that every core instruction shares: the instruction boundary, retirement, context
synchronisation, exception entry. -/

namespace Sys2Proof.Machine

/-! The instruction boundary. -/

/-- Posted uncached writes of a core that have not arrived. -/
def State.postedOut (s : State) (p : Nat) : Bool :=
  s.net.any (fun m => m.opc == .ncWriteP && m.src == agentOf p)

/-- The barriers of FENCE SS that nothing earlier holds any more leave the store queue (R251). -/
def tidySq (posted : Bool) : List SqEnt → List SqEnt
  | [] => []
  | e :: r => if e.size = 0 && !posted then tidySq posted r else e :: r

/-- A Device access of the oldest instruction has left the core. -/
def Core.devOut (c : Core) : Bool :=
  match c.wait with
  | some w => w.dev && (w.out || !w.got.isEmpty)
  | none => false

/-- The core stands within something that it finishes before it stops or takes an interrupt: a delay slot is pending, an
exception entry waits for its vector, or the oldest instruction is a Device access, an STX, an AMO or a block unit that has
begun (R72, R114, R155). -/
def Core.mustFinish (c : Core) : Bool := c.arch.slot.isSome || c.arch.entering.isSome || c.must || c.devOut

/-- The core executes: it runs, or it still has to reach the boundary at which it stops (R505, R517). -/
def Core.executes (c : Core) : Bool :=
  c.run == .running || ((c.run == .parking || c.run == .safehalt) && c.mustFinish)

/-- An interrupt may be taken now. -/
def Core.atBoundary (c : Core) : Bool := c.run == .running && !c.halted && !c.mustFinish

/-- A latched NMI that no other holds up (R159). -/
def Core.nmiDue (c : Core) : Bool := c.nmiLatch && !c.nmiAct

/-- The NMI or an interrupt comes before the next instruction (R142). -/
def State.due (s : State) (p : Nat) : Bool := (s.core p).atBoundary && ((s.core p).nmiDue || (s.intNow p).isSome)

/-- Whether core `p` can execute an instruction now, and what that instruction sees: one choice among the values of R133
for all that it does. -/
def ready (p : Nat) (s : State) : Option (Ctx × State) :=
  let c := s.core p
  if !c.executes || (c.halted && !c.stepping) || s.follows p || c.arch.entering.isSome then none
  else
    let eff := match c.pick with
      | some v => v
      | none => c.effective (freeSyncChoice s.draws)
    let x : Ctx := { p := p, eff := eff, level := c.arch.level, world := c.arch.world, pc := c.arch.pc }
    let s := if c.arch.crOld.isEmpty || c.pick.isSome then s else s.draw
    some (x, s.setCore p { c with sq := tidySq (s.postedOut p || c.lostPend) c.sq, acted := false
                                  pick := if c.arch.crOld.isEmpty then none else some eff })

/-- A store that its home or target turned away after it retired is reported at the next instruction (log entry 14). -/
def lateCheck (x : Ctx) : InsnM Unit := do
  match (← getCore x.p).lateAbort with
  | none => pure ()
  | some (a, info) =>
    modCore x.p (fun c => { c with lateAbort := none })
    raise 0x0B a info 3

/-- An instruction that may not stand in a delay slot is illegal there (R71). -/
def slotCheck (x : Ctx) (slotOk : Bool) : InsnM Unit := do
  illIf (!slotOk && (← getCore x.p).arch.slot.isSome)

/-- How an instruction ends. -/
inductive Flow where
  /-- It retires and execution goes on in sequence, or at the branch's outcome after a delay slot. -/
  | seq
  /-- A branch with a delay slot: where execution goes after the slot, the link register, the target-buffer entry that it
  leaves when it retires, and the return-address stack before it. -/
  | branch (target : Word) (link : Option RegNo) (buf : Option (Nat × TgtEnt)) (ras : List Word)
  /-- A branch not taken whose delay slot is annulled (R68). -/
  | annul
  /-- It retires, and execution goes on at the address given. -/
  | jump (pc : Word)
  /-- It has done a part and is offered again (R82). -/
  | part
  deriving DecidableEq, Repr

/-- One instruction retires (R138, R147): the counters that retirement touches. -/
def Core.retired (c : Core) (level : Nat) (twin : Bool) : Core :=
  { c with
    arch := { c.arch with instret := c.arch.instret + 1 }
    fresh := c.fresh.filter (fun l => l != level)
    unagreed := if twin && !c.acted then c.unagreed ++ [c.arch] else []
    wait := none, must := false, pick := none }

/-- The state after an action of R384 is an agreed point (R385). -/
def Core.agreeAct (c : Core) (twin : Bool) : Core :=
  if twin && c.acted then
    { c with ck := some c.arch, unagreed := [], acted := false, sq := c.sq.map (fun e => { e with grp := 0 }) }
  else c

/-- The state after the last instruction not yet agreed is the present one (R383). -/
def Core.lastArch (c : Core) : Core :=
  if c.unagreed.isEmpty then c else { c with unagreed := c.unagreed.dropLast ++ [c.arch] }

/-- A single step of a halted core ends with the instruction, its delay slot included. -/
def Core.stepped (c : Core) : Core := if c.arch.slot.isSome then c else { c with stepping := false }

/-- The entry of the target buffer that a jump leaves when it has retired with its slot (R120). -/
def Core.writeTgt (c : Core) (sl : Slot) : Core :=
  match sl.buf with
  | none => c
  | some (set, e) =>
    let w := tget 0 c.tgtPtr set
    { c with tgtBuf := tput c.tgtBuf (set, w) e, tgtPtr := tput c.tgtPtr set ((w + 1) % 4) }

/-- Retirement with its effect on the program counter. A branch is not retired for R147 before its delay slot is. -/
def Core.retireFlow (c : Core) (x : Ctx) (twin : Bool) (f : Flow) : Core :=
  match f with
  | .part => c
  | .seq =>
    let c := c.retired x.level twin
    match c.arch.slot with
    | some sl => { c.writeTgt sl with arch := { c.arch with pc := sl.target, slot := none } }
    | none => { c with arch := { c.arch with pc := x.pc + 4 } }
  | .annul => let c := c.retired x.level twin; { c with arch := { c.arch with pc := x.pc + 8 } }
  | .jump a => let c := c.retired x.level twin; { c with arch := { c.arch with pc := a, slot := none } }
  | .branch t link buf ras =>
    let c := { c.retired x.level twin with fresh := c.fresh }
    let sl : Slot := { brPc := x.pc, target := t, link := link.map (fun r => (r, c.g r)), buf := buf, ras := ras }
    let c := match link with
      | some r => c.setG r (x.pc + 8)
      | none => c
    { c with arch := { c.arch with pc := x.pc + 4, slot := some sl } }

/-- The core after its instruction. -/
def Core.finish (c : Core) (x : Ctx) (twin : Bool) (f : Flow) : Core :=
  match f with
  | .part => c
  | _ => ((c.retireFlow x twin f).lastArch.agreeAct twin).stepped

/-! Context synchronisation (R133, R134) with the Peat conversion (R230). -/

/-- The lines that a conversion to `n` Peat ways must evict from the ways it takes. -/
def Core.inPeatWays (c : Core) (n : Nat) : List Nat :=
  (c.lines.filter (fun e => match e.2.way with
    | some w => decide (8 - n ≤ w)
    | none => false)).map (·.1)

/-- Evicts lines while the Cinder buffer has room (R232). -/
def State.evictAll (s : State) (p : Nat) (l : List Nat) : State :=
  l.foldl (fun a ln =>
    let c := a.core p
    let needs := match c.line ln with
      | some x => x.st == .M || x.st == .O || x.st == .E
      | none => false
    if needs && c.cinderUsed ≥ 32 then a else a.evict p ln) s

/-- A conversion reads the lines of the Peat ways, and finds the errors in them (R586). -/
def State.peatFlaws (s : State) (p : Nat) : State := s.findFlaws p (fun f => !f.tag && isPeat f.at_)

/-- The Peat ways that a conversion to the sizes in force leaves as they are (R225, R230). -/
def Core.peatKeep (c : Core) : Nat :=
  let sz := fun w => c.crFld ⟨w, 0x111#12⟩ peatcfg_SIZE
  if c.peatUnits true = sz true then min (c.peatUnits true + c.peatUnits false) (sz true + sz false)
  else min (c.peatUnits true) (sz true)

/-- Converts Peat ways to the sizes in force (R230): waits for the ways it takes to empty; new Peat ways read zero. -/
def convertPeat (p : Nat) : InsnM Unit := do
  let c ← getCore p
  let sz := fun w => c.crFld ⟨w, 0x111#12⟩ peatcfg_SIZE
  if c.peatUnits true = sz true ∧ c.peatUnits false = sz false then pure ()
  else
    let n := sz true + sz false
    modCore p (fun c => { c with converting := true })
    stallIf (c.sq.any (fun e => match place e.pa with
      | .peat q _ => q == p
      | _ => false))
    modify (fun s => s.evictAll p ((s.core p).inPeatWays n))
    stallIf !((← getCore p).inPeatWays n).isEmpty
    modify (·.peatFlaws p)
    modCore p (fun c =>
      let keep := c.peatKeep
      let gone := fun (ln : Nat) => isPeat ln && decide (keep * 1024 ≤ ln % 0x100000 / 64)
      let c := { c with peat := c.peat.filter (fun e => e.1 < keep * 1024)
                        l1i := c.l1i.filter (fun e => !gone e.2.line)
                        l1d := c.l1d.filter (fun e => !gone e.2.line)
                        flaws := c.flaws.filter (fun f => f.tag || !gone f.at_)
                        l2ptr := c.l2ptr.filter (fun e => e.2 < 8 - n), converting := false }
      (c.setCrFld ⟨true, 0x111#12⟩ peatcfg_CUR (sz true)).setCrFld ⟨false, 0x111#12⟩ peatcfg_CUR (sz false))

/-- The parties in Quiet mode, world and domain. -/
def State.quietAll (s : State) : List (Nat × Nat) :=
  (s.regs.filter (fun e => e.1.name == .cfgQuiet && fld e.2 cfgQuiet_EN == 1)).map (fun e => (e.1.i, e.1.j))

/-- The predictors start empty. -/
def Core.noPredict (c : Core) : Core := { c with ras := [], tgtBuf := [] }

/-- The core after a context-synchronising event: every earlier MTC is in effect, the flush that PFLUSH asked for is done
(R121), the core sees which parties are in Quiet mode (R391), and nothing read ahead of it is used. -/
def Core.syncedWith (c : Core) (q : List (Nat × Nat)) : Core :=
  let c := { c.synced with quietSeen := q, pick := none, early := [], specRefused := [] }
  if c.pflush then { c.noPredict with pflush := false } else c

/-- A context-synchronising event completes every earlier MTC (R134), with the conversion of Peat ways. -/
def syncContext (p : Nat) : InsnM Unit := do
  convertPeat p
  modify (fun s => s.modCore p (fun c => c.syncedWith s.quietAll))

/-- The exclusive monitor is disarmed, and the deferrals end (R77, R78). -/
def disarm (p : Nat) : InsnM Unit := modify (fun s => (s.modCore p (fun c => { c with monitor := none })).endDefers p)

/-- The exclusive monitor alone is disarmed (R77): ERET, GCALL and GRET. -/
def disarmOnly (p : Nat) : InsnM Unit := modCore p (fun c => { c with monitor := none })

def Core.endShield (c : Core) : Core := { c with shOn := false, shield := 0, shDefs := [] }

/-- What a change of world does besides the world bit (R121, R357): the predictors are cleared. What loads ahead of the
change have read is discarded with them. -/
def Core.worldSwitch (c : Core) : Core := { c.noPredict with early := [], specRefused := [] }

/-! Exception entry (R140–R147). -/

/-- The level at which an exception is taken (R140). For the IRET of a GRET at L0 the table of R141 names the level of the
GRET, and R140 L1: the model takes it at L1 (log entry 62). -/
def takenAt (x : Ctx) (cause : Nat) : Nat :=
  if cause = 0x10 then 3
  else if cause = 0x09 ∨ cause = 0x0A then (if x.world then 3 else 2)
  else if x.level = 0 then 1 else x.level

/-- Everything an entry records: the level taken at, return address, cause fields. -/
structure Entry where
  level : Nat
  cause : Nat
  epc : Word
  eaddr : Nat := 0
  info : Nat := 0
  acc : Nat := 0
  ds : Bool := false
  ipa : Option Nat := none
  sync : Bool := true
  /-- The branch whose delay slot raised the exception: its link register is set back (R73), and so is the return-address
  stack, as if the branch had not been predicted (R119; log entry 63). -/
  undo : Option Slot := none
  deriving DecidableEq, Repr

/-- ESTAT as step 3 of R145 writes it over its old value. -/
def estatEntry (old : Word) (fromLevel : Nat) (fromWorld : Bool) (e : Entry) : Word :=
  let v := setFld old estat_CAUSE e.cause
  let v := setFld v estat_PLEVEL fromLevel
  let v := setFld v estat_PWORLD (b2n fromWorld)
  let v := setFld v estat_PIE (fld old estat_IE)
  let v := setFld v estat_IE 0
  let v := setFld v estat_DS (b2n e.ds)
  let v := setFld v estat_NMI (b2n (e.cause = 0x21))
  let v := setFld v estat_INFO e.info
  setFld v estat_ACC e.acc

/-- Steps 2–6 of R145 on the core that enters. What a jump in whose delay slot the exception stands has done to the return-address
stack is undone: the model's choice (log entry 63). -/
def Core.enterRegs (c : Core) (e : Entry) : Core :=
  let c := match e.undo with
    | some sl =>
      let c := { c with ras := sl.ras }
      (match sl.link with
       | some (r, v) => c.setG r v
       | none => c)
    | none => c
  let lv := c.arch.level
  let w := c.arch.world
  let w' := w || e.level == 3
  let k := fun o => lvKey w' e.level o
  let c := c.setCr (k 2) (setFld (c.crv (k 2)) epc_PC (bits e.epc.toNat 2 46))
  let c := c.setCr (k 3) (estatEntry (c.crv (k 3)) lv w e)
  let c := c.setCr (k 4) (BitVec.ofNat 64 (bits e.eaddr 0 48))
  let c := match e.ipa with
    | none => c
    | some a =>
      let key : CrKey := if e.level = 3 then ⟨true, 0x314#12⟩ else ⟨false, 0x244#12⟩
      c.setCrFld key s2fipa_IPA (a / 4096)
  let c := c.endShield
  let c := if w' = w then c else c.worldSwitch
  let undone := if e.ds then 1 else 0
  { c with arch := { c.arch with level := e.level, world := w', slot := none,
                                 instret := c.arch.instret - BitVec.ofNat 64 undone },
           unagreed := if e.ds then c.unagreed.dropLast else c.unagreed, wfi := false, wait := none, cmo := none, draining := false,
           mload := none, nmiAct := c.nmiAct || e.cause == 0x21, stepping := false, must := false, pick := none, early := [], specRefused := [] }

/-- The core-halt source of Firebreak for core `p`, and its detail (R492, R493). -/
def haltSrc (p : Nat) : Nat := if p < 1088 then 1092 + dieOfCore p else 1108

/-- Entry stops in `VECHALT` (R147). A core that is being parked goes on to be parked, without a held context (R517). -/
def State.vecHalt (s : State) (p : Nat) : State :=
  (s.modCore p (fun c =>
    if c.run = .running then { c with run := .vechalt } else { c with ctxv := false })).report (haltSrc p) .uc p

/-- The handler address in the vector for a cause (R144): none for a vector failure. The read is a load, and may wait. -/
def readVector (p : Nat) (level cause : Nat) : InsnM (Option Word) := do
  let c ← getCore p
  let x : Ctx := { p := p, eff := c.arch.cr, level := level, world := c.arch.world, pc := c.arch.pc }
  let base := fld (x.cr (lvKey x.world level 0)) vtb_BASE * 512
  let rd : InsnM (Option Word) := do
    let ps ← pieces x needLoad 2 (base + 8 * cause) 8 true
    if ps.any (fun q => decide (q.mt ≥ 2)) then pure none
    else
      let (v, _) ← loadPieces x 2 .none none 0 ps
      let w := v.setWidth 64
      pure (if bits w.toNat 0 2 = 0 ∧ bits w.toNat 48 16 = 0 then some w else none)
  fun s => match rd s with
    | .ok v s' => .ok v s'
    | .error .stall s' => .error .stall s'
    | .error (.exc _) s' => .ok none s'

/-- The last step of an entry (R145 step 7): the vector is read, and the program counter takes its value, or the core stops
(R147). In a Twin pair the state after an entry that is an action of R384 is an agreed point. -/
def takeVector (p : Nat) : InsnM Unit := do
  match (← getCore p).arch.entering with
  | none => pure ()
  | some (level, cause) =>
    let v ← readVector p level cause
    modCore p (fun c => { c with arch := { c.arch with entering := none }, wait := none })
    match v with
    | none => modify (·.vecHalt p)
    | some a => modCore p (fun c => { c with arch := { c.arch with pc := a } })
    modCore p (·.agreeAct true)

/-- Runs an operation, and lets one that waits rest. -/
def orWait (m : InsnM Unit) : InsnM Unit := fun s =>
  match m s with
  | .ok _ s' => .ok () s'
  | .error _ s' => .ok () s'

/-- Exception entry (R145): one operation for exceptions, interrupts and the NMI. Entry to L3 from the open world waits
for agreement in a Twin pair (R384). The mark of R147 that no instruction has retired at a level since the last entry there is
one for both worlds of the level (log entry 64). -/
def enter (p : Nat) (e : Entry) : InsnM Unit := do
  let c0 ← getCore p
  if e.level = 3 ∧ c0.arch.world = false ∧ !c0.acted then twinHold p
  syncContext p
  disarm p
  modCore p (·.enterRegs e)
  if e.sync && c0.fresh.contains e.level then
    modify (·.vecHalt p)
    modCore p (·.agreeAct true)
  else
    modCore p (fun c => { c with fresh := e.level :: c.fresh, arch := { c.arch with entering := some (e.level, e.cause) } })
    orWait (takeVector p)

/-- Takes a synchronous exception of the instruction at `x` (R140–R146). -/
def takeExc (x : Ctx) (e : Exc) : InsnM Unit := do
  let c ← getCore x.p
  let epc := match c.arch.slot with
    | some sl => sl.brPc
    | none => x.pc
  let ds := c.arch.slot.isSome
  enter x.p { level := takenAt x e.cause, cause := e.cause, epc := epc, eaddr := e.eaddr, info := e.info, acc := e.acc,
              ds := ds, ipa := e.ipa, undo := c.arch.slot }

/-- The outcome of running an operation that ends well or waits. -/
def settle (m : InsnM Unit) (s : State) : Host.Outcome State Fault Refusal :=
  match m s with
  | .ok _ s' => .next s'
  | .error _ s' => .next s'

/-- What a core waits for within an instruction. -/
inductive Busy where
  | idle | access | cmo | wfi | drain
  deriving DecidableEq, Repr

def Core.busy (c : Core) : Busy :=
  if c.draining then .drain
  else if c.wfi then .wfi
  else if c.cmo.isSome then .cmo
  else if c.wait.isSome || c.mload.isSome then .access
  else .idle

/-- The whole of one instruction after `ready`: checks, body, retirement. While an earlier offer of an instruction waits,
only an instruction of its kind goes on. -/
def attempt (x : Ctx) (slotOk : Bool) (kind : Busy) (body : Ctx → InsnM Flow) : InsnM Unit := do
  let b := (← getCore x.p).busy
  stallIf (b != .idle && b != kind)
  lateCheck x
  fetchCheck x
  slotCheck x slotOk
  let f ← body x
  let s ← get
  modCore x.p (·.finish x (s.leads x.p) f)

/-- An exception entry of the core waits for its vector. -/
def State.vectoring (s : State) (p : Nat) : Bool :=
  (s.core p).executes && (s.core p).arch.entering.isSome && !s.follows p

/-- Executes one instruction of core `p`: an entry in progress goes on first; the NMI and interrupts come before the
instruction (R142), but a WFI that they end; a core that cannot execute now leaves the state as it is; an instruction that
waits leaves what it has begun; an exception is taken. -/
def runInsn (p : Nat) (slotOk : Bool) (kind : Busy) (body : Ctx → InsnM Flow) (s : State) :
    Host.Outcome State Fault Refusal :=
  if !isCore p then .fault .noSuchUnit
  else if s.vectoring p then settle (takeVector p) s
  else if s.due p && kind != .wfi then .next s
  else
    match ready p s with
    | none => .next s
    | some (x, s1) =>
      match attempt x slotOk kind body s1 with
      | .ok _ s2 => .next s2
      | .error .stall s2 => .next s2
      | .error (.exc e) s2 => settle (takeExc x e) s2

end Sys2Proof.Machine
end

