-- ==== Sys2Proof/Machine/Access.lean ====
section
/-! DEFINITION. Stores of a core: the checks before any byte is written, the store queue and how it drains (R57, R65, R125,
R246–R256, R264). -/

namespace Sys2Proof.Machine

/-! Stores. -/

/-- The queue has room for `n` more stores (R109). -/
def sqRoom (x : Ctx) (n : Nat) : InsnM Unit := do stallIf ((← getCore x.p).sq.length + n > 56)

/-- No store of the core is lost that Firebreak has not recorded (R264). -/
def recorded (p : Nat) : InsnM Unit := do stallIf (← getCore p).lostPend

/-- Every store is performed: the queue is empty and no posted write is on its way (R251, R252), and what is lost is recorded
(R264). -/
def drained (p : Nat) : InsnM Unit := do
  let s ← get
  stallIf (!(s.core p).sq.isEmpty || s.postedOut p)
  recorded p

/-- No store of the core to the line is queued (R132, R256). -/
def lineDrained (x : Ctx) (pa : Nat) : InsnM Unit := do
  stallIf ((← getCore x.p).sq.any (fun e => e.overlaps (lineOf pa) 64))

/-- Nothing queued comes before a store to the line that goes past the queue: no store to it, no FENCE SS (R132, R251,
R256). -/
def lineOrdered (x : Ctx) (pa : Nat) : InsnM Unit := do
  stallIf ((← getCore x.p).sq.any (fun e => e.size == 0 || e.overlaps (lineOf pa) 64))

/-- A piece of a store goes through the store queue: Normal memory of the core itself. -/
def Piece.queued (p : Piece) (x : Ctx) : Bool :=
  decide (p.mt < 2) && (match place p.pa with
    | .dram => true
    | .peat q _ => q == x.p
    | _ => false)

/-- A posted write: Device-Posted, or a Normal type on an address that no cache of the core serves. -/
def Piece.posted (p : Piece) (x : Ctx) : Bool := !p.queued x && p.mt != 2

/-- The core as the agent of an access. -/
def Ctx.acc (x : Ctx) : Acc := ⟨.core x.p, x.world, x.dom, x.level⟩

/-- The checks of a store before any byte is written (R38, R57, R65): populated, and passed by the gatekeeper where the core
can tell. -/
def storeCheck (x : Ctx) (acc : Nat) (p : Piece) : InsnM Unit := do
  let s ← get
  match place p.pa with
  | .dram =>
    if !s.dramOk p.pa then failAt x x.world x.dom p.pa true p.va acc .unpop
    else
      let held := match (s.core x.p).line p.pa with
        | some l => p.mt == 0 && l.writable && l.world == x.world && l.dom == x.dom
        | none => false
      if held then pure ()
      else
        match s.verdict (s.dramGate p.pa) x.world x.dom false true p.pa p.size with
        | some r => failAt x x.world x.dom p.pa true p.va acc (.refused r)
        | none => pure ()
  | .peat q _ =>
    match s.peatErr q x.world x.dom false true p.pa p.size with
    | some e => failAt x x.world x.dom p.pa true p.va acc e
    | none => pure ()
  | .none => failAt x x.world x.dom p.pa true p.va acc .unpop
  | .rp _ _ => if p.mt = 0 then failAt x x.world x.dom p.pa true p.va acc .unpop else pure ()
  | .cfg off => if s.cfgHole x.acc off p.size then failAt x x.world x.dom p.pa true p.va acc .unpop else pure ()
  | _ => romCheck x.world p.pa p.va acc

/-- A new number for a store. -/
def newSid (p : Nat) : InsnM Nat := do
  let k := (← getCore p).sqSeq + 1
  modCore p (fun c => { c with sqSeq := k })
  pure k

/-- Puts a piece into the store queue. What a load had read of its line before is not used after it (R248). -/
def Core.enqueue (c : Core) (e : SqEnt) : Core := { c with sq := c.sq ++ [e], early := tdel c.early (lineOf e.pa) }

/-- Performs the uncached pieces of a store and queues the others. `ord` gives release order (R252); pieces of one store bear
its number, and go in order where `seq` (R254). -/
def storePieces (x : Ctx) (acc : Nat) (v : Line) (ord seq : Bool) (sid : Nat) : Nat → List Piece → InsnM Unit
  | _, [] => pure ()
  | n, p :: r => do
    let d := lineGet v p.off p.size
    if p.queued x then
      let st ← get
      modCore x.p (·.enqueue { va := p.va, pa := p.pa, size := p.size, data := d, world := x.world, dom := x.dom,
                               nc := p.mt == 1, ord := ord, sid := sid, seq := seq
                               grp := if st.leads x.p then (st.core x.p).unagreed.length + 1 else 0 })
      storePieces x acc v ord seq sid n r
    else if p.posted x then
      modify (fun s => s.send { s.ncMsg x .ncWriteP p.pa p.size d with ord := ord, aux2 := p.va })
      storePieces x acc v ord seq sid n r
    else
      let _ack ← ncAccess x .ncWriteO true n p.va p.pa p.size acc d
      storePieces x acc v ord seq sid (n + 1) r

/-- A store of the low bytes of `v`; `n` counts the uncached accesses of the instruction before it. A store past the queue
waits behind a FENCE SS (R251) and behind queued stores to its bytes (R248). -/
def store (x : Ctx) (acc va size : Nat) (v : Line) (strict ord : Bool) (n : Nat := 0) : InsnM Unit := do
  let ps ← pieces x needStore acc va size strict
  ps.forM (storeCheck x acc)
  let direct := ps.filter (fun p => !p.queued x)
  let c ← getCore x.p
  stallIf (c.sq.any (fun e => direct.any (fun p => e.size == 0 || e.overlaps p.pa p.size)))
  if !direct.isEmpty && ord then drained x.p
  if ord then recorded x.p
  if ps.any (fun p => decide (p.mt ≥ 2)) then twinHold x.p
  sqRoom x ps.length
  let sid ← newSid x.p
  storePieces x acc v ord (size == 16) sid n ps

/-! Draining the store queue (R125, R246). -/

/-- Removes entry `i` of the queue. -/
def Core.popSq (c : Core) (i : Nat) : Core := { c with sq := c.sq.take i ++ c.sq.drop (i + 1) }

/-- The entry may be written now: nothing earlier that it must follow is still queued (R248, R251, R252, R254, R384), and for
a release no loss is unrecorded (R264). -/
def State.mayDrain (s : State) (p i : Nat) (e : SqEnt) : Bool :=
  let before := (s.core p).sq.take i
  let all := before.isEmpty && !s.postedOut p && !(s.core p).lostPend
  if e.size = 0 then all
  else
    e.grp == 0 && before.all (fun b => b.size != 0 && !b.overlaps e.pa e.size && !(e.seq && b.sid == e.sid)) && (!e.ord || all)

/-- What the drain of a queue entry stands for: its core under the entry's world. -/
def Core.drainCtx (c : Core) (p : Nat) (e : SqEnt) : Ctx :=
  { p := p, eff := c.arch.cr, level := c.arch.level, world := e.world, pc := c.arch.pc }

/-- A queued store reaches the line that the core holds, through L1D (R125, R229). -/
def drainTo (p i : Nat) (u : Upset) (e : SqEnt) : InsnM Unit := do
  if !e.nc then l1dGet p e.world e.dom e.pa
  modify (fun s => (s.readFlaws p (if e.nc then 2 else 1) e.pa).upset p e.pa u)
  modCore p (fun c => (c.storeLine e.pa (lineOff e.pa) e.size e.data).popSq i)

/-- Writes entry `i` to L1D, to its Peat way or towards its target; asks for the line when it is not writable. -/
def drain (p i : Nat) (u : Upset) : InsnM Unit := do
  let c ← getCore p
  match c.sq[i]? with
  | none => pure ()
  | some e =>
    stallIf !((← get).mayDrain p i e)
    if e.size = 0 then modCore p (·.popSq i)
    else if isPeat e.pa then drainTo p i u e
    else
      let x := c.drainCtx p e
      if e.nc then
        modify (fun s => s.send { s.ncMsg x .ncWriteP e.pa e.size e.data with dom := e.dom, ord := e.ord, aux2 := e.va
                                                                              vc3 := c.quietFor e.world e.dom })
        modCore p (·.popSq i)
      else if c.refused.contains (lineOf e.pa) then
        modCore p (fun c => { (c.popSq i) with refused := c.refused.erase (lineOf e.pa), lateAbort := some (e.va, 1) })
      else
        let _line ← wbLine x true e.world e.dom e.va e.pa 3
        drainTo p i u e

end Sys2Proof.Machine
end

