-- ==== Sys2Proof/Machine/Idist.lean ====
section
/-! DEFINITION. The Interrupt Distributor's registers and interfaces (R168–R183). -/

namespace Sys2Proof.Machine

/-! Source and target registers. -/

/-- A combination of `WORLD` and `TLEVEL` that R170 allows. -/
def levelOk (world level : Nat) : Bool :=
  level == 1 || (level == 2 && world == 0) || (level == 3 && world == 1)

/-- A write of `IDIST_SRC_CFG` (R170, R172, R181). -/
def State.wSrcCfg (s : State) (w : WriteReq) (r : Reg) (ok : Fld → Bool) : State × Bool :=
  let old := s.rd r
  let t0 := fld old idistSrcCfg_TGT
  let try1 := mergeReg (fields r.name) ok old w.val w.mask
  let s := if levelOk (fld try1 idistSrcCfg_WORLD) (fld try1 idistSrcCfg_TLEVEL) then s.wr r try1
    else s.plainBut w r ok [idistSrcCfg_WORLD, idistSrcCfg_TLEVEL]
  ((s.srcChanged r.i).notify t0, false)

/-- A register access clears the pending state of a source; an edge of the same CLK_PERI cycle came before it (R182). -/
def State.intCleared (s : State) (n : Nat) : State := { s with intClr := n :: s.intClr }

/-- A write of `IDIST_SRC_STATE` (R171, R178). -/
def State.wSrcState (s : State) (w : WriteReq) (r : Reg) (ok : Fld → Bool) : State × Bool :=
  let v := s.off w r
  let set := ok idistSrcState_SETPEND && fld v idistSrcState_SETPEND == 1
  let clr := ok idistSrcState_CLRPEND && fld v idistSrcState_CLRPEND == 1
  let x := s.src r.i
  if set == clr || !s.canPend r.i then (s, false)
  else if set then
    ((s.setSrc r.i (if s.edgeSrc r.i then { x with edgePend := true } else { x with swLatch := true })).srcChanged r.i, false)
  else (((s.setSrc r.i { x with edgePend := false, swLatch := false }).intCleared r.i).srcChanged r.i, false)

/-- Every source that names target t is evaluated again. -/
def State.targetChanged (s : State) (t : Nat) : State :=
  (((s.intSrc.map (·.1)).filter (fun n => s.fget (rSrcCfg n) idistSrcCfg_TGT == t)).foldl State.evalHold s).notify t

/-- A write of `IDIST_TGT_CFG` (R173, R174). -/
def State.wTgtCfg (s : State) (w : WriteReq) (r : Reg) (ok : Fld → Bool) : State × Bool :=
  ((s.plain w r ok).targetChanged r.i, false)

/-- `IDIST_SRC_STATE` as read. DESIGN CHOICE (log entry 69): `ACTTGT` of an interrupt that is not active reads 0. -/
def State.srcStateRead (s : State) (n : Nat) : Word :=
  let x := s.src n
  let v : Word := 0
  let v := setFld v idistSrcState_PEND (b2n (s.srcPend n))
  let v := setFld v idistSrcState_ACTIVE (b2n x.active)
  let v := setFld v idistSrcState_LINE (b2n (x.line && !s.edgeSrc n))
  setFld v idistSrcState_ACTTGT (if x.active then x.actTgt else 0)

/-! Interfaces. -/

/-- `IDIST_ACK` or `IDIST_HPPI` for what is eligible (R176). -/
def ackWord (x : Option (Nat × Nat)) : Word :=
  match x with
  | some (n, p) => BitVec.ofNat 64 (n + p * 2 ^ 16)
  | none => 0x8000

/-- A read of `IDIST_ACK` (R177): the highest eligible interrupt becomes active at the interface. -/
def State.ack (s : State) (t : Nat) (p : PageKind) : State × Word :=
  match s.highest t p with
  | none => (s, ackWord none)
  | some (n, prio) =>
    let f := s.iface t p
    let f := { f with stack := (n, prio) :: f.stack
                      sgi := tdel f.sgi n
                      rngPend := f.rngPend && n != 16
                      tmrLatch := f.tmrLatch && n != 17 }
    let s := s.setIface t p f
    let s := if n < 32 then s
      else (s.setSrc n { s.src n with edgePend := false, swLatch := false, active := true, actTgt := t }).intCleared n
    let s := if n < 32 then s else s.evalHold n
    (s.notify t, ackWord (some (n, prio)))

/-- `IDIST_STAT` of an interface, as the key of its W1C bits (R7). -/
def rIfStat (t : Nat) (p : PageKind) : Reg := ⟨.idistStat, t, pageNum p⟩

/-- `EOIERR` or `SGIDROP` of an interface is set. -/
def State.eoiErr (s : State) (t : Nat) (p : PageKind) : State :=
  (s.setIface t p { s.iface t p with eoierr := true }).setIn (rIfStat t p) 1
def State.sgiDrop (s : State) (t : Nat) (p : PageKind) : State :=
  (s.setIface t p { s.iface t p with sgidrop := true }).setIn (rIfStat t p) 2

/-- A write of `IDIST_EOI` (R177). -/
def State.eoi (s : State) (t : Nat) (p : PageKind) (n : Nat) : State :=
  let f := s.iface t p
  match f.stack with
  | [] => s.eoiErr t p
  | (n0, _) :: r =>
    if n0 ≠ n then s.eoiErr t p
    else
      let s := s.setIface t p { f with stack := r }
      if n < 32 then s.notify t
      else ((s.setSrc n { s.src n with active := false }).srcChanged n).notify t

def State.tgtDomain (s : State) (t : Nat) : Nat := s.fget (rTgtCfg t) idistTgtCfg_DOMAIN

/-- One SGI reaches an interface (R179). -/
def State.sgiTo (s : State) (p : PageKind) (num prio t : Nat) : State :=
  let f := s.iface t p
  (s.setIface t p { f with sgi := tput f.sgi num prio }).notify t

/-- A write of `IDIST_SGI` by the core that serves target t (R179). -/
def State.sgi (s : State) (t : Nat) (p : PageKind) (v : Word) : State :=
  let num := fld v idistSgi_SGINUM
  let prio := fld v idistSgi_PRIO
  let tt := fld v idistSgi_TTGT
  let all := fld v idistSgi_ALL == 1
  let lower := fld v idistSgi_LOWER == 1
  let l3 := pageLevel p == 3
  let q := if lower then pageOf (pageWorld p) 1 else p
  let drop := (lower && pageLevel p == 1) || (!all && decide (1028 ≤ tt)) || (!all && !l3 && s.tgtDomain tt != s.tgtDomain t)
  if drop then s.sgiDrop t p
  else if all then
    ((List.range 1028).filter (fun n => n != t && s.tgtDomain n == s.tgtDomain t)).foldl (fun a n => a.sgiTo q num prio n) s
  else s.sgiTo q num prio tt

/-- The registers of an interface page, by offset: the value that a read gives (R176). -/
def State.pageVal (s : State) (t : Nat) (p : PageKind) (off : Nat) : Word :=
  let f := s.iface t p
  match off with
  | 0x000 => BitVec.ofNat 64 f.pmr
  | 0x018 => BitVec.ofNat 64 f.rprio
  | 0x020 => ackWord (s.highest t p)
  | 0x030 => BitVec.ofNat 64 f.priv
  | 0x038 => f.tmrcmp
  | 0x040 => BitVec.ofNat 64 (b2n f.eoierr + 2 * b2n f.sgidrop)
  | _ => 0

/-- A read of an interface page. -/
def State.pageRead (s : State) (t : Nat) (p : PageKind) (off : Nat) : State × Word :=
  if off = 0x008 then s.ack t p else (s, s.pageVal t p off)

/-- A write of an interface page (R176, R177, R179–R181). A new `CMP` takes effect in the next cycle (R180). -/
def State.pageWrite (s : State) (t : Nat) (p : PageKind) (off : Nat) (v m : Word) : State :=
  let f := s.iface t p
  let mrg := fun (n : RegName) (old : Word) => mergeReg (fields n) allFields old v m
  match off with
  | 0x000 => (s.setIface t p { f with pmr := (mrg .idistPmr (BitVec.ofNat 64 f.pmr)).toNat }).notify t
  | 0x010 => if m.getLsbD 0 then s.eoi t p (fld v idistEoi_INTID) else s
  | 0x028 => if m.getLsbD 0 then s.sgi t p v else s
  | 0x030 => (s.setIface t p { f with priv := (mrg .idistPriv (BitVec.ofNat 64 f.priv)).toNat }).notify t
  | 0x038 => s.setIface t p { f with tmrcmp := mrg .idistTmrcmp f.tmrcmp }
  | 0x040 =>
    let old := s.pageVal t p 0x040
    let x := mrg .idistStat old ||| (old &&& tget 0 s.setNow (rIfStat t p))
    s.setIface t p { f with eoierr := fld x idistStat_EOIERR == 1, sgidrop := fld x idistStat_SGIDROP == 1 }
  | _ => s

/-! Events. -/

/-- INTERRUPT_SOURCE_EVENT (R178, R182): IDIST samples the line that the source's block drives, or sees an edge. The lines of
sources that no block of the module drives follow the command. -/
def execInterruptSourceEvent (intid : Nat) (level : Bool) (s : State) : Host.Outcome State Fault Refusal :=
  if intid ≥ 8192 then .fault .noSuchUnit
  else if drivenLines.contains intid then .next (s.sampleLine intid)
  else if s.edgeSrc intid then .next (if level then s.edge intid else s)
  else .next s

/-- INT_DELIVER (R182): the oldest report of a target reaches its core. -/
def execIntDeliver (tgt : Nat) (s : State) : Host.Outcome State Fault Refusal :=
  if tgt ≥ 1028 then .fault .noSuchUnit
  else
    match s.recv (fun m => m.opc == .intDeliver && m.aux2 == tgt) with
    | none => .next s
    | some (m, s') =>
      match s'.coreOfTarget tgt with
      | none => .next s'
      | some p =>
        .next (if decide (m.dst = .agent (agentOf p)) then s'.modCore p (fun c => { c with intView := m.aux }) else s')

/-- CT_TIMER_FIRE (R180): the timer's line at an interface, as the present CLK_PERI cycle has evaluated it. -/
def execCtTimerFire (t : Nat) (page : PageKind) (s : State) : Host.Outcome State Fault Refusal :=
  if t ≥ 1028 then .fault .noSuchUnit
  else if (s.iface t page).tmrLine then .next (s.notify t) else .next s

end Sys2Proof.Machine
end

