-- ==== Sys2Proof/Machine/SpFn.lean ====
section
/-! DEFINITION. The Supervisor Port's function: its configuration space, BAR0 and the Expansion ROM (R457–R460, R465–R469,
R486). Where R457 and R471 name a PCI Express structure and give no offsets, the capability chain is log entry 40. -/

namespace Sys2Proof.Machine

/-! Configuration images. -/

/-- One doubleword of a configuration image: its reset value, its read-write bits, its write-one-to-clear bits. -/
structure ImgDw where
  val : BitVec 32 := 0
  rw : BitVec 32 := 0
  w1c : BitVec 32 := 0
  deriving DecidableEq, Repr

/-- The doublewords that the Supervisor Port and the root ports have in common: PCI Express and AER structures. -/
def imgCommon (dw : Nat) : ImgDw :=
  match dw with
  | 0x01 => ⟨0x00100000, 0x00000546, 0xF9000000⟩
  | 0x03 => ⟨0, 0x000000FF, 0⟩
  | 0x0D => ⟨0x40, 0, 0⟩
  | 0x14 => ⟨0, 0x00000FD8, 0xC0000000⟩
  | 0x1B => ⟨0x0000003E, 0, 0⟩
  | 0x1C => ⟨0x00000005, 0x0000000F, 0⟩
  | 0x41 => ⟨0, 0, 0x03FFF030⟩
  | 0x42 => ⟨0, 0x03FFF030, 0⟩
  | 0x43 => ⟨0x00462030, 0x03FFF030, 0⟩
  | 0x44 => ⟨0, 0, 0x0000F1C1⟩
  | 0x45 => ⟨0x00002000, 0x0000F1C1, 0⟩
  | 0x46 => ⟨0x000000A0, 0x00000140, 0⟩
  | 0x56 => ⟨0x17810026, 0, 0⟩
  | 0x5E => ⟨0x1A81002A, 0, 0⟩
  | 0x6A => ⟨0x00010027, 0, 0⟩
  | _ => {}

/-- The Supervisor Port's function (R457, R459). -/
def spDw (dw : Nat) : ImgDw :=
  match dw with
  | 0x00 => ⟨0x10241F3C, 0, 0⟩
  | 0x02 => ⟨0x08800021, 0, 0⟩
  | 0x04 => ⟨0x00000004, 0xFFFF0000, 0⟩
  | 0x05 => ⟨0, 0xFFFFFFFF, 0⟩
  | 0x06 => ⟨0x0000000C, 0, 0⟩
  | 0x07 => ⟨0, 0xFFFFFFFF, 0⟩
  | 0x0C => ⟨0, 0xFFF00001, 0⟩
  | 0x0F => ⟨0x00000100, 0x000000FF, 0⟩
  | 0x10 => ⟨0x00028010, 0, 0⟩
  | 0x11 => ⟨0x10008002, 0, 0⟩
  | 0x12 => ⟨0x00002810, 0x00007FFF, 0x000F0000⟩
  | 0x13 => ⟨0x00000085, 0, 0⟩
  | 0x20 => ⟨0x00039001, 0, 0⟩
  | 0x21 => ⟨0, 0x00000003, 0⟩
  | 0x24 => ⟨0x008A0005, 0x00710000, 0⟩
  | 0x25 => ⟨0, 0xFFFFFFFC, 0⟩
  | 0x26 => ⟨0, 0xFFFFFFFF, 0⟩
  | 0x27 => ⟨0, 0x0000FFFF, 0⟩
  | 0x40 => ⟨0x15820001, 0, 0⟩
  | n => imgCommon n

/-- A doubleword after a write of the bits under a mask. -/
def ImgDw.merge (d : ImgDw) (old v m : BitVec 32) : BitVec 32 :=
  ((old &&& ~~~(d.rw &&& m)) ||| (v &&& d.rw &&& m)) &&& ~~~(v &&& d.w1c &&& m)

/-- A doubleword after a write, when the hardware has set the bits `now` of it in the present cycle (R7). -/
def ImgDw.mergeNow (d : ImgDw) (now old v m : BitVec 32) : BitVec 32 := d.merge old v m ||| (old &&& now)

/-- The hardware has set these bits of a doubleword in the present CLK_PERI cycle: of port `k`, or of the Supervisor Port's
header (`k` = 16). -/
def State.imgIn (s : State) (k dw : Nat) (bits : BitVec 32) : State :=
  { s with imgNow := tput s.imgNow (k, dw) (tget 0 s.imgNow (k, dw) ||| bits) }

def State.spDword (s : State) (dw : Nat) : BitVec 32 := tget (spDw dw).val s.spHdr dw
def State.setSpDword (s : State) (dw : Nat) (v : BitVec 32) : State := { s with spHdr := tput s.spHdr dw v }

/-- A bit of the Supervisor Port's AER Uncorrectable Error Status (log entry 40). -/
def State.spAer (s : State) (bit : Nat) : State :=
  (s.setSpDword 0x41 (s.spDword 0x41 ||| (1 <<< bit))).imgIn 16 0x41 (1 <<< bit)

/-! Host interrupts (R467). -/

def rSp (n : RegName) : Reg := ⟨n, 0, 0⟩

/-- The signalled bits of `SP_HINT`. -/
def State.spSignalled (s : State) : Word := s.rd (rSp .spHint) &&& ~~~s.rd (rSp .spHintmask)

def State.spBme (s : State) : Bool := (s.spDword 1).getLsbD 2
def State.spMsiEn (s : State) : Bool := (s.spDword 0x24).getLsbD 16
/-- Vectors allocated. -/
def State.spVectors (s : State) : Nat := 2 ^ min 5 (bits (s.spDword 0x24).toNat 20 3)

/-- What a change of the interrupt state makes the Supervisor Port send: `old` is the state before it. -/
def State.spNotify (s old : State) : State :=
  let sig := s.spSignalled
  let want : Bool := sig != 0 && !(s.spDword 1).getLsbD 10 && !s.spMsiEn
  let s : State := if want == s.spInta then s else { s with spInta := want, out := s.out ++ [OutMsg.hostIntx want] }
  let s := s.setSpDword 1 (if want then s.spDword 1 ||| 0x80000 else s.spDword 1 &&& ~~~0x80000#32)
  if s.spMsiEn && s.spBme then
    let fresh := if old.spBme then sig &&& ~~~(old.spSignalled) else sig
    { s with out := s.out ++ ((List.range 32).filter (fun i => fresh.getLsbD i)).map (fun i => OutMsg.hostMsi (i % s.spVectors)) }
  else s

def rWinCfg (w : Nat) : Reg := ⟨.spWinCfg, w, 0⟩
def rWinTgt (w : Nat) : Reg := ⟨.spWinTgt, w, 0⟩

/-- The active copies of a window. -/
def State.winCfg (s : State) (w : Nat) : Word := tget (resetReg (rWinCfg w)) s.spAct (w, 0)
def State.winTgt (s : State) (w : Nat) : Word := tget (resetReg (rWinTgt w)) s.spAct (w, 1)

def winEn (c : Word) : Bool := fld c spWinCfg_EN == 1
def winBase (c : Word) : Nat := fld c spWinCfg_BASE * 4096
def winSize (c : Word) : Nat := 2 ^ fld c spWinCfg_LOG2SZ

/-! Resets of the host side (R465, R569). -/

/-- The host-side state of the function. -/
def State.spClear (s : State) : State :=
  let clr := fun (a : State) (n : RegName) => a.wr (rSp n) (resetReg (rSp n))
  let s := [RegName.spHint, .spHintmask, .spHcfgaddr, .spHashsel].foldl clr s
  { s with spHdr := [], spInta := false, spVoid := s.spWait.length
           io := s.io.map (fun (r : IoReq) => if r.agent = 0x820 then { r with drop := true } else r) }

/-- A loss of the link, a hot reset or an FLR. -/
def State.spReset (s : State) (lost : Bool) : State :=
  let s := s.spClear
  let s := if lost then s.fset (rSp .spStat) spStat_LINK 0 else s
  (s.fset (rSp .spStat) spStat_EVT 1).report 3372 .ce

/-! Configuration requests (R457, R458). -/

/-- Nothing is to be completed: a memory write, a message. -/
def spPosted (r : SpTlp) : Bool :=
  match r.kind with
  | .cfg => false
  | .vendor1 => true
  | _ => r.write

/-- A PASID prefix, or an AT field that is not zero (R214). -/
def spForeign (r : SpTlp) : Bool := r.pasid || r.atField != 0

/-- A completion to the host. -/
def State.spCpl (s : State) (status size : Nat) (data : Line := 0) : State :=
  { s with out := s.out ++ [OutMsg.hostCpl status false size data] }

/-- An Unsupported Request (R460): a completion for a read, and the AER record. -/
def State.spUr (s : State) (r : SpTlp) : State :=
  let s := s.spAer 20
  if spPosted r then s else s.spCpl 1 (if r.write then 0 else r.size)

/-- A configuration write of one doubleword, and what it starts: an FLR, interrupt messages. -/
def State.spHdrWrite (s : State) (dw : Nat) (v m : BitVec 32) : State :=
  let new := (spDw dw).mergeNow (tget 0 s.imgNow (16, dw)) (s.spDword dw) v m
  let t := (s.setSpDword dw new).spNotify s
  if dw = 0x12 && (v &&& m).getLsbD 15 then t.spReset false else t

/-- A configuration request for bytes of one doubleword. -/
def State.spCfg (s : State) (r : SpTlp) : State :=
  let dw := r.off / 4
  let sh := 8 * (r.off % 4)
  if s.fget (rSp .spCtl) spCtl_READY = 0 then s.spCpl 2 r.size
  else if 0x400 ≤ dw then s.spCpl 0 r.size
  else if r.write then
    (s.spHdrWrite dw (r.data.setWidth 32 <<< sh) ((onesOf r.size).setWidth 32 <<< sh)).spCpl 0 0
  else s.spCpl 0 r.size (((s.spDword dw).setWidth 512 >>> sh) &&& onesOf r.size)

/-! BAR0 (R486). -/

/-- A plain register of BAR0. -/
def bar0Reg (off : Nat) : Option RegName :=
  match off with
  | 0x00 => some .spHid
  | 0x10 => some .spHint
  | 0x18 => some .spHintmask
  | 0x20 => some .spHcfgaddr
  | 0x30 => some .spHcfgstat
  | 0x38 => some .spHashsel
  | _ => none

/-- A read of an 8-byte location of BAR0. -/
def State.bar0Read (s : State) (off : Nat) : Word :=
  if 0x100 ≤ off ∧ off < 0x180 then s.winCfg ((off - 0x100) / 8)
  else
    match bar0Reg off with
    | some n => s.rd (rSp n)
    | none => 0

/-- A write of bits of an 8-byte location of BAR0. -/
def State.bar0Write (s : State) (off : Nat) (v m : Word) : State :=
  if off = 0x08 then
    if m.getLsbD 0 then (s.fset (rSp .spHdbval) spHdbval_VALUE (fld v spHdb_VALUE)).edge 160 else s
  else
    match bar0Reg off with
    | some n => (s.wr (rSp n) (s.merged (rSp n) allFields v m)).spNotify s
    | none => s

/-- The part of BAR0 that an access covers is a whole 4-byte or 8-byte unit of it (R460); `SP_HCFGDATA` takes 8 bytes (R466). -/
def spBar0Ok (r : SpTlp) : Bool :=
  (r.size == 4 || r.size == 8) && r.off % r.size == 0 && (r.off / 8 != 5 || r.size == 8)

/-- A memory request to BAR0 other than an access to `SP_HCFGDATA` (R460). -/
def State.spBar0 (s : State) (r : SpTlp) : State :=
  let loc := r.off / 8 * 8
  if r.poisoned && r.write then s.spAer 12
  else if !spBar0Ok r then (if r.write then s.cfgDrop else s.cfgDrop.spCpl 0 r.size)
  else if r.write then s.bar0Write loc (cfgPlace r.off r.size (r.data.setWidth 64)) (cfgMask r.off r.size)
  else s.spCpl 0 r.size ((cfgPart r.off r.size (s.bar0Read loc)).setWidth 512)

/-! The Expansion ROM (R469). -/

/-- `n` bytes from byte `off` of a store of 64-bit locations. -/
def bytesFrom (f : Nat → Word) (off n : Nat) : Line :=
  (List.range n).foldl (fun a i => lineSet a i 1 ((f ((off + i) / 8) >>> (8 * ((off + i) % 8))).setWidth 512)) 0

/-- Location `i` of the Ash SRAM as 8-byte units. -/
def State.ashUnit (s : State) (i : Nat) : Word := (tget 0 s.ash (i / 4 % 65536) >>> (64 * (i % 4))).setWidth 64

/-- A memory request to the Expansion ROM. -/
def State.spRomReq (s : State) (r : SpTlp) : State :=
  if r.write then s.spUr r
  else if r.off < 0x80000 then s.spCpl 0 r.size (bytesFrom (fun i => tget 0 s.spRom i) r.off r.size)
  else
    let x := s.fget (rSp .spHashsel) spHashsel_QUARTER * 0x80000 + (r.off - 0x80000)
    let pa := cfgBase + blkNum .ash * 0x8000000 + 0x1000000 + x
    match s.verdict 33 false 0 true false pa r.size with
    | some why => (s.gateFault 33 false false false 0 0x820 why pa).spCpl 4 r.size (onesOf r.size)
    | none => s.spCpl 0 r.size (bytesFrom s.ashUnit x r.size)

/-! Requests that the function itself answers (R460). -/

/-- The function claims a memory request (R459): D0, Memory Space Enable, the ROM's Enable bit. -/
def State.spClaims (s : State) (r : SpTlp) : Bool :=
  (s.spDword 0x21 &&& 3) == 0 && (s.spDword 1).getLsbD 1 &&
  (match r.kind with
   | .bar0 => decide (r.off + r.size ≤ 0x10000)
   | .bar2 => decide (r.off + r.size ≤ 0x100000000)
   | .rom => (s.spDword 0x0C).getLsbD 0 && decide (r.off + r.size ≤ 0x100000)
   | _ => false)

/-- A request for `SP_HCFGDATA` that becomes an access to the configuration space (R466). -/
def State.spDataAccess (s : State) (r : SpTlp) : Bool :=
  r.kind == .bar0 && !spForeign r && s.spClaims r && spBar0Ok r && r.off / 8 == 5 && !(r.poisoned && r.write)

/-- What the function makes of a request when its turn has come. -/
def State.spLocal (s : State) (r : SpTlp) : State :=
  if spForeign r then s.spUr r
  else
    match r.kind with
    | .cfg => s.spCfg r
    | .bar0 => if s.spClaims r then s.spBar0 r else s.spUr r
    | .rom => if s.spClaims r then s.spRomReq r else s.spUr r
    | .vendor1 => s
    | .bar2 | .other => s.spUr r

def OutMsg.isHostCpl : OutMsg → Bool
  | .hostCpl _ _ _ _ => true
  | _ => false

/-- The completions that `t` has sent beyond `s` are discarded (R465). -/
def State.muted (t s : State) : State :=
  { t with out := s.out ++ (t.out.drop s.out.length).filter (fun m => !m.isHostCpl) }

end Sys2Proof.Machine
end

