-- ==== Sys2Proof/Machine/Iotu.lean ====
section
/-! DEFINITION. The I/O Translation Unit (R206–R215) and the requests of I/O agents on their way through the module
(R257–R260, R461, R476). -/

namespace Sys2Proof.Machine

/-! Translation. -/

/-- The I/O die of an agent: 0 west, 1 east (R21). -/
def agentDie (a : Nat) : Nat := if a = 0x820 ∨ (0x830 ≤ a ∧ a < 0x838) ∨ a = 0x840 then 0 else 1

/-- What the IOTU makes of a request (R207–R209): its context, target and entry, or the fault that it records. -/
inductive IoXl where
  | ok (ctx pa : Nat) (world : Bool) (dom : Nat) (ent : TlbEnt)
  | bad (ctx : Option Nat) (kind level : Nat) (stage2 : Bool)
  deriving DecidableEq, Repr

def rCtx (n : RegName) (c : Nat) : Reg := ⟨n, c, 0⟩

/-- A table read of the IOTU for a context (R208). -/
def State.ioWalkRead (s : State) (world : Bool) (dom pa : Nat) : Except WErr Word :=
  match place pa with
  | .dram =>
    if !s.dramOk pa then .error .unpop
    else
      match s.verdict (s.dramGate pa) world dom true false pa 8 with
      | some r => .error (.refused r)
      | none =>
        let (d, po) := s.coherent pa
        if poisoned (poison8 po) (lineOff pa) 8 then .error .poison
        else .ok ((lineGet d (lineOff pa) 8).setWidth 64)
  | _ => .error .unpop

/-- The set of the IOTLB for an address in a page of size 2^lg (R210). -/
def iotlbSet (lg va : Nat) : Nat := bits va lg 9

/-- The entry of an I/O die's IOTLB that covers an address. -/
def State.iotlbFind (s : State) (die c va : Nat) : Option TlbEnt :=
  [12, 21, 30].findSome? (fun lg =>
    (List.range 8).findSome? (fun w =>
      match tfind s.iotlb (die, iotlbSet lg va, w) with
      | some e => if e.ctx = c ∧ e.ent.lg = lg ∧ e.ent.va = va / 2 ^ lg * 2 ^ lg then some e.ent else none
      | none => none))

/-- Installs an entry, round robin within its set. -/
def State.iotlbFill (s : State) (die c : Nat) (e : TlbEnt) : State :=
  let set := iotlbSet e.lg e.va
  let w := tget 0 s.iotlbPtr (die, set)
  { s with iotlb := tput s.iotlb (die, set, w) ⟨c, e⟩, iotlbPtr := tput s.iotlbPtr (die, set) ((w + 1) % 8) }

/-- The regime of a context (R208). -/
def State.ctxRegime (s : State) (c : Nat) : Regime :=
  let g := s.rd (rCtx .iotuCtxCfg c)
  { guest := true, world := fld g iotuCtxCfg_WORLD == 1, dom := fld g iotuCtxCfg_DOMAIN
    s1 := if fld g iotuCtxCfg_S1EN = 1 then some (s.fget (rCtx .iotuCtxS1tb c) s1tb_BASE * 4096) else none
    s2 := if fld g iotuCtxCfg_S2EN = 1 then some (s.fget (rCtx .iotuCtxS2tb c) s2tb_BASE * 4096) else none
    vmid := 0, asid := 0 }

/-- The permission that a request needs at each stage of an entry: the stage and level that lack it. -/
def ioPermit (e : TlbEnt) (write : Bool) : Option (Nat × Bool) :=
  if e.s1en && !(if write then e.w1 else e.r1) then some (e.lv1, false)
  else if !(if write then e.w2 else e.r2) then some (e.lv2, true)
  else none

/-- The output must lie in DRAM or in root-port MMIO (R208). DRAM is what R325 gives it: nothing before `MC_ILV.LOCK`, and
no more than the capacity. -/
def State.ioTarget (s : State) (pa : Nat) : Bool :=
  match place pa with
  | .dram => s.dramOk pa
  | .rp _ _ => true
  | _ => false

/-- What an entry makes of a request. -/
def State.ioUse (s : State) (c : Nat) (e : TlbEnt) (write : Bool) (iova : Nat) : IoXl :=
  let g := s.ctxRegime c
  match ioPermit e write with
  | some (lv, st) => .bad (some c) 3 lv st
  | none => if s.ioTarget (e.out iova) then .ok c (e.out iova) g.world g.dom e else .bad (some c) 4 e.lv2 false

/-- Translates a request of a stream (R207, R208, R210). A walk that ends in a fault installs no entry (R196). -/
def State.ioTranslate (s : State) (agent stream iova : Nat) (write : Bool) : State × IoXl :=
  match s.steCtx stream with
  | none => (s, .bad none 6 0 false)
  | some c =>
    if s.fget (rCtx .iotuCtxCfg c) iotuCtxCfg_V = 0 then (s, .bad (some c) 6 0 false)
    else if iova ≥ 2 ^ 48 then (s, .bad (some c) 2 0 false)
    else
      let die := agentDie agent
      let g := s.ctxRegime c
      match s.iotlbFind die c iova with
      | some e => (s, s.ioUse c e write iova)
      | none =>
        match walk (s.ioWalkRead g.world g.dom) true g (fun l => if write then l.w else l.r) iova with
        | .error (.fault f) => (s, .bad (some c) f.kind f.level f.stage2)
        | .error (.bus e pa lv st) =>
          let s := match e with
            | .refused r => s.gateFault (s.dramGate pa) false false g.world g.dom agent r pa
            | .unpop => s.report (3040 + s.chanOf pa) .uc
            | _ => s
          (s, .bad (some c) 5 lv st)
        | .ok e =>
          match s.ioUse c e write iova with
          | .bad c kind lv st => (s, .bad c kind lv st)
          | x => (s.iotlbFill die c e, x)

/-- Records a fault against its context, and reports it (R209, R212). -/
def State.ioFault (s : State) (agent : Nat) (ctx : Option Nat) (kind level : Nat) (stage2 write : Bool) (iova : Nat) : State :=
  let s := match ctx with
    | none => s
    | some c =>
      let rF := rCtx .iotuCtxFault c
      if s.fget rF iotuCtxFault_FV = 1 then (s.fset rF iotuCtxFault_FMULT 1).finc rF iotuCtxFault_CNT
      else
        let v : Word := 0
        let v := setFld v iotuCtxFault_FV 1
        let v := setFld v iotuCtxFault_KIND kind
        let v := setFld v iotuCtxFault_WRITE (b2n write)
        let v := setFld v iotuCtxFault_LEVEL level
        let v := setFld v iotuCtxFault_STAGE (b2n stage2)
        (s.wr rF (setFld v iotuCtxFault_CNT 1)).wr (rCtx .iotuCtxFaddr c) (BitVec.ofNat 64 (iova % 2 ^ 48))
  s.report (3370 + agentDie agent) .uc

/-! Requests. -/

/-- A request that an I/O agent makes, within one line. -/
structure IoAsk where
  agent : Nat
  stream : Nat
  iova : Nat
  size : Nat
  write : Bool
  data : Line := 0
  poison : Bool := false
  use : IoUse
  gen : Nat := 0
  after : Bool := false
  deriving DecidableEq, Repr

/-- The message of a request (R276, R305). The host's access to the configuration space is a Device-Ordered one (R466). -/
def State.ioMsg (s : State) (r : IoReq) : Msg :=
  let off := lineOff r.pa
  let bm : BitVec 64 := BitVec.ofNat 64 ((2 ^ r.size - 1) * 2 ^ off)
  let m : Msg := { opc := .readOnce, pa := lineOf r.pa, src := r.agent, dst := .home (s.homeFrom (routerOf r.agent) r.pa),
                   req := r.agent, world := r.world, dom := r.dom, vc3 := r.vc3 }
  match place r.pa with
  | .dram =>
    if r.write then
      { m with opc := if r.size = 64 then .writeUnique else .writePtl
               data := r.wdata <<< (8 * off), bmask := bm
               poison := if r.wpois then
                   (List.range 4).foldl (fun a i => if off < 16 * i + 16 ∧ 16 * i < off + r.size then a ||| (1 <<< i) else a) 0
                 else 0 }
    else m
  | _ =>
    { m with opc := if !r.write then .ncRead else if r.use = .hostCfg then .ncWriteO else .ncWriteP
             pa := r.pa, dst := .target, size := r.size, data := r.wdata, aux := r.id
             poison := if r.wpois then 15 else 0 }

def ioMap (id : Nat) (f : IoReq → IoReq) (l : List IoReq) : List IoReq := l.map (fun r => if r.id = id then f r else r)

/-- Sends a request to its target. -/
def State.ioSend (s : State) (r : IoReq) : State :=
  { s with io := ioMap r.id (fun r => { r with sent := true }) s.io }.send (s.ioMsg r)

/-- The requests that arrived before one. -/
def ioBefore (l : List IoReq) (r : IoReq) : List IoReq := l.takeWhile (fun x => x.id != r.id)

/-- What keeps its writes in arrival order (R259): a root port, a window of the Supervisor Port, a function. -/
def IoReq.key (r : IoReq) : Nat := if r.stream < 512 then r.stream else 512 + (r.stream - 512) / 256 * 256

/-- A request may not leave yet: an earlier one of its stream has not left (R210), or it is a write and an earlier write of
its stream, port or window has not been performed (R259). -/
def ioHeld (l : List IoReq) (r : IoReq) : Bool :=
  (ioBefore l r).any (fun x => !x.done && ((x.stream == r.stream && !x.sent) || (r.write && x.write && x.key == r.key)))

/-- A completion, an interrupt or an access of the function itself may take place: every earlier write of the port has been
performed (R259, R260), and the first part of its TLP has been completed. -/
def ioDue (l : List IoReq) (r : IoReq) : Bool :=
  !(ioBefore l r).any (fun x => x.agent == r.agent && ((x.write && !x.done) || (r.after && x.id + 1 == r.id)))

/-- A window request is refused (R461). -/
def State.spRefused (s : State) (write : Bool) (size : Nat) : State :=
  let s := (s.finc ⟨.spWstat, 0, 0⟩ spWstat_REFCNT).report 3372 .uc
  if write then s.spAer 15 else s.spCpl 4 size (onesOf size)

/-- The bytes that a read returns. -/
def IoReq.bytes (r : IoReq) : Line := lineGet r.data (lineOff r.pa) r.size

/-- Some unit that the request touches is poisoned. -/
def IoReq.bad (r : IoReq) : Bool := poisoned (poison8 r.poison) (lineOff r.pa) r.size

/-- A request that is done, and whose turn has come, leaves the list with what its agent makes of it: a completion to the
host or the card, an interrupt. A read that fails returns all ones (R38, R209). The requests of Field Exchange stay until
their engine takes them. -/
def State.ioFinish (s : State) (r : IoReq) : State :=
  let gone := { s with io := s.io.filter (fun x => x.id != r.id) }
  match r.use with
  | .spIn =>
    if r.err then (let t := gone.spRefused r.write r.size; if r.drop then t.muted s else t)
    else if r.write || r.drop then gone
    else { gone with out := gone.out ++ [.hostCpl 0 r.bad r.size r.bytes] }
  | .hostCfg =>
    let t := if r.err then gone.fset (rSp .spHcfgstat) spHcfgstat_DROPPED 1 else gone
    if r.write || r.drop then t
    else { t with out := t.out ++ [.hostCpl 0 (!r.err && r.bad) 8 (if r.err then 0 else r.bytes)] }
  | .rpIn k =>
    if r.write then gone
    else if r.err then { gone with out := gone.out ++ [.cardCpl k 4 false r.size (onesOf r.size)] }
    else { gone with out := gone.out ++ [.cardCpl k 0 r.bad r.size r.bytes] }
  | .rpUr k => { gone with out := gone.out ++ [.cardCpl k 1 false r.size 0] }
  | .msi _ intid => gone.edge intid
  | .intx k w up =>
    let old := tget 0 s.rpIntx k
    { gone with rpIntx := tput s.rpIntx k (if up then old ||| ((1#4) <<< (w % 4)) else old &&& ~~~((1#4) <<< (w % 4))) }
  | .plain => gone
  | _ => s

/-- The function's write gate is shut for a write (R447): a reset is under way and the write carries an older generation. -/
def State.fxShut (s : State) (fn gen : Nat) : Bool :=
  s.fget ⟨.fxFnCtl, fn, 0⟩ fxFnCtl_DKIND == 1 && s.fget ⟨.fxFnCtl, fn, 0⟩ fxFnCtl_GEN != gen

/-- A request is over without having been made. -/
def State.ioVoid (s : State) (id : Nat) : State :=
  { s with io := ioMap id (fun r => { r with done := true, drop := true }) s.io }

/-- A read of Field Exchange whose data nobody wants any more has returned (R448). -/
def IoReq.unwanted (r : IoReq) : Bool :=
  r.done && r.drop && (match r.use with
    | .desc _ _ _ | .txData _ _ => true
    | _ => false)

/-- A request that the function itself answers is handled; an access to `SP_HCFGDATA` goes to the configuration space
(R460, R466). -/
def State.ioLocal (s : State) (r : IoReq) (q : SpTlp) : State :=
  if s.spDataAccess q then
    let r := { r with use := .hostCfg, write := q.write, size := 8, wdata := q.data
                      pa := cfgBase + fld (s.rd (rSp .spHcfgaddr)) spHcfgaddr_OFFSET * 8 }
    { s with io := ioMap r.id (fun _ => r) s.io }.send (s.ioMsg r)
  else
    let t := { s with io := s.io.filter (fun x => x.id != r.id) }.spLocal q
    if r.drop then t.muted s else t

/-- One request moves on when its order allows it: it is sent, or its answer delivered (R210, R259, R260, R447, R477). -/
def State.ioStep (s : State) (id : Nat) : State :=
  match s.io.find? (fun r => r.id == id) with
  | none => s
  | some r =>
    if r.unwanted then
      { s with io := s.io.filter (fun x => x.id != id) }.finc ⟨.fxFnStat, r.stream, 0⟩ fxFnStat_RDDROP
    else if r.done then (if r.write || ioDue s.io r then s.ioFinish r else s)
    else
      match r.use with
      | .msi _ _ | .intx _ _ _ => if ioDue s.io r then s.ioFinish r else s
      | .spLocal q => if ioDue s.io r then s.ioLocal r q else s
      | .hostCfg => s
      | .rxData _ _ =>
        if r.sent || ioHeld s.io r then s
        else if s.fxShut r.stream r.gen then (s.ioVoid id).finc ⟨.fxFnStat, r.stream, 0⟩ fxFnStat_WRDROP
        else if s.io.any (fun x => x.use == r.use && x.err) then s.ioVoid id
        else s.ioSend r
      | .compl _ _ => if r.sent || ioHeld s.io r then s else if s.fxShut r.stream r.gen then s.ioVoid id else s.ioSend r
      | _ => if r.sent || ioHeld s.io r then s else s.ioSend r

/-- Every request moves on as far as it can. -/
def State.ioKick (s : State) : State := (s.io.map (·.id)).foldl State.ioStep s

/-- A request joins the others, and all move on as far as they can. -/
def State.ioPut (s : State) (r : IoReq) : State :=
  { s with io := s.io ++ [{ r with id := s.ioSeq }], ioSeq := s.ioSeq + 1 }.ioKick

/-- A request as it arrives. -/
def IoAsk.req (a : IoAsk) : IoReq :=
  { id := 0, agent := a.agent, stream := a.stream, ctx := 0, pa := a.iova, size := a.size, write := a.write, wdata := a.data
    wpois := a.poison, use := a.use, world := false, dom := 0, gen := a.gen, after := a.after }

/-- A request that makes no access (R209, R461). -/
def State.ioRefused (s : State) (a : IoAsk) : State := s.ioPut { a.req with done := true, err := true }

/-- An I/O agent issues a request: the IOTU translates it, or refuses it (R208, R209). -/
def State.ioIssue (s : State) (a : IoAsk) : State :=
  let (s, x) := s.ioTranslate a.agent a.stream a.iova a.write
  match x with
  | .ok c pa world dom e => s.ioPut { a.req with ctx := c, pa := pa, world := world, dom := dom, xl := some e, vc3 := s.quiet world dom }
  | .bad c kind level st => (s.ioFault a.agent c kind level st a.write a.iova).ioRefused a

/-- A request of a window of the Supervisor Port: one whose context is sealed makes no access (R461). -/
def State.spIssue (s : State) (a : IoAsk) : State :=
  match s.streamWho a.stream with
  | some (true, _) => s.ioRefused a
  | _ => s.ioIssue a

/-- What an agent keeps in order with its requests, but asks of no memory. -/
def State.ioAside (s : State) (agent stream : Nat) (write : Bool) (size : Nat) (use : IoUse) (done : Bool := false) : State :=
  s.ioPut { id := 0, agent := agent, stream := stream, ctx := 0, pa := 0, size := size, write := write, use := use, world := false
            dom := 0, sent := true, done := done }

/-- The answer to a request of an I/O agent: the oldest one of the agent for the line that was sent and still waits. -/
def ioAnswer (a pa : Nat) (write : Bool) (f : IoReq → IoReq) : List IoReq → List IoReq
  | [] => []
  | r :: rs =>
    if r.agent == a && lineOf r.pa == lineOf pa && r.write == write && r.sent && !r.done && (match place r.pa with
      | .dram => true
      | _ => false) then f r :: rs
    else r :: ioAnswer a pa write f rs

/-- A peer request has been answered by its root port (R464). -/
def State.ioPeerDone (s : State) (id : Nat) (err : Bool) (d : Line) (ep : Bool) : State :=
  { s with io := ioMap id (fun r => { r with done := true, err := err, data := d <<< (8 * lineOff r.pa),
                                             poison := if ep then 15 else 0 }) s.io }.ioKick

/-- A root port accepts a peer write (R464). -/
def State.ioPeerAccepted (s : State) (id : Nat) : State := s.ioPeerDone id false 0 false

/-- The agent that issues the requests of a stream (R206): a function's engine is that of IOW. -/
def agentOfStream (stream : Nat) : Nat :=
  if stream < 256 then 0x840 else if stream < 272 then 0x820 else 0x830 + (stream - 512) / 256

/-- IOTU_REQUEST (R208, R209): a request of a stream, for the bytes from `iova` to the end of its line. -/
def execIotuRequest (stream iova : Nat) (write : Bool) (data : BitVec 512) (s : State) : Host.Outcome State Fault Refusal :=
  if stream ≥ 4608 then .fault .noSuchUnit
  else if 272 ≤ stream ∧ stream < 512 then .next s
  else
    let a : IoAsk := { agent := agentOfStream stream, stream := stream, iova := iova, size := 64 - iova % 64, write := write
                       data := data, use := if stream < 256 then .plain else if stream < 272 then .spIn else .rpIn ((stream - 512) / 256) }
    .next (if a.use = .spIn then s.spIssue a else s.ioIssue a)

/-! Context registers (R211–R213). -/

/-- Removes the entries of a context that satisfy `f`, and marks the requests that used such an entry. -/
def State.iotlbInv (s : State) (c : Nat) (f : TlbEnt → Bool) : State :=
  { s with iotlb := s.iotlb.filter (fun e => !(e.2.ctx == c && f e.2.ent))
           io := s.io.map (fun (r : IoReq) => if r.ctx = c ∧ !r.done ∧ r.xl.any f then { r with preInv := true } else r) }.fset
    (rCtx .iotuCtxInvstat c) iotuCtxInvstat_BUSY 1

def State.ctxBusy (s : State) (c : Nat) : Bool := s.fget (rCtx .iotuCtxInvstat c) iotuCtxInvstat_BUSY == 1
def State.ctxRefuse (s : State) (c : Nat) : State := s.fset (rCtx .iotuCtxInvstat c) iotuCtxInvstat_REFUSED 1

/-- A write of `IOTU_CTX_INV` (R211). -/
def State.wCtxInv (s : State) (w : WriteReq) (r : Reg) (ok : Fld → Bool) : State × Bool :=
  let v := s.off w r
  let p0 := fld v iotuCtxInv_ADDR * 4096
  let p1 := p0 + (fld v iotuCtxInv_NPG + 1) * 4096
  if !ok iotuCtxInv_SCOPE then (s, true)
  else if s.ctxBusy r.i then (s.ctxRefuse r.i, true)
  else
    match fld v iotuCtxInv_SCOPE with
    | 0 => (s.iotlbInv r.i (fun _ => true), false)
    | 1 => (s.iotlbInv r.i (fun e => decide (e.va < p1 ∧ p0 < e.va + 2 ^ e.lg)), false)
    | 2 => (s.iotlbInv r.i (fun _ => s.fget (rCtx .iotuCtxCfg r.i) iotuCtxCfg_S2EN == 1), false)
    | _ => (s, false)

/-- A write of `IOTU_CTX_CFG` or of a table base (R211): the whole context is invalidated. -/
def State.wCtx (s : State) (w : WriteReq) (r : Reg) (ok : Fld → Bool) : State × Bool :=
  if !(fields r.name).any ok then (s, true)
  else if s.ctxBusy r.i then (s.ctxRefuse r.i, true)
  else ((s.plain w r ok).iotlbInv r.i (fun _ => true), false)

/-- A write of `IOTU_CTX_FAULT` (R212). -/
def State.wCtxFault (s : State) (w : WriteReq) (r : Reg) (ok : Fld → Bool) : State × Bool :=
  let had := s.fget r iotuCtxFault_FV
  let s := s.plain w r ok
  if had = 1 ∧ s.fget r iotuCtxFault_FV = 0 then ((s.fset r iotuCtxFault_FMULT 0).fset r iotuCtxFault_CNT 0, false)
  else (s, false)

/-- IOTU_INV_COMPLETE (R211): nothing that used a removed entry is left. -/
def execIotuInvComplete (c : Nat) (s : State) : Host.Outcome State Fault Refusal :=
  if c ≥ 1024 then .fault .noSuchUnit
  else if s.io.any (fun r => r.ctx == c && r.preInv && !r.done) then .next s
  else .next (s.fset (rCtx .iotuCtxInvstat c) iotuCtxInvstat_BUSY 0)

end Sys2Proof.Machine
end

