-- ==== Sys2Proof/Machine/FxOps.lean ====
section
/-! DEFINITION. Field Exchange: functions, queues, descriptors and completions (R408–R421, R438–R453). -/

namespace Sys2Proof.Machine

/-! Names. -/

def rFn (n : RegName) (k : Nat) : Reg := ⟨n, k, 0⟩
def rQ (n : RegName) (q : Nat) : Reg := ⟨n, q, 0⟩
def rPt (n : RegName) (p : Nat) : Reg := ⟨n, p, 0⟩

def State.fnState (s : State) (n : Nat) : Nat := s.fget (rFn .fxFnCtl n) fxFnCtl_STATE
def State.fnGen (s : State) (n : Nat) : Nat := s.fget (rFn .fxFnCtl n) fxFnCtl_GEN
def State.qState (s : State) (q : Nat) : Nat := s.fget (rQ .fxQCtl q) fxQCtl_STATE
def State.qSize (s : State) (q : Nat) : Nat := 2 ^ s.fget (rQ .fxQCfg q) fxQCfg_LOG2N
def State.qRx (s : State) (q : Nat) : Bool := s.fget (rQ .fxQCfg q) fxQCfg_TYPE == 1
def State.qPort (s : State) (q : Nat) : Nat := s.fget (rQ .fxQCfg q) fxQCfg_PORT
def State.qHead (s : State) (q : Nat) : Nat := s.fget (rQ .fxQPtr q) fxQPtr_HEAD
def State.qTail (s : State) (q : Nat) : Nat := s.fget (rQ .fxQPtr q) fxQPtr_TAIL
def State.qCtail (s : State) (q : Nat) : Nat := s.fget (rQ .fxQPtr q) fxQPtr_CTAIL
def State.qChead (s : State) (q : Nat) : Nat := s.fget (rQ .fxQPtr q) fxQPtr_CHEAD
/-- The completion ring is full (R414). -/
def State.ringFull (s : State) (q : Nat) : Bool := (s.qCtail q + 1) % s.qSize q == s.qChead q
def State.jobs (s : State) (q : Nat) : List FxJob := tget [] s.fxq q
def State.setJobs (s : State) (q : Nat) (l : List FxJob) : State := { s with fxq := tput s.fxq q l }
def State.modJobs (s : State) (q : Nat) (f : FxJob → FxJob) : State := s.setJobs q ((s.jobs q).map f)
def State.modJob (s : State) (q idx : Nat) (f : FxJob → FxJob) : State := s.modJobs q (fun j => if j.idx = idx then f j else j)
def State.port (s : State) (p : Nat) : FxPort := tget {} s.fxp p
def State.setPort (s : State) (p : Nat) (x : FxPort) : State := { s with fxp := tput s.fxp p x }
def State.portUp (s : State) (p : Nat) : Bool := s.fget (rPt .fxPortStat p) fxPortStat_LINK == 1
def State.portEn (s : State) (p : Nat) : Bool := s.fget (rPt .fxPortCfg p) fxPortCfg_EN == 1

/-- The DMA engine of a port (R408). -/
def engineOf (p : Nat) : Nat := if p < 16 then 0x840 else 0x841
/-- A DMA error is recorded at the engine's source (R410). -/
def State.dmaReport (s : State) (agent : Nat) : State := s.report (if agent = 0x840 then 3368 else 3369) .uc

/-- The queues of TX type bound to a port that have work, lowest first. -/
def State.portQs (s : State) (p : Nat) : List Nat :=
  ((s.fxq.map (·.1)).filter (fun q => !s.qRx q && s.qPort q == p)).mergeSort (fun a b => decide (a ≤ b))

/-- The module is in the safe state: no queue starts further work (R433). -/
def State.inSafe (s : State) : Bool := s.safeAt.isSome

/-! DMA reads. -/

/-- Reads outstanding at an engine (R408). -/
def State.readsOut (s : State) (agent : Nat) : Nat :=
  (s.io.filter (fun r => r.agent == agent && !r.write && !r.done)).length

/-- A read of one line for a queue. -/
def State.fxRead (s : State) (agent q line : Nat) (gen : Nat) (use : IoUse) : State :=
  s.ioIssue { agent := agent, stream := (s.fnOfQueue q).getD 0, iova := line, size := 64, write := false, use := use, gen := gen }

/-- The IOVA of a descriptor. -/
def State.descAddr (s : State) (q idx : Nat) : Nat := s.fget (rQ .fxQDbase q) fxQDbase_BASE * 4096 + 32 * idx

/-- A TX queue holds while its port's link is down, unless its descriptors are to be dropped (R405). -/
def State.txHolds (s : State) (q : Nat) : Bool :=
  !s.portUp (s.qPort q) && s.fget (rPt .fxPortCfg (s.qPort q)) fxPortCfg_DROPDOWN == 0

/-- Takes the covered descriptors of the next line of a TX queue and issues its read (R413, R425). -/
def State.fetchOne (s : State) (q : Nat) : State :=
  let agent := engineOf (s.qPort q)
  let h := s.qHead q
  if s.qState q ≠ 1 ∨ s.inSafe ∨ s.txHolds q ∨ h = s.qTail q ∨ s.readsOut agent ≥ 128 then s
  else
    let n := if h % 2 = 0 ∧ h + 1 ≠ s.qTail q then 2 else 1
    let gen := s.fnGen ((s.fnOfQueue q).getD 0)
    let s := s.setJobs q (s.jobs q ++ (List.range n).map (fun i => { idx := h + i, gen := gen }))
    let s := s.fset (rQ .fxQPtr q) fxQPtr_HEAD ((h + n) % s.qSize q)
    s.fxRead agent q (s.descAddr q h / 64 * 64) gen (.desc q h n)

/-- Issues the descriptor read of the oldest RX job that still lacks one. -/
def State.askOne (s : State) (q : Nat) : State :=
  match (s.jobs q).find? (fun j => !j.asked && j.st == .fetch) with
  | none => s
  | some j =>
    let agent := engineOf j.port
    if s.readsOut agent ≥ 128 then s
    else (s.modJob q j.idx (fun x => { x with asked := true })).fxRead agent q (s.descAddr q j.idx / 64 * 64) j.gen
      (.desc q j.idx 1)

/-- The number of lines of a job's buffer. -/
def FxJob.lines (j : FxJob) : Nat := if j.len = 0 then 0 else (j.buf + j.len - 1) / 64 - j.buf / 64 + 1

/-- Issues the next data line of the frame that is being read. -/
def State.dataOne (s : State) (q : Nat) : State :=
  match (s.jobs q).find? (fun j => j.st == .reading && decide (j.pos < j.lines)) with
  | none => s
  | some j =>
    let agent := engineOf (s.qPort q)
    if s.readsOut agent ≥ 128 then s
    else (s.modJob q j.idx (fun x => { x with pos := x.pos + 1 })).fxRead agent q ((j.buf / 64 + j.pos) * 64) j.gen (.txData q j.idx)

/-! Ends of jobs. -/

/-- The reads made for a job are no longer wanted (R448). -/
def State.dropReads (s : State) (q idx : Nat) : State :=
  let mine := fun (u : IoUse) => match u with
    | .desc q' i n => q' == q && decide (i ≤ idx ∧ idx < i + n)
    | .txData q' i => q' == q && i == idx
    | _ => false
  { s with io := s.io.map (fun (r : IoReq) => if mine r.use then { r with drop := true } else r) }

/-- A job ends without having been sent; a received frame keeps its timestamp and length. -/
def State.endJob (s : State) (q idx status : Nat) : State :=
  let rx := s.qRx q
  ((s.modJob q idx (fun j =>
    if rx then { j with st := .done, status := status, frame := [] }
    else { j with st := .done, status := status, flen := 0, tsv := false, ts := 0, frame := [] })).dropReads q idx).ioKick

/-- With `DROPDOWN` = 1 and the link down, each TX descriptor that has returned completes with LINKDOWN (R405). -/
def State.linkDrop (s : State) (q : Nat) : State :=
  let p := s.qPort q
  if s.qRx q || s.portUp p || s.fget (rPt .fxPortCfg p) fxPortCfg_DROPDOWN == 0 then s
  else ((s.jobs q).filter (fun j => j.st == .fetched || j.st == .reading || j.st == .ready)).foldl (fun a j => a.endJob q j.idx 3) s

/-- A queue goes on as far as its engine has reads to spare. -/
def State.fxPump (s : State) (q : Nat) : State :=
  let s := s.linkDrop q
  if s.inSafe then s
  else if s.qRx q then (List.range 128).foldl (fun a _ => a.askOne q) s
  else (List.range 128).foldl (fun a _ => a.fetchOne q) ((List.range 145).foldl (fun a _ => a.dataOne q) s)

/-- Every queue of a port goes on. -/
def State.portPump (s : State) (p : Nat) : State := (s.portQs p).foldl State.fxPump s

/-- A queue enters `QERROR` (R410, R412); one that drains goes on draining. -/
def State.qErr (s : State) (q cause : Nat) : State :=
  if s.qState q = 1 then (s.fset (rQ .fxQCtl q) fxQCtl_STATE 3).fset (rQ .fxQCtl q) fxQCtl_QERR cause else s

/-! Doorbells (R420, R421, R445). -/

/-- One doorbell. -/
def State.ring (s : State) (n q : Nat) (descr : Bool) (v : Nat) : State :=
  let size := s.qSize q
  let i := v % 2 ^ 16
  let h := s.qHead q
  let err := s.finc (rQ .fxQErr q) fxQErr_DBERR
  if bits v 16 8 ≠ s.fnGen n then s.finc (rFn .fxFnStat n) fxFnStat_GENDROP
  else if s.qState q ≠ 1 ∨ i ≥ size ∨ bits v 24 8 ≠ 0 then err
  else if descr then
    if (i + size - h) % size < (s.qTail q + size - h) % size then err
    else (s.fset (rQ .fxQPtr q) fxQPtr_TAIL i).fxPump q
  else
    let c := s.qChead q
    if (i + size - c) % size > (s.qCtail q + size - c) % size then err
    else s.fset (rQ .fxQPtr q) fxQPtr_CHEAD i

/-- A write to the doorbell page of function n at an offset, in a world and domain. A form that R420 does not name is
discarded before the check of R445; a write that the check refuses is counted and reported (R18, R492). -/
def State.bell (s : State) (world : Bool) (dom n off size : Nat) (v : Nat) : State :=
  let j := off / 8
  let q := s.fget (rFn .fxFnCfg n) fxFnCfg_QBASE + j
  if !((size == 4 && off % 4 == 0) || (size == 8 && off % 8 == 0)) || decide (s.fget (rFn .fxFnCfg n) fxFnCfg_QCNT ≤ j) then s
  else if s.streamWho (fnStream n) ≠ some (world, dom) then (s.finc (rFn .fxFnStat n) fxFnStat_DBDENY).report (3080 + n) .uc
  else if size = 8 then (s.ring n q true (v % 2 ^ 32)).ring n q false (v / 2 ^ 32 % 2 ^ 32)
  else s.ring n q (off % 8 == 0) (v % 2 ^ 32)

/-! Queue commands (R412). -/

/-- ENABLE is accepted. -/
def State.mayEnableQ (s : State) (q : Nat) : Bool :=
  match s.fnOfQueue q with
  | none => false
  | some n =>
    s.qState q == 0 && s.fnState n == 2 && decide (s.fget (rQ .fxQCfg q) fxQCfg_VEC < s.fget (rFn .fxFnCfg n) fxFnCfg_INTCNT) &&
    (s.qRx q || s.portEn (s.qPort q))

/-- A queue enters `QDRAINING`: every frame that has not started ends with STOPPED, the untaken ones too. -/
def State.drainQ (s : State) (q : Nat) : State :=
  let size := s.qSize q
  let h := s.qHead q
  let s := s.fset (rQ .fxQCtl q) fxQCtl_STATE 2
  let gen := s.fnGen ((s.fnOfQueue q).getD 0)
  let untaken := if s.qRx q then 0 else (s.qTail q + size - h) % size
  let s := s.setJobs q (s.jobs q ++ (List.range untaken).map (fun i => { idx := (h + i) % size, gen := gen }))
  let s := if s.qRx q then s else s.fset (rQ .fxQPtr q) fxQPtr_HEAD (s.qTail q)
  ((s.jobs q).filter (fun j => j.st != .wire && j.st != .writing && j.st != .done)).foldl (fun a j => a.endJob q j.idx 4) s

/-- A write of `FX_Q_CTL`. -/
def State.wQCtl (s : State) (w : WriteReq) (r : Reg) (ok : Fld → Bool) : State × Bool :=
  let cmd := if ok fxQCtl_CMD then fld (s.off w r) fxQCtl_CMD else 0
  let s := s.plain w r ok
  let q := r.i
  match cmd with
  | 1 =>
    if s.mayEnableQ q then
      ((((s.setJobs q []).wr (rQ .fxQPtr q) 0).fset r fxQCtl_STATE 1).fset r fxQCtl_PHASE 1 |>.fset r fxQCtl_QERR 0, false)
    else (s.fset r fxQCtl_CFGERR 1, true)
  | 2 => if s.qState q = 1 ∨ s.qState q = 3 then (s.drainQ q, false) else (s, false)
  | _ => (s, false)

/-- A write of a queue's configuration: only in `QDISABLED` (R412). -/
def State.wQCfg (s : State) (w : WriteReq) (r : Reg) (ok : Fld → Bool) : State × Bool :=
  if s.qState r.i = 0 then (s.plain w r ok, false)
  else if (fields r.name).any ok then (s.fset (rQ .fxQCtl r.i) fxQCtl_CFGERR 1, true)
  else (s, true)

/-- A write that clears a register of counts. -/
def State.wClear (s : State) (_w : WriteReq) (r : Reg) (ok : Fld → Bool) : State × Bool :=
  (if (fields r.name).any ok then s.wr r 0 else s, false)

/-- QUEUE_DRAIN_DONE (R412). -/
def execQueueDrainDone (q : Nat) (s : State) : Host.Outcome State Fault Refusal :=
  if q ≥ 4096 then .fault .noSuchUnit
  else
    let mine := fun (r : IoReq) => match r.use with
      | .desc a _ _ | .txData a _ | .rxData a _ | .compl a _ => a == q
      | _ => false
    if s.qState q ≠ 2 ∨ !(s.jobs q).isEmpty ∨ s.io.any mine then .next s
    else .next ({ s with fxq := tdel s.fxq q }.fset (rQ .fxQCtl q) fxQCtl_STATE 0)

/-! Descriptors (R415–R417). -/

/-- Doubleword `i` of the descriptor of slot idx in its line. -/
def descDw (l : Line) (idx i : Nat) : Nat := ((l >>> (256 * (idx % 2) + 64 * i)).setWidth 64 : Word).toNat

/-- A TX descriptor as read. -/
def State.takeTx (s : State) (q : Nat) (j : FxJob) (l : Line) : State :=
  let d0 := descDw l j.idx 0
  let d2 := descDw l j.idx 2
  let hdr := bit d2 2
  let len := bits d0 48 16
  let total := len + (if hdr then s.fget (rQ .fxQCfg q) fxQCfg_HDRLEN else 0)
  let bad := bits d2 3 3 != 0 || decide (bits d2 6 2 ≥ 2) || bits d2 8 56 != 0 || descDw l j.idx 3 != 0 ||
    decide (total < 14 ∨ 9212 < total)
  let x := { j with buf := bits d0 0 48, len := len, launch := descDw l j.idx 1, lt := bit d2 0, irq := bit d2 1, hdr := hdr
                    lateact := bits d2 6 2, fetchedAt := s.now, flen := max 60 total, st := .fetched }
  let s := s.modJob q j.idx (fun _ => x)
  if bad then s.endJob q j.idx 5 else s

/-- The bytes of a received frame go to its buffer, line by line; a refused line ends it (R410, R416). -/
def State.writeRx (s : State) (q : Nat) (j : FxJob) (bytes : List Byte) : Nat → Nat → State
  | 0, _ => s
  | fuel + 1, a =>
    match bytes with
    | [] => s
    | _ =>
      let n := 64 - a % 64
      let part := bytes.take n
      let d : Line := part.foldr (fun b x => x * 256 + b.setWidth 512) 0
      let s := s.ioIssue { agent := engineOf j.port, stream := (s.fnOfQueue q).getD 0, iova := a, size := part.length, write := true
                           data := d, use := .rxData q j.idx, gen := j.gen }
      if s.io.any (fun x => x.use == .rxData q j.idx && x.err) then s
      else s.writeRx q j (bytes.drop n) fuel (a + part.length)

/-- An RX descriptor as read: its frame is written (R416). Under a shut gate nothing is issued (R447). -/
def State.takeRx (s : State) (q : Nat) (j : FxJob) (l : Line) : State :=
  let d0 := descDw l j.idx 0
  let size := bits d0 48 16
  let bad := decide (size < 64) || descDw l j.idx 1 != 0 || descDw l j.idx 2 != 0 || descDw l j.idx 3 != 0
  if bad then s.endJob q j.idx 5
  else
    let n := j.frame.length
    let s := s.modJob q j.idx (fun j => { j with st := .writing, status := if n ≤ size then 0 else 8, flen := n, tsv := true,
                                                 frame := [] })
    s.writeRx q j (j.frame.take size) 160 (bits d0 0 48)

/-- DESCRIPTOR_FETCH (R410, R425): the oldest descriptor line of the queue that has returned. -/
def execDescriptorFetch (q : Nat) (s : State) : Host.Outcome State Fault Refusal :=
  if q ≥ 4096 then .fault .noSuchUnit
  else
    let hit := s.io.findSome? (fun r => match r.use with
      | .desc a i n => if a = q ∧ r.done ∧ !r.drop then some (r, i, n) else none
      | _ => none)
    match hit with
    | none => .next (s.fxPump q)
    | some (r, i, n) =>
      let s : State := { s with io := s.io.filter (fun x => x.id != r.id) }
      let mine := fun (j : FxJob) => decide (i ≤ j.idx ∧ j.idx < i + n) && j.st == .fetch
      let gone := fun (a : State) (j : FxJob) => a.setJobs q ((a.jobs q).filter (fun x => x.idx != j.idx))
      let js := (s.jobs q).filter mine
      let s :=
        if r.err then (js.foldl gone s).qErr q 1 |>.dmaReport r.agent
        else js.foldl (fun a j =>
          if poisoned (poison8 r.poison) (32 * (j.idx % 2)) 32 then ((gone a j).qErr q 2).dmaReport r.agent
          else if a.qRx q then a.takeRx q j r.data
          else a.takeTx q j r.data) s
      .next (s.fxPump q)

/-! Data of TX frames (R425). -/

/-- The room that a frame takes in its port's transmit buffer. -/
def FxJob.room (j : FxJob) : Nat := if j.st == .reading || j.st == .ready || j.st == .wire then j.flen else 0

def State.bufUsed (s : State) (p : Nat) : Nat := ((s.portQs p).map (fun q => ((s.jobs q).map FxJob.room).sum)).sum

/-- The frame whose data read comes next: every earlier one has had its data read. -/
def nextRead (l : List FxJob) : Option FxJob :=
  match l.find? (fun j => j.st == .fetch || j.st == .fetched || j.st == .reading) with
  | some j => if j.st == .fetched then some j else none
  | none => none

/-- TX_DATA_READ (R425). -/
def execTxDataRead (q : Nat) (s : State) : Host.Outcome State Fault Refusal :=
  if q ≥ 4096 then .fault .noSuchUnit
  else if s.inSafe then .next s
  else
    let s := s.fxPump q
    match nextRead (s.jobs q) with
    | none => .next s
    | some j =>
      if s.txHolds q ∨ s.now < j.fetchedAt + 2 ∨ (j.lt ∧ !j.late ∧ s.ct.toNat + 20000 < j.launch) ∨
          s.bufUsed (s.qPort q) + j.flen > 32768 then .next s
      else .next ((s.modJob q j.idx (fun j => { j with st := .reading, pos := 0 })).fxPump q)

/-- The header template of a queue (R404). -/
def State.qHeader (s : State) (q : Nat) : List Byte :=
  ((List.range 4).flatMap (fun i => (List.range 8).map (fun b =>
    ((s.rd ⟨.fxQHdr, q, i⟩ >>> (8 * b)).setWidth 8 : Byte)))).take (s.fget (rQ .fxQCfg q) fxQCfg_HDRLEN)

/-- Zero bytes up to a length. -/
def padTo (n : Nat) (l : List Byte) : List Byte := l ++ List.replicate (n - l.length) 0

/-- The poisoned units that a job's buffer touches in its line `i`. -/
def lineBad (j : FxJob) (i : Nat) (r : IoReq) : Bool :=
  let a := (j.buf / 64 + i) * 64
  let lo := max a j.buf - a
  let hi := min (a + 64) (j.buf + j.len) - a
  poisoned (poison8 r.poison) lo (hi - lo)

/-- FRAME_READY (R410, R425): the last data line of the frame has returned. -/
def execFrameReady (q : Nat) (s : State) : Host.Outcome State Fault Refusal :=
  if q ≥ 4096 then .fault .noSuchUnit
  else
    let s := s.fxPump q
    match (s.jobs q).find? (fun j => j.st == .reading) with
    | none => .next s
    | some j =>
      let rs := s.io.filter (fun r => r.use == .txData q j.idx && !r.drop)
      if j.pos < j.lines ∨ rs.any (fun r => !r.done) then .next s
      else
        let s' : State := { s with io := s.io.filter (fun r => !(r.use == .txData q j.idx && !r.drop)) }
        let agent := engineOf (s.qPort q)
        if rs.any (·.err) then .next ((s'.endJob q j.idx 6).dmaReport agent)
        else if (List.range rs.length).any (fun i => match rs[i]? with
            | some r => lineBad j i r
            | none => false) then .next ((s'.endJob q j.idx 7).dmaReport agent)
        else
          let data := ((rs.flatMap (fun r => lineBytes 64 r.data)).drop (j.buf % 64)).take j.len
          let f := padTo 60 ((if j.hdr then s.qHeader q else []) ++ data)
          .next ((s'.modJob q j.idx (fun j => { j with st := .ready, frame := f })).fxPump q)

/-! Completions (R409, R414, R418). -/

/-- DW1 of a completion. -/
def State.complWord (s : State) (q : Nat) (j : FxJob) : Word :=
  let rx := s.qRx q
  BitVec.ofNat 64 (j.idx + j.flen % 2 ^ 16 * 2 ^ 16 + j.status * 2 ^ 32 + b2n j.tsv * 2 ^ 38 +
    (if rx then j.cls * 2 ^ 40 + b2n j.clsv * 2 ^ 54 else 0) + j.gen * 2 ^ 55 + j.phase * 2 ^ 63)

/-- The lane on which a port sends. -/
def State.laneOf (s : State) (p : Nat) : Nat := s.fget (rPt .fxPortStat p) fxPortStat_LANE

/-- A frame whose last bit has left (R407, R409). -/
def State.endWire (s : State) (q : Nat) : State :=
  match (s.jobs q).find? (fun j => j.st == .wire && decide (j.endAt ≤ s.now)) with
  | none => s
  | some j =>
    let p := s.qPort q
    let x := s.port p
    let s := s.modJob q j.idx (fun j => { j with st := .done, status := if j.late then 1 else 0, tsv := true, frame := [] })
    let s := { s with out := s.out ++ [OutMsg.frame (s.laneOf p) j.frame] }.fset (rPt .fxPortCnt p) fxPortCnt_TXFRM
      (s.fget (rPt .fxPortCnt p) fxPortCnt_TXFRM + 1)
    if x.wire = some q then s.setPort p { x with wire := x.pre, pre := none } else s

/-- The data writes of a received frame are all performed (R409). -/
def State.endRx (s : State) (q : Nat) (j : FxJob) : State :=
  let rs := s.io.filter (fun r => r.use == .rxData q j.idx)
  if rs.any (fun r => !r.done) then s
  else
    let err := rs.any (·.err)
    let s : State := { s with io := s.io.filter (fun r => r.use != .rxData q j.idx) }
    let s := s.modJob q j.idx (fun j => { j with st := .done, status := if err then 6 else j.status })
    if err then s.dmaReport (engineOf j.port) else s

/-- The oldest job leaves its queue. -/
def State.popJob (s : State) (q : Nat) : State := (s.setJobs q ((s.jobs q).drop 1)).fxPump q

/-- The completion is discarded (R447). -/
def State.voidCompl (s : State) (q n : Nat) : State := (s.popJob q).finc (rFn .fxFnStat n) fxFnStat_WRDROP

/-- The agent that writes a job's completion. -/
def State.jobAgent (s : State) (q : Nat) (j : FxJob) : Nat := engineOf (if s.qRx q then j.port else s.qPort q)

/-- Issues one doubleword of a completion. -/
def State.complWrite (s : State) (q n slot : Nat) (j : FxJob) (dw : Nat) (v : Word) : State :=
  s.ioIssue { agent := s.jobAgent q j, stream := n, iova := s.fget (rQ .fxQCbase q) fxQCbase_BASE * 4096 + 16 * slot + 8 * dw, size := 8
              write := true, data := v.setWidth 512, use := .compl q j.idx, gen := j.gen }

/-- The completion of the oldest job begins: its slot is taken and DW0 written. -/
def State.complBegin (s : State) (q n : Nat) (j : FxJob) : State :=
  if s.ringFull q then
    if s.qState q = 2 then (s.popJob q).finc (rQ .fxQErr q) fxQErr_CQDROP else s
  else if s.fxShut n j.gen then s.voidCompl q n
  else
    let slot := s.qCtail q
    let ph := s.fget (rQ .fxQCtl q) fxQCtl_PHASE
    let next := (slot + 1) % s.qSize q
    let s := s.fset (rQ .fxQPtr q) fxQPtr_CTAIL next
    let s := if next = 0 then s.fset (rQ .fxQCtl q) fxQCtl_PHASE (1 - ph) else s
    (s.modJob q j.idx (fun j => { j with cstep := 1, slot := slot, phase := ph })).complWrite q n slot j 0 (if j.tsv then j.ts else 0)

/-- The interrupt of a queue (R409, R435, R441). -/
def State.qIrq (s : State) (q n : Nat) (j : FxJob) : State :=
  if s.fget (rQ .fxQCfg q) fxQCfg_IRQEN = 1 ∧ (s.qRx q ∨ j.irq) then
    s.edge (s.fget (rFn .fxFnCfg n) fxFnCfg_INTBASE + s.fget (rQ .fxQCfg q) fxQCfg_VEC)
  else s

/-- A doubleword of the completion has been answered. -/
def State.complGoOn (s : State) (q n : Nat) (j : FxJob) : State :=
  match s.io.find? (fun r => r.use == .compl q j.idx) with
  | none => s
  | some r =>
    if !r.done then s
    else
      let s : State := { s with io := s.io.filter (fun x => x.id != r.id) }
      if r.err then ((s.qErr q 3).dmaReport r.agent).popJob q
      else if r.drop || (j.cstep == 1 && s.fxShut n j.gen) then s.voidCompl q n
      else if j.cstep = 1 then
        (s.modJob q j.idx (fun j => { j with cstep := 2 })).complWrite q n j.slot j 1 (s.complWord q j)
      else
        let s := (s.qIrq q n j).popJob q
        if j.status = 5 ∧ s.fget (rQ .fxQCfg q) fxQCfg_STOPONERR = 1 then s.qErr q 4 else s

/-- COMPLETION_WRITE (R409): the oldest job of the queue moves on by one step. -/
def execCompletionWrite (q : Nat) (s : State) : Host.Outcome State Fault Refusal :=
  if q ≥ 4096 then .fault .noSuchUnit
  else
    let s := s.endWire q
    match s.jobs q, s.fnOfQueue q with
    | j :: _, some n =>
      if j.st == .writing then .next (s.endRx q j)
      else if j.st == .done then .next (if j.cstep = 0 then s.complBegin q n j else s.complGoOn q n j)
      else .next s
    | _, _ => .next s

/-! Functions (R440–R451). -/

/-- The generation increases (R443, R455). -/
def State.bumpGen (s : State) (n : Nat) : State :=
  let g := s.fnGen n
  let s := s.fset (rFn .fxFnCtl n) fxFnCtl_GEN (g + 1)
  s.ashPlain 0x0031 (BitVec.ofNat 64 n) (BitVec.ofNat 64 (g + s.fnGen n * 2 ^ 8))

/-- The state event of a function (R442). -/
def State.fnEvent (s : State) (n : Nat) : State :=
  let c := s.rd (rFn .fxFnCfg n)
  (s.fset (rFn .fxFnCtl n) fxFnCtl_EVT 1).edge (fld c fxFnCfg_INTBASE + fld c fxFnCfg_EVTVEC)

/-- A refused command or configuration write. -/
def State.fnRefuse (s : State) (n code : Nat) : State :=
  (s.fset (rFn .fxFnCtl n) fxFnCtl_ERR 1).fset (rFn .fxFnCtl n) fxFnCtl_ERRCODE code

/-- `CLSCNT` (R456). -/
def State.clsCnt (s : State) (n : Nat) : Nat :=
  (s.regs.filter (fun e => e.1.name == .fxClsAct && fld e.2 fxClsAct_V == 1 && fld e.2 fxClsAct_FN == n)).length

/-- Ranges of the given starts and lengths overlap; an empty one overlaps nothing. -/
def overlap (a n b m : Nat) : Bool := decide (0 < n ∧ 0 < m ∧ a < b + m ∧ b < a + n)

/-- The reason to refuse a configuration (R440, R441), or 0. -/
def State.fnCfgBad (s : State) (n : Nat) (old new : Word) : Nat :=
  let qb := fld new fxFnCfg_QBASE
  let qc := fld new fxFnCfg_QCNT
  let ib := fld new fxFnCfg_INTBASE
  let ic := fld new fxFnCfg_INTCNT
  if s.fnState n ≠ 0 then 1
  else if qb + qc > 4096 ∨ (0 < ic ∧ (ib < 1024 ∨ ib + ic > 8192)) then 2
  else if s.regs.any (fun e => e.1.name == .fxFnCfg && e.1.i != n &&
      (overlap qb qc (fld e.2 fxFnCfg_QBASE) (fld e.2 fxFnCfg_QCNT) || overlap ib ic (fld e.2 fxFnCfg_INTBASE) (fld e.2 fxFnCfg_INTCNT)))
    then 2
  else if (qb ≠ fld old fxFnCfg_QBASE ∨ qc ≠ fld old fxFnCfg_QCNT) ∧ s.clsCnt n ≠ 0 then 3
  else 0

/-- A write of `FX_FN_CFG` (R440). -/
def State.wFnCfg (s : State) (w : WriteReq) (r : Reg) (ok : Fld → Bool) : State × Bool :=
  if !(fields r.name).any ok then (s, true)
  else
    let new := s.merged r ok w.val w.mask
    match s.fnCfgBad r.i (s.rd r) new with
    | 0 => (s.wr r new, false)
    | c => (s.fnRefuse r.i c, true)

/-- The first check of R444 that fails, or 0. -/
def State.fnEnableBad (s : State) (n : Nat) : Nat :=
  let c := s.rd (rFn .fxFnCfg n)
  if fld c fxFnCfg_QCNT = 0 ∨ fld c fxFnCfg_INTCNT = 0 ∨ fld c fxFnCfg_EVTVEC ≥ fld c fxFnCfg_INTCNT then 7
  else
    match s.streamWho (fnStream n) with
    | none => 4
    | some (wd, d) =>
      if s.fnClaimed n && !wd then 6
      else if (List.range (fld c fxFnCfg_INTCNT)).any (fun i =>
          let x := s.rd (rSrcCfg (fld c fxFnCfg_INTBASE + i))
          fld x idistSrcCfg_WORLD != b2n wd || fld x idistSrcCfg_DOMAIN != d) then 5
      else 0

/-- The function enters `DRAINING` (R442). -/
def State.fnDrain (s : State) (n kind : Nat) : State :=
  let c := s.rd (rFn .fxFnCfg n)
  let qs := (s.regs.filter (fun e => e.1.name == .fxQCtl &&
    decide (fld c fxFnCfg_QBASE ≤ e.1.i ∧ e.1.i < fld c fxFnCfg_QBASE + fld c fxFnCfg_QCNT) &&
    (fld e.2 fxQCtl_STATE == 1 || fld e.2 fxQCtl_STATE == 3))).map (·.1.i)
  let s := qs.foldl State.drainQ s
  let s := { s with fnSince := tput s.fnSince n s.ct.toNat }
  (s.fset (rFn .fxFnCtl n) fxFnCtl_STATE 3).fset (rFn .fxFnCtl n) fxFnCtl_DKIND kind

/-- The RESET command (R443): the state, and whether it is refused. -/
def State.fnResetCmd (s : State) (n : Nat) : State × Bool :=
  match s.fnState n with
  | 0 => (s.bumpGen n, false)
  | 2 => ((s.fnDrain n 1).bumpGen n, false)
  | 3 =>
    if s.fget (rFn .fxFnCtl n) fxFnCtl_DKIND = 0 then ((s.fset (rFn .fxFnCtl n) fxFnCtl_DKIND 1).bumpGen n, false)
    else (s.fnRefuse n 1, true)
  | _ => (s.fnRefuse n 1, true)

/-- Firebreak's block reset of a function (R451). -/
def State.fnBlockReset (s : State) (n : Nat) : State :=
  match s.fnState n with
  | 1 => { s with fnReset := n :: s.fnReset.filter (· != n) }
  | 3 => if s.fget (rFn .fxFnCtl n) fxFnCtl_DKIND = 0 then (s.fnResetCmd n).1 else s
  | _ => (s.fnResetCmd n).1

/-- A write of `FX_FN_CTL` (R443, R444). -/
def State.wFnCtl (s : State) (w : WriteReq) (r : Reg) (ok : Fld → Bool) : State × Bool :=
  let cmd := if ok fxFnCtl_CMD then fld (s.off w r) fxFnCtl_CMD else 0
  let s := s.plain w r ok
  let n := r.i
  match cmd with
  | 1 =>
    if s.fnState n ≠ 0 then (s.fnRefuse n 1, true)
    else
      match s.fnEnableBad n with
      | 0 => ((s.fset r fxFnCtl_STATE 1).wr (rFn .fxFnStat n) 0, false)
      | c => (s.fnRefuse n c, true)
  | 2 => if s.fnState n = 2 then (s.fnDrain n 0, false) else (s.fnRefuse n 1, true)
  | 3 => s.fnResetCmd n
  | _ => (s, false)

/-- FUNCTION_ENABLED (R442). -/
def execFunctionEnabled (n : Nat) (s : State) : Host.Outcome State Fault Refusal :=
  if n ≥ 256 then .fault .noSuchUnit
  else if s.fnState n ≠ 1 then .next s
  else
    let again := s.fnReset.contains n
    let s := { s.fset (rFn .fxFnCtl n) fxFnCtl_STATE 2 with fnReset := s.fnReset.filter (· != n) }.fnEvent n
    .next (if again then (s.fnResetCmd n).1 else s)

/-- `RDOUT` and `WROUT` (R448). -/
def IoReq.ofFx (r : IoReq) : Bool :=
  match r.use with
  | .desc _ _ _ | .txData _ _ | .rxData _ _ | .compl _ _ => true
  | _ => false

def State.rdOut (s : State) (n : Nat) : Nat := (s.io.filter (fun r => r.ofFx && r.stream == n && !r.write && !r.done)).length
def State.wrOut (s : State) (n : Nat) : Nat := (s.io.filter (fun r => r.ofFx && r.stream == n && r.write && !r.done)).length

/-- FUNCTION_DISABLED (R442, R443, R448). -/
def execFunctionDisabled (n : Nat) (s : State) : Host.Outcome State Fault Refusal :=
  if n ≥ 256 then .fault .noSuchUnit
  else
    let c := s.rd (rFn .fxFnCfg n)
    let busy := s.regs.any (fun e => e.1.name == .fxQCtl &&
      decide (fld c fxFnCfg_QBASE ≤ e.1.i ∧ e.1.i < fld c fxFnCfg_QBASE + fld c fxFnCfg_QCNT) && fld e.2 fxQCtl_STATE != 0)
    if s.fnState n ≠ 3 ∨ busy ∨ s.io.any (fun r => r.ofFx && r.stream == n) then .next s
    else
      let k := s.fget (rFn .fxFnCtl n) fxFnCtl_DKIND
      let s := { s.fset (rFn .fxFnCtl n) fxFnCtl_STATE 0 with fnSince := tdel s.fnSince n }
      let s := if k = 0 then s.bumpGen n else s
      .next ((s.fnEvent n).ashPlain 0x0030 (BitVec.ofNat 64 n) (BitVec.ofNat 64 (s.fnGen n + k * 2 ^ 8)))

/-- FUNCTION_STUCK (R450). -/
def execFunctionStuck (n : Nat) (s : State) : Host.Outcome State Fault Refusal :=
  if n ≥ 256 then .fault .noSuchUnit
  else
    match tfind s.fnSince n with
    | none => .next s
    | some t =>
      if s.fnState n ≠ 3 ∨ s.ct.toNat < t + 1000000 ∨ s.fget (rFn .fxFnCtl n) fxFnCtl_STUCK = 1 then .next s
      else .next ({ s.fset (rFn .fxFnCtl n) fxFnCtl_STUCK 1 with fnSince := tdel s.fnSince n }.report (3080 + n) .uc)

end Sys2Proof.Machine
end

