-- ==== Sys2Proof/Machine/FxPort.lean ====
section
/-! DEFINITION. Field Exchange: ports, gates, transmission, the classifier, safe frames (R403–R407, R422–R433, R533). -/

namespace Sys2Proof.Machine

/-! Links and lanes (R405, R406, R533). -/

/-- The frame on the wire is lost (R405): what has not yet left completes with LINKDOWN. -/
def State.cutWire (s : State) (p : Nat) : State :=
  let s := (s.portQs p).foldl State.endWire s
  let cut := (s.portQs p).flatMap (fun q => ((s.jobs q).filter (fun j => j.st == .wire)).map (fun j => (q, j.idx)))
  let s := cut.foldl (fun a x =>
    (a.modJob x.1 x.2 (fun j => { j with st := .done, status := 3, tsv := false, frame := [], flen := freeFx a.draws % 9213 })).draw) s
  s.setPort p { s.port p with wire := none, pre := none }

/-- A change of `LINK` (R405). -/
def State.linkSet (s : State) (p : Nat) (up : Bool) : State :=
  if s.portUp p = up then s
  else
    let s := (s.fset (rPt .fxPortStat p) fxPortStat_LINK (b2n up)).fset (rPt .fxPortStat p) fxPortStat_EVT 1
    if up then s.portPump p
    else ((s.setPort p { s.port p with downAt := s.now }).cutWire p |>.portPump p).report (3336 + p) .ce

/-- LINK_STATE_CHANGE (R405). -/
def execLinkStateChange (port : Nat) (up : Bool) (s : State) : Host.Outcome State Fault Refusal :=
  if port ≥ 32 then .fault .noSuchUnit
  else if up && !s.portEn port then .next s
  else .next (s.linkSet port up)

/-- FIELD_REFCLK_LOSS (R578): the sixteen ports of an I/O die lose their links. -/
def execFieldRefclkLoss (east : Bool) (s : State) : Host.Outcome State Fault Refusal :=
  .next ((List.range 16).foldl (fun a i => a.linkSet (i + 16 * b2n east) false) s)

def State.portState (s : State) (p : Nat) : Nat := s.fget (rPt .fxPortStat p) fxPortStat_STATE

/-- A failover is accepted (R406). -/
def State.mayFailover (s : State) (a : Nat) : Bool :=
  let c := s.rd (rPt .fxPortCfg a)
  let p := fld c fxPortCfg_PARTNER
  let d := s.rd (rPt .fxPortCfg p)
  s.portState a == 1 && s.fget (rPt .fxPortStat a) fxPortStat_LANEFAIL == 0 && s.portState p == 0 &&
  a / 16 == p / 16 && fld d fxPortCfg_EN == 0 && fld c fxPortCfg_SPEED == fld d fxPortCfg_SPEED &&
  fld c fxPortCfg_FEC == fld d fxPortCfg_FEC

/-- The failover of port a to its partner lane, or its refusal. -/
def State.failover (s : State) (a : Nat) : State × Bool :=
  let st := rPt .fxPortStat a
  if !s.mayFailover a then (s.fset st fxPortStat_ERR 1, true)
  else
    let p := s.fget (rPt .fxPortCfg a) fxPortCfg_PARTNER
    let s := s.cutWire a
    let s := ((s.fset st fxPortStat_LANE p).fset st fxPortStat_LANEFAIL 1).fset st fxPortStat_EVT 1
    ((s.fset (rPt .fxPortStat p) fxPortStat_STATE 2).report (3336 + a) .uc 1, false)

/-- AUTO_FAILOVER (R406): 100 µs after the loss of link. -/
def execAutoFailover (port : Nat) (s : State) : Host.Outcome State Fault Refusal :=
  if port ≥ 32 then .fault .noSuchUnit
  else if s.portUp port || !s.portEn port || s.fget (rPt .fxPortCfg port) fxPortCfg_AUTOFO == 0 ||
      s.fget (rPt .fxPortStat port) fxPortStat_LANEFAIL == 1 || decide (s.now < (s.port port).downAt + 20000) then .next s
  else .next (s.failover port).1

/-- A launch of the port falls due within a time. -/
def State.launchWithin (s : State) (p ns : Nat) : Bool :=
  (s.portQs p).any (fun q => (s.jobs q).any (fun j =>
    j.lt && !j.late && j.st != .wire && j.st != .done && j.st != .fetch && decide (j.launch ≤ s.ct.toNat + ns)))

/-- RESTORE_SWITCH (R533). -/
def execRestoreSwitch (port : Nat) (s : State) : Host.Outcome State Fault Refusal :=
  if port ≥ 32 then .fault .noSuchUnit
  else
    let s := (s.portQs port).foldl State.endWire s
    let x := s.port port
    match x.restore with
    | none => .next s
    | some t =>
      if s.now < t + 20000000 ∨ x.wire.isSome ∨ s.launchWithin port 1000 then .next s
      else
        let st := rPt .fxPortStat port
        let lane := s.fget st fxPortStat_LANE
        let s := (s.setPort port { x with restore := none }).fset (rPt .fxPortStat lane) fxPortStat_STATE 0
        let s := (s.fset st fxPortStat_LANE port).fset st fxPortStat_LANEFAIL 0
        .next ((s.linkSet port true).fset st fxPortStat_EVT 1)

/-- A write of `FX_PORT_STAT` (R406, R533). -/
def State.wPortStat (s : State) (w : WriteReq) (r : Reg) (ok : Fld → Bool) : State × Bool :=
  let cmd := if ok fxPortStat_CMD then fld (s.off w r) fxPortStat_CMD else 0
  let s := s.plain w r ok
  match cmd with
  | 1 => s.failover r.i
  | 2 =>
    if s.fget r fxPortStat_LANEFAIL = 1 ∧ (s.port r.i).restore.isNone then
      (s.setPort r.i { s.port r.i with restore := some s.now }, false)
    else (s.fset r fxPortStat_ERR 1, true)
  | _ => (s, false)

/-- The fields that accept writes only while the port is off (R437). -/
def portLocked : List Fld :=
  [fxPortCfg_SPEED, fxPortCfg_FEC, fxPortCfg_PREEMPT, fxPortCfg_VERIFYDIS, fxPortCfg_PMASK, fxPortCfg_PARTNER]

/-- A write of `FX_PORT_CFG`: ignored while the lane is lent. -/
def State.wPortCfg (s : State) (w : WriteReq) (r : Reg) (ok : Fld → Bool) : State × Bool :=
  if s.portState r.i = 2 then (s, true)
  else
    let was := s.portEn r.i
    let bad := was && portLocked.any (fun f => ok f && fld (s.off w r) f != s.fget r f)
    let s := if was then s.plainBut w r ok portLocked else s.plain w r ok
    let s := if bad then s.fset (rPt .fxPortStat r.i) fxPortStat_ERR 1 else s
    let s :=
      if was && !s.portEn r.i then (s.linkSet r.i false).fset (rPt .fxPortStat r.i) fxPortStat_STATE 0
      else if !was && s.portEn r.i then s.fset (rPt .fxPortStat r.i) fxPortStat_STATE 1
      else s
    (s.portPump r.i, bad)

/-- A write of another register of a port: ignored while the lane is lent (R406). -/
def State.wPortReg (s : State) (w : WriteReq) (r : Reg) (ok : Fld → Bool) : State × Bool :=
  if s.portState r.i = 2 then (s, true) else (s.plain w r ok, false)

/-- PREEMPT_VERIFY (R424). -/
def execPreemptVerify (port : Nat) (ok : Bool) (s : State) : Host.Outcome State Fault Refusal :=
  if port ≥ 32 then .fault .noSuchUnit
  else if ok && s.portUp port && s.fget (rPt .fxPortCfg port) fxPortCfg_PREEMPT == 1 &&
      s.fget (rPt .fxPortCfg port) fxPortCfg_VERIFYDIS == 0 then
    .next (s.fset (rPt .fxPortStat port) fxPortStat_VERIFIED 1)
  else .next s

/-! Gates (R423, R428). -/

/-- The entry in force at an offset in the cycle: the last one stays in force until the cycle ends. -/
def entryAt : List (Nat × Nat × Nat) → Nat → Option (Nat × Nat × Nat)
  | [], _ => none
  | [e], _ => some e
  | e :: r, off => if off < e.2.2 then some e else entryAt r (off - e.2.2)

/-- Offsets below the cycle's end at which an entry begins that closes class t. -/
def closings (t cycle : Nat) : List (Nat × Nat × Nat) → Nat → List Nat
  | [], _ => []
  | e :: r, off =>
    if cycle ≤ off then []
    else (if bit e.1 t then [] else [off]) ++ closings t cycle r (off + e.2.2)

/-- Offset of CT in the port's cycle. -/
def FxPort.offset (x : FxPort) (ct : Nat) : Nat := (ct - x.opFrom) % x.opCycle

/-- Time until the gate of class t closes, if it ever does. -/
def FxPort.untilClose (x : FxPort) (ct t : Nat) : Option Nat :=
  if x.opl.isEmpty ∨ x.opCycle = 0 then none
  else
    let cs := closings t x.opCycle x.opl 0
    let ds := if ct < x.opFrom then cs.map (fun o => x.opFrom - ct + o)
      else cs.map (fun o => (o + x.opCycle - x.offset ct - 1) % x.opCycle + 1)
    ds.min?

/-- Gates do apply on the port. -/
def State.gated (s : State) (p : Nat) : Bool := s.fget (rPt .fxQbvCtl p) fxQbvCtl_EN == 1

/-- GATE_CHANGE (R423): the entry in force at the present CT takes effect. -/
def execGateChange (port : Nat) (s : State) : Host.Outcome State Fault Refusal :=
  if port ≥ 32 then .fault .noSuchUnit
  else
    let x := s.port port
    let ct := s.ct.toNat
    if x.opl.isEmpty ∨ x.opCycle = 0 ∨ ct < x.opFrom then .next s
    else
      match entryAt x.opl (x.offset ct) with
      | none => .next s
      | some (g, op, _) =>
        .next (s.setPort port { x with gates := g, hold := if op = 1 then true else if op = 2 then false else x.hold })

/-- The first time BASE + k·CYCLE, k ≥ 0, at or after a time. -/
def nextCycle (base cycle t : Nat) : Nat := if t ≤ base then base else base + (t - base + cycle - 1) / cycle * cycle

/-- The admin list of a port. -/
def State.adminList (s : State) (p : Nat) : List (Nat × Nat × Nat) :=
  (List.range (s.fget (rPt .fxQbvCtl p) fxQbvCtl_ALEN)).map (fun i =>
    let e := s.rd ⟨.fxQbvEnt, p, i⟩
    (fld e fxQbvEnt_GATES, fld e fxQbvEnt_OP, fld e fxQbvEnt_INTERVAL))

/-- A write of `FX_QBV_CTL` (R423). -/
def State.wQbvCtl (s : State) (w : WriteReq) (r : Reg) (ok : Fld → Bool) : State × Bool :=
  if s.portState r.i = 2 then (s, true)
  else
    let commit := ok fxQbvCtl_COMMIT && fld (s.off w r) fxQbvCtl_COMMIT == 1
    let s := s.plain w r ok
    if !commit then (s, false)
    else
      let l := s.adminList r.i
      let cycle := s.fget (rPt .fxQbvCycle r.i) fxQbvCycle_CYCLE
      if l.isEmpty || cycle == 0 || l.any (fun e => e.2.2 == 0 || e.2.1 == 3) || s.fget r fxQbvCtl_PENDING == 1 then
        (s.fset r fxQbvCtl_ERR 1, true)
      else
        let at_ := nextCycle (s.rd (rPt .fxQbvBase r.i)).toNat cycle (s.ct.toNat + 1000)
        ((s.fset r fxQbvCtl_PENDING 1).setPort r.i { s.port r.i with commitAt := at_ }, false)

/-- GCL_ACTIVATE (R423): the admin list, `BASE` and `CYCLE` become operational. -/
def execGclActivate (port : Nat) (s : State) : Host.Outcome State Fault Refusal :=
  if port ≥ 32 then .fault .noSuchUnit
  else
    let r := rPt .fxQbvCtl port
    let x := s.port port
    if s.fget r fxQbvCtl_PENDING = 0 ∨ s.ct.toNat < x.commitAt then .next s
    else
      let l := s.adminList port
      let x := { x with opl := l, opBase := (s.rd (rPt .fxQbvBase port)).toNat
                        opCycle := s.fget (rPt .fxQbvCycle port) fxQbvCycle_CYCLE, opFrom := x.commitAt }
      execGateChange port ((s.setPort port x).fset r fxQbvCtl_PENDING 0 |>.fset r fxQbvCtl_OLEN l.length)

/-- What a launch-time frame that is late comes to (R427). -/
def State.judgeLate (s : State) (q : Nat) (j : FxJob) : State :=
  let s := s.finc (rPt .fxPortCnt (s.qPort q)) fxPortCnt_LATE
  if j.lateact = 0 then s.endJob q j.idx 2 else s.modJob q j.idx (fun j => { j with late := true })

/-- A launch that is still to come. -/
def FxJob.pendingLaunch (j : FxJob) : Bool :=
  j.lt && !j.late && (j.st == .fetched || j.st == .reading || j.st == .ready)

/-- A step of CT acts on Field Exchange (R428). -/
def State.fxCtStep (s : State) : State :=
  let ct := s.ct.toNat
  let s := (s.fxq.map (·.1)).foldl (fun a q =>
    ((a.jobs q).filter (fun j => j.pendingLaunch && decide (j.launch ≤ ct))).foldl (fun b j => b.judgeLate q j) a) s
  { s with fxp := s.fxp.map (fun (e : Nat × FxPort) =>
      if e.2.opCycle = 0 then e else (e.1, { e.2 with opFrom := nextCycle e.2.opBase e.2.opCycle ct })) }

/-! Transmission (R422, R424–R427). -/

/-- Bits per nanosecond of a port. -/
def State.rate (s : State) (p : Nat) : Nat := if s.fget (rPt .fxPortCfg p) fxPortCfg_SPEED = 1 then 25 else 10

/-- Time in ns that `n` bytes take on a port's wire, rounded up. -/
def State.wireNs (s : State) (p n : Nat) : Nat := (8 * n + s.rate p - 1) / s.rate p

/-- Time of a frame with preamble, SFD and FCS, and with the interframe gap. -/
def State.frameNs (s : State) (p : Nat) (j : FxJob) : Nat := s.wireNs p (j.flen + 12)
def State.slotNs (s : State) (p : Nat) (j : FxJob) : Nat := s.wireNs p (j.flen + 24)

/-- Preemption is in use (R424). -/
def State.preempting (s : State) (p : Nat) : Bool :=
  s.fget (rPt .fxPortCfg p) fxPortCfg_PREEMPT == 1 &&
  (s.fget (rPt .fxPortStat p) fxPortStat_VERIFIED == 1 || s.fget (rPt .fxPortCfg p) fxPortCfg_VERIFYDIS == 1)

def State.qTc (s : State) (q : Nat) : Nat := s.fget (rQ .fxQCfg q) fxQCfg_TC

/-- Frames of the queue may be preempted. -/
def State.preemptable (s : State) (q : Nat) : Bool :=
  let p := s.qPort q
  s.preempting p && bit (s.fget (rPt .fxPortCfg p) fxPortCfg_PMASK) (s.qTc q)

/-- The frame of a queue that is next in ring order, if it is ready and the completion ring has room (R414, R422). -/
def State.headReady (s : State) (q : Nat) : Option FxJob :=
  match (s.jobs q).find? (fun j => j.st != .done && !(j.st == .wire && decide (j.endAt ≤ s.now))) with
  | some j => if j.st == .ready && !s.ringFull q then some j else none
  | none => none

/-- The wire of the port in the present cycle: free, or taken by the frame of a queue, or by a safe frame. -/
def State.wireJob (s : State) (p : Nat) : Option (Nat × FxJob) :=
  match (s.port p).wire with
  | none => none
  | some q => ((s.jobs q).find? (fun j => j.st == .wire && decide (s.now < j.endAt))).map (fun j => (q, j))

/-- A launch-time frame whose time has come: the earliest, then the lowest queue (R422, R427). -/
def State.launchPick (s : State) (p : Nat) : Option (Nat × FxJob) :=
  ((s.portQs p).filterMap (fun q => match s.headReady q with
    | some j => if j.lt && !j.late && decide (j.launch ≤ s.ct.toNat + 5) then some (q, j) else none
    | none => none)).foldl (fun best x => match best with
      | none => some x
      | some y => if x.2.launch < y.2.launch then some x else some y) none

/-- Nothing else may be on the wire at the next pending launch (R422, R425). -/
def State.beforeLaunch (s : State) (p ns : Nat) : Bool :=
  (s.portQs p).all (fun q => (s.jobs q).all (fun j =>
    !j.pendingLaunch || decide (s.ct.toNat + ns ≤ j.launch) || decide (j.launch + 5 < s.ct.toNat)))

/-- An ordinary frame of a queue may start now. -/
def State.mayStart (s : State) (p q : Nat) (j : FxJob) : Bool :=
  let t := s.qTc q
  let x := s.port p
  let ns := s.slotNs p j
  let open_ := !s.gated p || bit x.gates t
  let fits := (!s.gated p || (match x.untilClose s.ct.toNat t with
    | some d => decide (ns ≤ d)
    | none => true)) && s.beforeLaunch p ns
  !(j.lt && !j.late) && open_ && (if s.preemptable q then !x.hold else fits)

/-- Among the ready ordinary frames, the highest class, then round robin (R422). -/
def State.ordinaryPick (s : State) (p : Nat) : Option (Nat × FxJob) :=
  let c := (s.portQs p).filterMap (fun q => match s.headReady q with
    | some j => if s.mayStart p q j then some (q, j) else none
    | none => none)
  let turn := fun (q : Nat) => (q + 4096 - tget 4095 (s.port p).rr (s.qTc q) - 1) % 4096
  c.foldl (fun best x => match best with
    | none => some x
    | some y =>
      if s.qTc x.1 > s.qTc y.1 ∨ (s.qTc x.1 = s.qTc y.1 ∧ turn x.1 < turn y.1) then some x else some y) none

/-- A timestamp within ±5 ns of a time (R407). -/
def State.stamp (s : State) (t : Nat) : State × Word := (s.draw, BitVec.ofNat 64 (t + freeFx s.draws % 11) - 5)

/-- Puts a frame on the wire: `low` is the preemptable frame that it interrupts. -/
def State.startFrame (s : State) (p q : Nat) (j : FxJob) (low : Option (Nat × FxJob)) : State :=
  let ticks := (s.frameNs p j + 4) / 5
  let t := if j.lt && !j.late then j.launch else s.ct.toNat + s.wireNs p 8
  let (s, ts) := s.stamp t
  let s := match low with
    | some (q', j') => s.modJob q' j'.idx (fun x => { x with endAt := x.endAt + (s.slotNs p j + 4) / 5 })
    | none => s
  let s := s.modJob q j.idx (fun j => { j with st := .wire, ts := ts, endAt := s.now + ticks })
  let x := s.port p
  s.setPort p { x with wire := some q, pre := low.map (·.1), rr := tput x.rr (s.qTc q) q }

/-- FRAME_START (R422): the port starts one frame. -/
def execFrameStart (port : Nat) (s : State) : Host.Outcome State Fault Refusal :=
  if port ≥ 32 then .fault .noSuchUnit
  else if !s.portEn port || !s.portUp port || s.inSafe || decide (s.now < (s.port port).busyTill) then .next s
  else
    match s.wireJob port with
    | none =>
      match (s.launchPick port).or (s.ordinaryPick port) with
      | some (q, j) => .next (s.startFrame port q j none)
      | none => .next s
    | some (q', j') =>
      if (s.port port).pre.isSome || !s.preemptable q' then .next s
      else
        match (s.launchPick port).or (s.ordinaryPick port) with
        | some (q, j) =>
          if q = q' ∨ (s.preemptable q ∧ !(j.lt ∧ !j.late)) then .next s
          else .next (s.startFrame port q j (some (q', j')))
        | none => .next s

/-- The time at which a launch-time frame leaves the wire free. -/
def State.launchEnd (s : State) (q : Nat) (j : FxJob) : Nat := j.launch + s.frameNs (s.qPort q) j

/-- Another launch-time frame of the port goes first and would still be on the wire (R427). -/
def State.launchClash (s : State) (q : Nat) (j : FxJob) : Bool :=
  (s.portQs (s.qPort q)).any (fun q' => (s.jobs q').any (fun k =>
    k.lt && !k.late && (k.st == .ready || k.st == .wire) && !(q' == q && k.idx == j.idx) &&
    decide (k.launch < j.launch ∨ (k.launch = j.launch ∧ q' < q)) && decide (j.launch < s.launchEnd q' k)))

/-- LAUNCH_DEADLINE (R427): at LAUNCH − 160 ns the first launch-time frame of the queue is judged. -/
def execLaunchDeadline (q : Nat) (s : State) : Host.Outcome State Fault Refusal :=
  if q ≥ 4096 then .fault .noSuchUnit
  else
    let s := s.endWire q
    match (s.jobs q).find? (fun j => j.pendingLaunch && decide (j.launch ≤ s.ct.toNat + 160)) with
    | none => .next s
    | some j =>
      let earlier := ((s.jobs q).takeWhile (fun k => k.idx != j.idx)).any (fun k => k.st != .done)
      if j.st != .ready || earlier || s.launchClash q j then .next (s.judgeLate q j) else .next s

/-! Reception (R404, R429–R431). -/

/-- The big-endian number in some bytes. -/
def beNat (l : List Byte) : Nat := l.foldl (fun a b => a * 256 + b.toNat) 0

/-- The `n` bytes at an offset, big-endian. -/
def beAt (l : List Byte) (off n : Nat) : Nat := beNat ((l.drop off).take n)

/-- The key fields of a frame (R429). -/
structure FxKey where
  port : Nat
  dmac : Nat
  smac : Nat
  vid : Nat
  etype : Nat
  sid : Option Nat
  deriving DecidableEq, Repr

/-- The key of a frame of a port; a MAC address is its six bytes as one big-endian number. -/
def keyOf (port sidoff : Nat) (l : List Byte) : FxKey :=
  let t := beAt l 12 2
  let tagged := t == 0x8100 || t == 0x88A8
  let e := if tagged then 16 else 12
  let o := e + 2 + sidoff
  { port := port, dmac := beAt l 0 6, smac := beAt l 6 6, vid := if tagged then beAt l 14 2 % 4096 else 0
    etype := beAt l e 2, sid := if o + 2 ≤ l.length then some (beAt l o 2) else none }

/-- A classifier entry matches (R430). -/
def State.clsMatch (s : State) (i : Nat) (k : FxKey) : Bool :=
  let k0 := s.rd ⟨.fxClsKey0, i, 0⟩
  let k1 := s.rd ⟨.fxClsKey1, i, 0⟩
  let p := s.rd ⟨.fxClsProf, fld k1 fxClsKey1_PROF, 0⟩
  fld p fxClsProf_EN == 1 &&
  (fld p fxClsProf_PORT == 0 || k.port == fld k1 fxClsKey1_PORT) &&
  (match fld p fxClsProf_MACSEL with
   | 1 => k.dmac == fld k0 fxClsKey0_MAC
   | 2 => k.smac == fld k0 fxClsKey0_MAC
   | _ => true) &&
  (fld p fxClsProf_VID == 0 || k.vid == fld k0 fxClsKey0_VID) &&
  (fld p fxClsProf_ETYPE == 0 || k.etype == fld k1 fxClsKey1_ETYPE) &&
  (fld p fxClsProf_SID == 0 || k.sid == some (fld k1 fxClsKey1_SID))

/-- The entry that wins: the lowest profile, then the lowest index. -/
def State.clsFind (s : State) (k : FxKey) : Option Nat :=
  let hits := ((s.regs.filter (fun e => e.1.name == .fxClsAct && fld e.2 fxClsAct_V == 1)).map (·.1.i)).filter (s.clsMatch · k)
  let rank := fun (i : Nat) => s.fget ⟨.fxClsKey1, i, 0⟩ fxClsKey1_PROF * 16384 + i
  hits.foldl (fun best i => match best with
    | none => some i
    | some j => if rank i < rank j then some i else some j) none

/-- FRAME_RECEIVE (R404): `bytes` is the frame without its FCS. -/
def execFrameReceive (port : Nat) (bytes : List Byte) (fcsOk : Bool) (s : State) : Host.Outcome State Fault Refusal :=
  if port ≥ 32 then .fault .noSuchUnit
  else if !s.portUp port then .next s
  else
    let n := bytes.length
    if !fcsOk || decide (n < 60 ∨ 9212 < n) || beAt bytes 12 2 == 0x8808 then
      .next (s.finc (rPt .fxPortCnt port) fxPortCnt_RXDROP)
    else
      let (s, ts) := s.stamp s.ct.toNat
      let x := s.port port
      .next (s.setPort port { x with rx := x.rx ++ [⟨bytes, ts⟩] })

/-- A frame is dropped, and counted against the queue it was steered to (R431). -/
def State.rxDrop (s : State) (port : Nat) (q : Option Nat) : State :=
  let s := s.finc (rPt .fxPortCnt port) fxPortCnt_RXDROP
  match q with
  | some q => s.finc (rQ .fxQErr q) fxQErr_NODESC
  | none => s

/-- A frame goes to a queue (R413, R431, R446). -/
def State.steer (s : State) (port q cls : Nat) (clsv : Bool) (f : RxFrame) : State :=
  let h := s.qHead q
  if !s.qRx q || s.qState q != 1 || s.inSafe || h == s.qTail q || s.ringFull q then s.rxDrop port (some q)
  else
    let gen := s.fnGen ((s.fnOfQueue q).getD 0)
    let j : FxJob := { idx := h, gen := gen, asked := false, frame := f.bytes, flen := f.bytes.length, tsv := true, ts := f.ts
                       port := port, cls := cls, clsv := clsv }
    ((s.setJobs q (s.jobs q ++ [j])).fset (rQ .fxQPtr q) fxQPtr_HEAD ((h + 1) % s.qSize q)).fxPump q

/-- CLASSIFIER_LOOKUP (R430, R431). -/
def execClassifierLookup (port : Nat) (s : State) : Host.Outcome State Fault Refusal :=
  if port ≥ 32 then .fault .noSuchUnit
  else
    let x := s.port port
    match x.rx with
    | [] => .next s
    | f :: rest =>
      let s := s.setPort port { x with rx := rest }
      let c := s.rd (rPt .fxPortCfg port)
      match s.clsFind (keyOf port (fld c fxPortCfg_SIDOFF) f.bytes) with
      | some i =>
        let r : Reg := ⟨.fxClsAct, i, 0⟩
        let s := s.fset r fxClsAct_HITS (s.fget r fxClsAct_HITS + 1)
        .next (s.steer port (s.fget r fxClsAct_QUEUE) i true f)
      | none =>
        if fld c fxPortCfg_DEFQEN = 1 then .next (s.steer port (fld c fxPortCfg_DEFQ) 0 false f)
        else .next (s.rxDrop port none)

/-! Classifier registers (R432). -/

def rClsAct (i : Nat) : Reg := ⟨.fxClsAct, i, 0⟩

/-- A write of `FX_CLS_KEY0` or `FX_CLS_KEY1`. -/
def State.wClsKey (s : State) (w : WriteReq) (r : Reg) (ok : Fld → Bool) : State × Bool :=
  if !(fields r.name).any ok then (s, true)
  else if s.fget (rClsAct r.i) fxClsAct_V = 0 then (s.plain w r ok, false)
  else (s.fset (rClsAct r.i) fxClsAct_ERR 1, true)

/-- A write of `FX_CLS_ACT`. -/
def State.wClsAct (s : State) (w : WriteReq) (r : Reg) (ok : Fld → Bool) : State × Bool :=
  if !(fields r.name).any ok then (s, true)
  else
    let new := s.merged r ok w.val w.mask
    let q := fld new fxClsAct_QUEUE
    if fld new fxClsAct_V = 1 ∧ (s.fnOfQueue q ≠ some (fld new fxClsAct_FN) ∨ !s.qRx q) then (s.fset r fxClsAct_ERR 1, true)
    else (s.wr r new, false)

/-- A write of `FX_CLS_PROF`. -/
def State.wClsProf (s : State) (w : WriteReq) (r : Reg) (ok : Fld → Bool) : State × Bool :=
  let used := s.regs.any (fun e => e.1.name == .fxClsAct && fld e.2 fxClsAct_V == 1 &&
    s.fget ⟨.fxClsKey1, e.1.i, 0⟩ fxClsKey1_PROF == r.i)
  if used then (s.fset r fxClsProf_ERR 1, true) else (s.plain w r ok, false)

/-! Safe frames (R433). -/

/-- Every port reacts to the safe state. -/
def State.fxSafe (s : State) : State :=
  (List.range 32).foldl (fun a p =>
    let c := a.rd (rPt .fxPsafeCtl p)
    if fld c fxPsafeCtl_EN = 1 ∧ a.portUp p then
      a.setPort p { a.port p with safeOn := true, safeLeft := fld c fxPsafeCtl_REPEAT, safeNext := a.now }
    else a) s

/-- The stored safe frame of a port. -/
def State.safeFrame (s : State) (p : Nat) : List Byte :=
  ((List.range 32).flatMap (fun i => (List.range 8).map (fun b =>
    ((s.rd ⟨.fxPsafeData, p, i⟩ >>> (8 * b)).setWidth 8 : Byte)))).take (s.fget (rPt .fxPsafeCtl p) fxPsafeCtl_LEN)

/-- SAFE_FRAME_REPEAT (R433): the next copy leaves once it is due and the wire is free. -/
def execSafeFrameRepeat (port : Nat) (s : State) : Host.Outcome State Fault Refusal :=
  if port ≥ 32 then .fault .noSuchUnit
  else
    let x := s.port port
    if !x.safeOn || !s.portUp port || (s.wireJob port).isSome || decide (s.now < x.safeNext) || decide (s.now < x.busyTill) then
      .next s
    else
      let f := s.safeFrame port
      let left := x.safeLeft - 1
      let gap := s.fget (rPt .fxPsafeCtl port) fxPsafeCtl_GAP
      let s := s.setPort port { x with safeLeft := left, safeOn := decide (0 < left), safeNext := s.now + 200 * gap
                                       busyTill := s.now + (s.wireNs port (f.length + 24) + 4) / 5 }
      let s := { s with out := s.out ++ [OutMsg.frame (s.laneOf port) f] }.fset (rPt .fxPortCnt port) fxPortCnt_TXFRM
        (s.fget (rPt .fxPortCnt port) fxPortCnt_TXFRM + 1)
      .next (if left = 0 then s.fset (rPt .fxPsafeCtl port) fxPsafeCtl_SENT 1 else s)

end Sys2Proof.Machine
end

