-- ==== Sys2Proof/Machine/SpRp.lean ====
section
/-! DEFINITION. The Supervisor Port function and the root ports: configuration spaces, outbound and inbound requests,
hot-plug, containment (R457–R487). Where R457 and R471 name a PCI Express structure and give no offsets, the capability
chain is log entry 40. -/

namespace Sys2Proof.Machine

/-! Configuration images. -/

/-- A root port's image (R471). -/
def rpDw (dw : Nat) : ImgDw :=
  match dw with
  | 0x00 => ⟨rpIdent 0, 0, 0⟩
  | 0x02 => ⟨0x06040000 ||| (rpIdent 2 &&& 0xFF), 0, 0⟩
  | 0x03 => ⟨0x00010000, 0x000000FF, 0⟩
  | 0x06 => ⟨0, 0x00FFFF00, 0⟩
  | 0x07 => ⟨0, 0, 0xF9000000⟩
  | 0x08 => ⟨0, 0xFFF0FFF0, 0⟩
  | 0x09 => ⟨0x00010001, 0xFFF0FFF0, 0⟩
  | 0x0A => ⟨0, 0xFFFFFFFF, 0⟩
  | 0x0B => ⟨0, 0xFFFFFFFF, 0⟩
  | 0x0F => ⟨0x00000100, 0x005F00FF, 0⟩
  | 0x10 => ⟨0x01420010, 0, 0⟩
  | 0x11 => ⟨0x00008002, 0, 0⟩
  | 0x12 => ⟨0x00002810, 0x00007FFF, 0x000F0000⟩
  | 0x13 => ⟨0x00180045, 0, 0⟩
  | 0x15 => ⟨0x0000005B, 0, 0⟩
  | 0x16 => ⟨0x000003C0, 0x000017FF, 0x011F0000⟩
  | 0x17 => ⟨0x00010000, 0x0000001F, 0⟩
  | 0x18 => ⟨0, 0, 0x00010000⟩
  | 0x19 => ⟨0x0000002F, 0, 0⟩
  | 0x1A => ⟨0, 0x0000002F, 0⟩
  | 0x40 => ⟨0x14820001, 0, 0⟩
  | 0x4B => ⟨0, 0x00000007, 0⟩
  | 0x4C => ⟨0, 0, 0x0000007F⟩
  | 0x52 => ⟨0x1581001D, 0, 0⟩
  | 0x53 => ⟨0, 0x00FF0000, 0⟩
  | 0x54 => ⟨0, 0, 0x00000009⟩
  | n => imgCommon n

def State.img (s : State) (k dw : Nat) : BitVec 32 := tget (rpDw dw).val s.rpImg (k, dw)
def State.setImg (s : State) (k dw : Nat) (v : BitVec 32) : State := { s with rpImg := tput s.rpImg (k, dw) v }
def State.imgBit (s : State) (k dw i : Nat) : Bool := (s.img k dw).getLsbD i
/-- The hardware sets or clears a bit. -/
def State.imgSet (s : State) (k dw i : Nat) (b : Bool) : State :=
  if b then
    let t := s.setImg k dw (s.img k dw ||| (1 <<< i))
    if (rpDw dw).w1c.getLsbD i then t.imgIn k dw (1 <<< i) else t
  else s.setImg k dw (s.img k dw &&& ~~~((1#32) <<< i))

/-- A write of `SP_HINTSET` (R467). -/
def State.wHintset (s : State) (w : WriteReq) (_r : Reg) (ok : Fld → Bool) : State × Bool :=
  if !ok spHintset_SET then (s, true)
  else
    let set := BitVec.ofNat 64 (fld (w.val &&& w.mask) spHintset_SET)
    (((s.wr (rSp .spHint) (s.rd (rSp .spHint) ||| set)).setIn (rSp .spHint) set).spNotify s, false)

/-- SP_LINK_RESET (R465). -/
def execSpLinkReset (kind : SpReset) (s : State) : Host.Outcome State Fault Refusal :=
  .next (s.spReset (kind == .linkDown))

/-- SP_PERST (R569): while nSPPERST is low the function is held in the state of R465. -/
def execSpPerst (level : Bool) (s : State) : Host.Outcome State Fault Refusal :=
  if level then .next { s with spPerst := false }
  else if s.spPerst then .next s
  else .next { s.spReset (s.fget (rSp .spStat) spStat_LINK == 1) with spPerst := true }

/-- SP_LINK_UP (R485). -/
def execSpLinkUp (width speed : Nat) (s : State) : Host.Outcome State Fault Refusal :=
  if width ≥ 4 ∨ speed ≥ 5 then .fault .noSuchUnit
  else if s.spPerst || s.fget (rSp .spStat) spStat_LINK == 1 then .next s
  else .next ((((s.fset (rSp .spStat) spStat_LINK 1).fset (rSp .spStat) spStat_WIDTH width).fset (rSp .spStat) spStat_SPEED
    speed).fset (rSp .spStat) spStat_EVT 1)

/-! Windows (R461–R463). -/

/-- Two of the enabled shadows overlap. -/
def State.winOverlap (s : State) : Bool :=
  (List.range 16).any (fun i => (List.range 16).any (fun j =>
    let a := s.rd (rWinCfg i)
    let b := s.rd (rWinCfg j)
    decide (i < j) && winEn a && winEn b && overlap (winBase a) (winSize a) (winBase b) (winSize b)))

/-- A write of `SP_WIN_CFG[w]`: a `BASE` that is not aligned to the size is a reserved encoding (R462). -/
def State.wWinCfg (s : State) (w : WriteReq) (r : Reg) (ok : Fld → Bool) : State × Bool :=
  let new := s.merged r ok w.val w.mask
  if winBase new % winSize new = 0 then (s.wr r new, false) else (s.plainBut w r ok [spWinCfg_BASE], false)

/-- A write of `SP_WIN_TGT[w]`: a `TGT` that is not aligned to the size is a reserved encoding (R462). -/
def State.wWinTgt (s : State) (w : WriteReq) (r : Reg) (ok : Fld → Bool) : State × Bool :=
  if fld (s.off w r) spWinTgt_TGT * 4096 % winSize (s.rd (rWinCfg r.i)) = 0 then (s.plain w r ok, false) else (s, false)

/-- A write of `SP_WCTL` (R463). The stream of the model's requests is always at a TLP boundary, so a commit of overlapping
windows ends at once. -/
def State.wWctl (s : State) (w : WriteReq) (r : Reg) (ok : Fld → Bool) : State × Bool :=
  let commit := ok spWctl_COMMIT && fld (s.off w r) spWctl_COMMIT == 1
  let s := s.plain w r ok
  if !commit then (s, false)
  else if s.fget r spWctl_BUSY = 1 then (s.fset r spWctl_REFUSED 1, true)
  else if s.winOverlap then (s.fset r spWctl_OVERLAP 1, true)
  else (s.fset r spWctl_BUSY 1, false)

/-! Root ports: state. -/

def rRp (n : RegName) (k : Nat) : Reg := ⟨n, k, 0⟩
def State.contained (s : State) (k : Nat) : Bool := s.fget (rRp .rpStat k) rpStat_CONT == 1
def State.linkActive (s : State) (k : Nat) : Bool := tget false s.rpUp k

/-- AER status of a root port and its Firebreak record (R474, R481). -/
def State.rpAer (s : State) (k bit : Nat) : State := s.imgSet k 0x41 bit true
def State.rpReport (s : State) (k : Nat) (cls : FbClass) : State := s.report (3373 + k) cls

/-- The hot-plug line of a port (R478). -/
def State.rpHot (s : State) (k : Nat) : State :=
  let ctl := s.img k 0x16
  let on := ctl.getLsbD 5 && ((ctl.getLsbD 0 && ctl.getLsbD 16) || (ctl.getLsbD 3 && ctl.getLsbD 19) ||
    (ctl.getLsbD 12 && ctl.getLsbD 24))
  { s with hotPlug := tput s.hotPlug k on }

/-! Answers (R305). -/

/-- Who asked is a core, or JTAG debug access on behalf of one: the answer goes as a message. -/
def Msg.fromCore (m : Msg) : Bool := (coreOfAgent m.src).isSome || m.src == 0x850

/-- The answer to an uncached read. -/
def State.ncGive (s : State) (m : Msg) (d : Line) (ep : Bool) : State :=
  s.send { s.ncAnswer m .ncData with data := d, poison := if ep then 15 else 0 }

/-- The error answer: 1 refusal, 2 unpopulated, 3 completer abort. A posted write has none. -/
def State.ncFail (s : State) (m : Msg) (status : Nat) : State :=
  if m.opc = .ncWriteP then s.ioPeerDone m.aux true 0 false
  else s.send { s.ncAnswer m .ncErr with status := status }

/-- A write has been performed: a Device-Ordered one is acknowledged; a posted one of an I/O agent has been accepted (R464). -/
def State.ncDone (s : State) (m : Msg) : State :=
  if m.opc = .ncWriteO then s.send (s.ncAnswer m .ncAck)
  else if m.fromCore then s
  else s.ioPeerAccepted m.aux

/-! Outbound requests (R472–R475). -/

/-- An access while the port is contained or its link is not active. -/
def State.rpDead (s : State) (k : Nat) (m : Msg) : State :=
  let s := if tget false s.rpRep k then s else { s with rpRep := tput s.rpRep k true }.rpReport k .uc
  if m.opc = .ncRead then s.ncGive m (onesOf m.size) false else s.ncDone m

/-- The lowest tag that is free. -/
def State.rpTag (s : State) (k : Nat) : Option Nat := (List.range 256).find? (fun t => (tfind s.rpOut (k, t)).isNone)

/-- Sends a TLP: a posted write leaves; a non-posted request takes a tag. -/
def State.rpSend (s : State) (k kind addr : Nat) (m : Msg) : Option State :=
  let write := m.opc != .ncRead
  if write && kind == 0 then
    some ({ s with out := s.out ++ [OutMsg.cardReq k 0 true 0 addr m.size m.data (m.poison != 0)] }.ncDone m)
  else
    match s.rpTag k with
    | none => none
    | some t =>
      let s : State := { s with out := s.out ++ [OutMsg.cardReq k kind write t addr m.size (if write then m.data else 0)
                                                            (write && m.poison != 0)]
                                rpOut := tput s.rpOut (k, t) ⟨if write then none else some m, m.size, s.now⟩ }
      some (if write then s.ncDone m else s)

/-- A configuration access through ECAM. -/
def State.rpEcam (s : State) (k o : Nat) (m : Msg) : Option State :=
  let bus := o / 2 ^ 20
  let dev := o / 2 ^ 15 % 32
  let sec := bits (s.img k 6).toNat 8 8
  let sub := bits (s.img k 6).toNat 16 8
  let none_ := if m.opc = .ncRead then s.ncGive m (onesOf m.size) false else s.ncDone m
  if !((m.size == 1 || m.size == 2 || m.size == 4) && o % 4 + m.size ≤ 4) then
    some (if m.opc = .ncRead then s.cfgDrop.ncGive m 0 false else s.cfgDrop.ncDone m)
  else if bus = sec then
    if dev = 0 ∨ s.imgBit k 0x1A 5 then s.rpSend k 1 (o % 2 ^ 28) m else some none_
  else if sec < bus ∧ bus ≤ sub then s.rpSend k 2 (o % 2 ^ 28) m
  else some none_

/-- An access to root-port MMIO reaches its port; `none` while the port has no tag to spare. -/
def State.rpServe (s : State) (k0 off0 : Nat) (m : Msg) : Option State :=
  let (k, off) := s.rpOwner k0 off0
  if m.spec then some (s.ncFail m 1)
  else if s.contained k || !s.linkActive k then some (s.rpDead k m)
  else if 0xFFF0000000 ≤ off ∧ off < 2 ^ 40 ∧ m.fromCore then s.rpEcam k (off - 0xFFF0000000) m
  else s.rpSend k 0 off m

/-- RP_OUTBOUND_REQUEST (R472): the oldest request on the mesh for the windows of a port. -/
def execRpOutboundRequest (k : Nat) (s : State) : Host.Outcome State Fault Refusal :=
  if k ≥ 16 then .fault .noSuchUnit
  else
    let mine := fun (m : Msg) => decide (m.dst = Node.target) && (match place m.pa with
      | .rp j o => (s.rpOwner j o).1 == k
      | _ => false)
    match s.recv mine with
    | none => .next s
    | some (m, s') =>
      match place m.pa with
      | .rp j o => .next ((s'.rpServe j o m).getD s)
      | _ => .next s

/-- An outbound request is over: what a read gives. -/
def State.rpGive (s : State) (x : RpOut) (d : Line) (ep : Bool) : State :=
  match x.msg with
  | some m => s.ncGive m d ep
  | none => s

/-- RP_COMPLETION (R474). -/
def execRpCompletion (k tag : Nat) (status : RpStatus) (data : BitVec 512) (s : State) : Host.Outcome State Fault Refusal :=
  if k ≥ 16 then .fault .noSuchUnit
  else
    match tfind s.rpOut (k, tag) with
    | none => .next s
    | some x =>
      let s : State := { s with rpOut := tdel s.rpOut (k, tag) }
      let fail := fun (a : State) => match x.msg with
        | some m => a.ncFail m 3
        | none => a
      match status with
      | .ok => .next (s.rpGive x (data &&& onesOf x.size) false)
      | .ur => .next (fail ((s.rpAer k 20).rpReport k .ce))
      | .ca => .next (fail ((s.rpAer k 15).rpReport k .ce))
      | .poisoned => .next (((s.rpAer k 12).rpReport k .uc).rpGive x (data &&& onesOf x.size) true)

/-- The completion timeout of a port in CLK_PERI cycles (R475). -/
def State.rpTimeout (s : State) (k : Nat) : Nat :=
  match bits (s.img k 0x1A).toNat 0 4 with
  | 1 => 20000
  | 2 => 2000000
  | 5 => 11000000
  | 6 => 42000000
  | 9 => 180000000
  | 10 => 700000000
  | _ => 10000000

/-- COMPLETION_TIMEOUT (R474, R475): the longest outstanding request of the port. -/
def execCompletionTimeout (k : Nat) (s : State) : Host.Outcome State Fault Refusal :=
  if k ≥ 16 then .fault .noSuchUnit
  else
    let l := (s.rpOut.filter (fun e => e.1.1 == k && decide (e.2.since + s.rpTimeout k ≤ s.now))).getLast?
    match l with
    | none => .next s
    | some (kt, x) =>
      let s : State := { s with rpOut := tdel s.rpOut kt }
      .next ((((s.finc (rRp .rpStat k) rpStat_CTOCNT).rpAer k 14).rpReport k .uc).rpGive x (onesOf x.size) false)

/-! Links and containment (R478–R480). -/

/-- Every outstanding request of a port completes with all ones. -/
def State.rpFlush (s : State) (k : Nat) : State :=
  let l := s.rpOut.filter (fun e => e.1.1 == k)
  let s : State := { s with rpOut := s.rpOut.filter (fun e => e.1.1 != k) }
  l.reverse.foldl (fun a e => a.rpGive e.2 (onesOf e.2.size) false) s

/-- Data Link Layer Link Active changes. -/
def State.rpLink (s : State) (k : Nat) (up : Bool) : State :=
  if s.linkActive k = up then s
  else
    let s : State := { s with rpUp := tput s.rpUp k up, rpRep := if up then tdel s.rpRep k else s.rpRep }
    let s := ((s.imgSet k 0x14 29 up).imgSet k 0x16 24 true).rpHot k
    if up then s else s.rpFlush k

/-- A port enters containment (R479). -/
def State.contain (s : State) (k : Nat) : State :=
  if s.contained k then s else ({ s with rpRep := tdel s.rpRep k }.fset (rRp .rpStat k) rpStat_CONT 1).rpFlush k

/-- SURPRISE_DOWN (R479, R481). -/
def execSurpriseDown (k : Nat) (s : State) : Host.Outcome State Fault Refusal :=
  if k ≥ 16 then .fault .noSuchUnit
  else if !s.linkActive k then .next s
  else .next ((((s.contain k).rpLink k false).rpAer k 5).rpReport k .uc)

/-- DPC triggers: containment with the link held in Disabled (R479). -/
def State.dpc (s : State) (k : Nat) : State :=
  ((s.contain k).imgSet k 0x54 0 true).rpLink k false

/-- DPC_TRIGGER (R479): under its Trigger Enable. -/
def execDpcTrigger (k : Nat) (s : State) : Host.Outcome State Fault Refusal :=
  if k ≥ 16 then .fault .noSuchUnit
  else if bits (s.img k 0x53).toNat 16 2 = 0 ∨ s.imgBit k 0x54 0 then .next s
  else .next ((s.dpc k).rpReport k .uc)

/-- The land PWREN_k is high: slot power is on (R478). -/
def State.slotPower (s : State) (k : Nat) : Bool := !s.imgBit k 0x16 10

/-- The land nRPPERST_k is low (R569). -/
def State.rpPerstLow (s : State) (k : Nat) : Bool := s.fget (rRp .rpCtl k) rpCtl_EN == 0 || !s.slotPower k

/-- The link of a port may train: its card present and out of reset, not disabled, not held by DPC (R479, R487, R569). -/
def State.rpMayTrain (s : State) (k : Nat) : Bool :=
  !s.rpPerstLow k && !s.rpMerged k && tget false s.rpCard k && !s.imgBit k 0x14 4 && !s.imgBit k 0x0F 22 && !s.imgBit k 0x54 0

/-- RP_LINK_UP (R478). -/
def execRpLinkUp (k : Nat) (s : State) : Host.Outcome State Fault Refusal :=
  if k ≥ 16 then .fault .noSuchUnit
  else if s.rpMayTrain k then .next (s.rpLink k true)
  else .next s

/-- PRESENCE_CHANGE (R478). -/
def execPresenceChange (k : Nat) (present : Bool) (s : State) : Host.Outcome State Fault Refusal :=
  if k ≥ 16 then .fault .noSuchUnit
  else if tget false s.rpCard k = present || s.rpMerged k then .next s
  else .next ((({ s with rpCard := tput s.rpCard k present }.imgSet k 0x16 19 true).imgSet k 0x16 22 present).rpHot k)

/-- ATTENTION_BUTTON (R478). -/
def execAttentionButton (k : Nat) (s : State) : Host.Outcome State Fault Refusal :=
  if k ≥ 16 then .fault .noSuchUnit
  else if s.rpMerged k then .next s
  else .next ((s.imgSet k 0x16 16 true).rpHot k)

/-- The Completion Timeout Value encodings of R475. -/
def ctoOk (n : Nat) : Bool := [0, 1, 2, 5, 6, 9, 10].contains n

/-- A write of one doubleword of a root port's image, with what it does (R478–R480). -/
def State.imgWrite1 (s : State) (k dw : Nat) (v m : BitVec 32) : State :=
  if m = 0 then s
  else
    let old := s.img k dw
    let new := (rpDw dw).mergeNow (tget 0 s.imgNow (k, dw)) old v m
    let new := if dw = 0x1A ∧ !ctoOk (bits new.toNat 0 4) then (new &&& ~~~0xF#32) ||| (old &&& 0xF) else new
    let s := s.setImg k dw new
    if dw = 0x16 then
      let s := if m &&& 0xFFFF = 0 then s else s.imgSet k 0x16 20 true
      (if new.getLsbD 10 then s.rpLink k false else s).rpHot k
    else if (dw = 0x14 ∧ new.getLsbD 4) ∨ (dw = 0x0F ∧ new.getLsbD 22) then s.rpLink k false
    else s

/-- A write of an 8-byte location of the image. -/
def State.wImg (s : State) (k dw : Nat) (w : WriteReq) : State :=
  (s.imgWrite1 k dw (w.val.setWidth 32) (w.mask.setWidth 32)).imgWrite1 k (dw + 1) ((w.val >>> 32).setWidth 32)
    ((w.mask >>> 32).setWidth 32)

/-- An 8-byte location of the image. -/
def State.imgRead (s : State) (k dw : Nat) : Word := (s.img k dw).setWidth 64 ||| ((s.img k (dw + 1)).setWidth 64 <<< 32)

/-! Register writes. -/

/-- A write of `RP_STAT` (R480). -/
def State.wRpStat (s : State) (w : WriteReq) (r : Reg) (ok : Fld → Bool) : State × Bool :=
  let end_ := ok rpStat_CONT && fld (w.val &&& w.mask) rpStat_CONT == 1 && fld (tget 0 s.setNow r) rpStat_CONT == 0
  let s := s.plainBut w r ok [rpStat_CONT]
  if !end_ then (s, false)
  else if s.imgBit r.i 0x54 0 then (s.fset r rpStat_ERR 1, true)
  else ({ s.fset r rpStat_CONT 0 with rpRep := tdel s.rpRep r.i }, false)

/-- A write of `RP_BIFUR[g]` (R470). -/
def State.wBifur (s : State) (w : WriteReq) (r : Reg) (ok : Fld → Bool) : State × Bool :=
  if !ok rpBifur_MODE then (s.plain w r ok, true)
  else if (List.range 4).any (fun i => s.fget (rRp .rpCtl (4 * r.i + i)) rpCtl_EN == 1) then
    ((s.plainBut w r ok [rpBifur_MODE]).fset r rpBifur_ERR 1, true)
  else (s.plain w r ok, false)

/-- A write of `RP_MSI` (R483). -/
def State.wRpMsi (s : State) (w : WriteReq) (r : Reg) (ok : Fld → Bool) : State × Bool :=
  let new := s.merged r ok w.val w.mask
  let b := fld new rpMsi_BASE
  let n := fld new rpMsi_CNT
  let clash := s.regs.any (fun e => e.1.name == .rpMsi && e.1.i != r.i &&
    overlap b n (fld e.2 rpMsi_BASE) (fld e.2 rpMsi_CNT))
  if (0 < n ∧ (b < 256 ∨ b + n > 1024)) ∨ clash then (s.fset (rRp .rpStat r.i) rpStat_ERR 1, true)
  else (s.wr r new, !(fields r.name).any ok)

/-- A write of `RP_CTL`: without `EN` the link falls; that is no way that R479 exempts. -/
def State.wRpCtl (s : State) (w : WriteReq) (r : Reg) (ok : Fld → Bool) : State × Bool :=
  let s := s.plain w r ok
  if s.fget r rpCtl_EN = 0 ∧ s.linkActive r.i then
    ((((s.contain r.i).rpLink r.i false).rpAer r.i 5).rpReport r.i .uc, false)
  else (s, false)

/-! Inbound requests (R476, R477, R481). -/

/-- The stream of a card's request (R206). -/
def rpStream (k bus : Nat) : Nat := 512 + 256 * k + bus

/-- Nothing is to be completed: a memory write, a message. -/
def rpPosted (r : RpTlp) : Bool :=
  match r.kind with
  | .mem | .unsupported => r.write
  | _ => true

/-- An Unsupported Request at a root port. -/
def State.rpUr (s : State) (k : Nat) (r : RpTlp) : State :=
  let s := (s.rpAer k 20).rpReport k .uc
  if rpPosted r then s else s.ioAside (0x830 + k) (rpStream k r.bus) false r.size (.rpUr k) true

/-- An MSI (R477). -/
def State.rpMsi (s : State) (k : Nat) (r : RpTlp) : State :=
  let n := r.data.toNat % 2 ^ 13
  let c := s.rd (rRp .rpMsi k)
  let src := s.rd (rSrcCfg n)
  let ok := decide (fld c rpMsi_BASE ≤ n ∧ n < fld c rpMsi_BASE + fld c rpMsi_CNT) &&
    (match s.streamWho (rpStream k r.bus) with
     | some (wd, d) => fld src idistSrcCfg_WORLD == b2n wd && fld src idistSrcCfg_DOMAIN == d
     | none => false)
  if !ok then s.finc (rRp .rpStat k) rpStat_MSIDROP
  else s.ioAside (0x830 + k) (rpStream k r.bus) false 4 (.msi k n)

/-- The parts of a request within one line each. -/
def lineParts (addr size : Nat) : List (Nat × Nat) :=
  let n := min size (64 - addr % 64)
  if n < size then [(0, n), (n, size - n)] else [(0, size)]

/-- A memory request of a card. -/
def State.rpMem (s : State) (k : Nat) (r : RpTlp) : State :=
  let page := s.fget (rRp .rpMsiaddr k) rpMsiaddr_ADDR
  if r.addr / 4096 = page then
    if r.write ∧ r.size = 4 ∧ r.addr % 4 = 0 then s.rpMsi k r
    else if r.write then s.finc (rRp .rpStat k) rpStat_MSIDROP
    else s.rpUr k r
  else
    (lineParts r.addr r.size).foldl (fun a x =>
      a.ioIssue { agent := 0x830 + k, stream := rpStream k r.bus, iova := r.addr + x.1, size := x.2, write := r.write
                  data := lineGet r.data x.1 x.2, poison := r.poisoned, use := .rpIn k, after := x.1 != 0 }) s

/-- RP_INBOUND_REQUEST (R214, R476). -/
def execRpInboundRequest (k : Nat) (r : RpTlp) (s : State) : Host.Outcome State Fault Refusal :=
  if k ≥ 16 then .fault .noSuchUnit
  else if !s.linkActive k || s.contained k then .next s
  else if r.pasid || r.atField != 0 then .next (s.rpUr k r)
  else
    match r.kind with
    | .mem => .next (s.rpMem k r)
    | .intx w up => .next (s.ioAside (0x830 + k) (rpStream k r.bus) false 0 (.intx k w up))
    | .errCor => .next ((s.imgSet k 0x4C 0 true).rpReport k .ce)
    | .errNonfatal => .next (((s.imgSet k 0x4C 2 true).imgSet k 0x4C 5 true).rpReport k .uc)
    | .errFatal => .next (((s.imgSet k 0x4C 2 true).imgSet k 0x4C 6 true).rpReport k .uc)
    | .unsupported => .next (s.rpUr k r)
    | .silent => .next s

end Sys2Proof.Machine
end

