-- ==== Sys2Proof/Machine/CoreCtl.lean ====
section
/-! DEFINITION. Core control: park, resume, start, self-test, power (R515–R524, R534). -/

namespace Sys2Proof.Machine

def rCoreStat (p : Nat) : Reg := ⟨.coreStat, p, 0⟩

/-- Some LCN maps to the core; a Collier core always reads `MAPPED` (R534). -/
def State.mapped (s : State) (p : Nat) : Bool := decide (1088 ≤ p) || (s.lcnOf p).isSome

/-- `STATE` of `CORE_STAT` (R537). -/
def RunState.num : RunState → Nat
  | .off => 0
  | .bist => 1
  | .parked => 2
  | .running => 3
  | .vechalt => 4
  | .stopped => 5
  | .safehalt => 6
  | .parking => 7

/-- `CORE_STAT` as read: `ERR` and `STATUS` are stored, the rest follows the core. -/
def State.coreStatRead (s : State) (p : Nat) : Word :=
  let c := s.core p
  let v := s.rd (rCoreStat p)
  let v := setFld v coreStat_STATE c.run.num
  let v := setFld v coreStat_CTXV (b2n c.ctxv)
  let v := setFld v coreStat_BISTPASS (b2n c.bistpass)
  setFld v coreStat_MAPPED (b2n (s.mapped p))

/-! Park. -/

/-- The range engine of a core that is parked: stopped, its status at the reset values, its requests still to be answered
(R245, R517). -/
def RangeEng.parked (r : RangeEng) : RangeEng := { out := r.out, run := r.run }

/-- The core begins to park (R517): the monitor is disarmed, the shield ends, the range engine stops. -/
def State.parkOne (s : State) (p : Nat) : State :=
  (s.modCore p (fun c => { c.endShield with run := .parking, ctxv := c.run == .running, monitor := none, range := c.range.parked, nmiLatch := false })).endDefers p

/-- The cores on which a command to core `p` acts: a formed pair goes together (R516). -/
def State.pairCores (s : State) (p : Nat) : List Nat := if s.leads p then [p, p + 1] else [p]

/-- A pair that leaves `STOPPED` is in `LOCKSTEP` again (R387). -/
def State.pairUnstop (s : State) (p : Nat) : State :=
  match s.twinOf p with
  | some (k, _) => if (s.core p).run = .stopped then s.fset ⟨.cfgTwin, k, 0⟩ cfgTwin_STATE 1 else s
  | none => s

/-- A core is parked, both of a formed pair together (R495, R516). -/
def State.parkNow (s : State) (p : Nat) : State :=
  let p := if s.follows p then p - 1 else p
  let r := (s.core p).run
  if r = .running ∨ r = .vechalt ∨ r = .stopped then (s.pairCores p).foldl State.parkOne (s.pairUnstop p) else s

/-- Nothing of the core is on its way any more: no line, no queued store, no request unanswered (R517 steps 2 and 4). -/
def State.parkDone (s : State) (p : Nat) : Bool :=
  let c := s.core p
  !c.mustFinish && c.sq.isEmpty && c.lines.isEmpty && c.tlbOut == 0 && c.tlbOwed.isEmpty && c.range.out.isEmpty && !s.postedOut p &&
  (match c.wait with
   | some w => !w.out || w.done
   | none => true) &&
  (match c.cmo with
   | some x => x.2
   | none => true)

/-- One core on its way to `PARKED` moves on: its stores are written, its lines evicted. -/
def State.parkStep (s : State) (p : Nat) : State :=
  let c := s.core p
  if c.run ≠ .parking ∨ c.mustFinish then s
  else
    let s := match drain p 0 .none s with
      | .ok _ s' => s'
      | .error _ s' => s'
    let s := if (s.core p).sq.isEmpty then s.evictAll p ((s.core p).lines.map (·.1)) else s
    if s.parkDone p then
      s.modCore p (fun c =>
        { c.l1Empty with run := .parked, wait := none, cmo := none, mload := none, wfi := false, draining := false, pick := none
                         early := [], refused := [], specRefused := [], lateAbort := none, unagreed := [] })
    else s

/-- PARK_DONE (R517). -/
def execParkDone (c : Nat) (s : State) : Host.Outcome State Fault Refusal :=
  if !isCore c then .fault .noSuchUnit else .next (s.parkStep c)

/-! The other commands. -/

/-- A command ends refused. -/
def State.coreRefuse (s : State) (p : Nat) : State × Bool :=
  ((s.fset (rCoreStat p) coreStat_ERR 1).fset (rCoreStat p) coreStat_STATUS 1, true)

/-- A command was accepted. -/
def State.coreAccept (s : State) (p : Nat) : State × Bool := (s.fset (rCoreStat p) coreStat_STATUS 0, false)

/-- The core after START (R516, R534): every register at its reset value, every cache and TLB empty with its pointers at way 0
(R120, R199, R219). -/
def Core.startRegs (c : Core) (p : Nat) (pc : Word) : Core :=
  { c with arch := { pc := pc, level := if p < 1088 then 3 else 2, world := decide (p < 1088) }
           peat := [], nmiAct := false, nmiLatch := false, fresh := [], cycle := 0, redirect := false, pflush := false, ras := []
           tgtBuf := [], tgtPtr := [], unagreed := [], lines := [], l2ptr := [], l1i := [], l1iPtr := [], l1d := [], l1dPtr := []
           flaws := [], itlb := [], itlbPtr := 0, dtlb := [], dtlbPtr := 0, l2tlb := [], l2tlbPtr := [], early := []
           quietSeen := [], pick := none, converting := false }

/-- The core begins to run (R516): its predictors start empty (R350), and its Peat ways are converted first (R518). -/
def State.runOne (s : State) (p : Nat) : State :=
  let s := s.modCore p (fun c => { c.noPredict with run := .running, quietSeen := s.quietAll })
  let s := match convertPeat p s with
    | .ok _ s' => s'
    | .error _ s' => s'
  if s.leads p then s.modCore p (fun c => { c with ck := some c.arch, unagreed := [] }) else s

/-- The follower takes the leader's registers; its own Peat store is gone (R380). -/
def State.followerJoins (s : State) (p : Nat) : State :=
  let a := (s.core p).arch
  s.modCore (p + 1) (fun c =>
    let c := { c with arch := a, peat := [], l1i := [], l1d := [], flaws := [], itlb := [], dtlb := [], l2tlb := [] }
    (c.setCr ⟨true, 0x111#12⟩ 0).setCr ⟨false, 0x111#12⟩ 0)

/-- The held context of a core runs; a leader's is its follower's too (R380, R516). -/
def State.resume (s : State) (p : Nat) : State :=
  (s.pairCores p).foldl State.runOne (if s.leads p then s.followerJoins p else s)

/-- Another Collier core runs. -/
def State.collierLeft (s : State) (p : Nat) : Bool :=
  (List.range 4).any (fun c => 1088 + c != p && (s.core (1088 + c)).run == .running)

/-- A core without power: its registers, caches, TLBs and Peat ways are lost (R516). -/
def Core.powerless (c : Core) : Core :=
  { run := .off, bistpass := c.bistpass, bistFailed := c.bistFailed, ncSeq := c.ncSeq, intView := c.intView }

/-- A command of `CORE_CTL` (R516, R534): the state, and whether it is refused. -/
def State.coreCmd (s : State) (p cmd : Nat) : State × Bool :=
  let c := s.core p
  let free := !s.mapped p || decide (1088 ≤ p)
  let last := decide (1088 ≤ p) && !s.collierLeft p
  if cmd = 0 ∨ cmd = 7 then (s, false)
  else if s.follows p ∧ cmd ≤ 3 then s.coreRefuse p
  else
    match cmd with
    | 1 =>
      if (c.run = .running ∨ c.run = .vechalt ∨ c.run = .stopped) ∧ !last then (s.parkNow p).coreAccept p
      else s.coreRefuse p
    | 2 =>
      if c.run = .parked ∧ s.mapped p ∧ c.ctxv then (s.resume p).coreAccept p else s.coreRefuse p
    | 3 =>
      if c.run = .parked ∧ s.mapped p then
        let pc := BitVec.ofNat 64 (s.fget ⟨.coreEntry, p, 0⟩ coreEntry_PC * 4)
        ((s.pairCores p).foldl (fun a q => (a.modCore q (·.startRegs q pc)).runOne q) s).coreAccept p
      else s.coreRefuse p
    | 4 =>
      if c.run = .parked ∧ free then (s.setCore p { c.powerless with run := .bist }).coreAccept p
      else s.coreRefuse p
    | 5 =>
      if c.run = .off ∧ free then ((s.setCore p { c.powerless with run := .bist }).poolOf p).coreAccept p
      else s.coreRefuse p
    | _ =>
      if c.run = .parked ∧ free ∧ !last then
        ((s.setCore p c.powerless).poolOf p).coreAccept p
      else s.coreRefuse p

/-- A write of `CORE_CTL`. -/
def State.wCoreCtl (s : State) (w : WriteReq) (r : Reg) (ok : Fld → Bool) : State × Bool :=
  if ok coreCtl_CMD then s.coreCmd r.i (fld (s.off w r) coreCtl_CMD) else (s, true)

/-- BIST_DONE (R516): the core is parked, or turned off and out of the pool until a power-on reset (R47). -/
def execBistDone (c : Nat) (pass : Bool) (s : State) : Host.Outcome State Fault Refusal :=
  if !isCore c then .fault .noSuchUnit
  else if (s.core c).run ≠ .bist then .next s
  else if pass then .next (s.modCore c (fun x => { x with run := .parked, bistpass := true }))
  else .next ((s.setCore c { (s.core c).powerless with bistpass := false, bistFailed := true }).poolOf c)

end Sys2Proof.Machine
end

