-- ==== Sys2Proof/Machine/Events.lean ====
section
/-! DEFINITION. Events of a core: interrupts and the NMI (R154, R159–R161), reissued speculation (R127), L2 fills and
recalls (R222, R291). -/

namespace Sys2Proof.Machine

/-- Enters for an interrupt or the NMI. A waiting WFI completes and retires with the entry (R96, R146): while the entry has
to wait (R230), it has not. -/
def asyncEnter (p level cause info : Nat) : InsnM Unit := do
  let c ← getCore p
  let lead := (← get).leads p
  if level = 3 ∧ c.arch.world = false ∧ !c.acted then twinHold p
  syncContext p
  if c.wfi then modCore p (fun c => { c.retired c.arch.level lead with wfi := false })
  enter p { level := level, cause := cause, epc := if c.wfi then c.arch.pc + 4 else c.arch.pc, info := info, sync := false }

/-- INTERRUPT_ENTRY (R154, R155): the core takes the interrupt that R154 admits; a latched NMI comes first (R142). -/
def execInterruptEntry (p : Nat) (s : State) : Host.Outcome State Fault Refusal :=
  if !isCore p then .fault .noSuchUnit
  else if !(s.core p).atBoundary || s.follows p || (s.core p).nmiDue then .next s
  else
    match s.intNow p with
    | none => .next s
    | some t => settle (asyncEnter p t.level t.cause t.info) s

/-- Marks that a source's NMI was discarded (R496). -/
def State.nmiLost (s : State) (src : Nat) : State := s.fset ⟨.fbSrcStat, src, 0⟩ fbSrcStat_NMILOST 1

/-- An NMI event of Firebreak's source `src` reaches core `p` (R159, R160). -/
def State.nmiArrive (s : State) (p src : Nat) : State :=
  let c := s.core p
  if c.run ≠ .running then s.nmiLost src
  else if c.nmiAct then
    let s := s.setCore p { c with nmiLatch := false }
    let s := match s.targetOf p with
      | some t => s.fset (rTgtStat t) idistTgtStat_DBLNMI 1
      | none => s
    (s.nmiLost src).report (haltSrc p) .ft (p + 2 ^ 12)
  else s.setCore p { c with nmiLatch := true }

/-- NMI_EVENT (R159): the oldest NMI event on its way to the core arrives. -/
def execNmiEvent (p : Nat) (s : State) : Host.Outcome State Fault Refusal :=
  if !isCore p then .fault .noSuchUnit
  else
    match s.nmiQ.find? (fun e => e.1 == p) with
    | none => .next s
    | some e => .next ({ s with nmiQ := s.nmiQ.erase e }.nmiArrive p e.2)

/-- The level at which the NMI is taken (R159). -/
def State.nmiLevel (s : State) (p : Nat) : Nat :=
  if (s.core p).arch.world then 3
  else
    match s.targetOf p with
    | some t => if s.fget (rTgtCfg t) idistTgtCfg_NMILVL = 0 then 2 else 3
    | none => 3

/-- NMI_ENTRY (R159): at a boundary the core takes the latched NMI. -/
def execNmiEntry (p : Nat) (s : State) : Host.Outcome State Fault Refusal :=
  if !isCore p then .fault .noSuchUnit
  else
    let c := s.core p
    if !c.atBoundary || s.follows p || !c.nmiDue then .next s
    else
      settle (do
        asyncEnter p (s.nmiLevel p) 0x21 0
        modCore p (fun c => { c with nmiLatch := false })) s

/-- SPECULATIVE_REISSUE (R127): the load or fetch whose flagged request was refused has become the oldest instruction, and is
made again without the flag. -/
def execSpeculativeReissue (p line : Nat) (s : State) : Host.Outcome State Fault Refusal :=
  if !isCore p then .fault .noSuchUnit
  else
    let c := s.core p
    let ln := lineOf line
    if !c.specRefused.contains ln || !c.executes || c.halted || c.missFull .data then .next s
    else
      let s := s.setCore p { c with specRefused := c.specRefused.erase ln }
      match c.line ln with
      | some _ => .next s
      | none =>
        let w := c.arch.world
        let dom := c.crFld ⟨w, 0x130#12⟩ domid_DOM
        .next ((s.modCore p (·.setLine ln { st := .IS_D, world := w, dom := dom, miss := .data })).request p .getS ln w dom false)

/-- An error of the operand found in the victim of a fill, which is read out (R234). -/
def State.victimUpset (s : State) (p pa : Nat) (e : Upset) : State :=
  let c := s.core p
  match (c.victimWay (l2Set pa)).bind (c.inWay (l2Set pa)) with
  | none => s
  | some v => s.upset p v e

/-- L2_FILL (R222, R232): a line that has arrived takes a way of its set, behind the fills of the set that came before it. -/
def execL2Fill (p line : Nat) (e : Upset) (s : State) : Host.Outcome State Fault Refusal :=
  if !isCore p then .fault .noSuchUnit
  else
    let s := s.arise p e
    let c := s.core p
    match c.line line with
    | none => .next s
    | some l =>
      if !l.waits || c.fillBehind line then .next s
      else
        match s.install p (lineOf line) with
        | none => .next s
        | some _ =>
          match ((s.lookFlaws p 2 (l2Set line)).victimUpset p line e).install p (lineOf line) with
          | some s' => .next s'
          | none => .next s

/-- CINDER_RECALL (R291, R292): a line in eviction on which an access of its world and domain has missed is recalled into a
way of L2, with the recall mark. -/
def execCinderRecall (p line : Nat) (s : State) : Host.Outcome State Fault Refusal :=
  if !isCore p then .fault .noSuchUnit
  else
    match (s.core p).line line with
    | none => .next s
    | some l =>
      if l.want && l.cinder && l.way.isNone && l.st.leaving then
        match (s.readFlaws p 3 (lineOf line)).install p (lineOf line) with
        | some s' => .next s'
        | none => .next s
      else .next s

end Sys2Proof.Machine
end

