-- ==== Sys2Proof/Machine/Fb.lean ====
section
/-! DEFINITION. Firebreak: sources, reactions, watch slots, the error pin, the safe state, voting (R488–R514). -/

namespace Sys2Proof.Machine

def rFbCfg (n : Nat) : Reg := ⟨.fbSrcCfg, n, 0⟩
def rFbStat (n : Nat) : Reg := ⟨.fbSrcStat, n, 0⟩
def rFbSafe : Reg := ⟨.fbStat, 0, 0⟩
def rFbPin : Reg := ⟨.fbPin, 0, 0⟩
def rWatchCfg (w : Nat) : Reg := ⟨.fbWatchCfg, w, 0⟩
def rWatchStat (w : Nat) : Reg := ⟨.fbWatchStat, w, 0⟩

/-- The number of a class in `FB_SRC_DET`, `FB_WATCH_CFG` and the Ash Record. -/
def clsNum : FbClass → Nat
  | .ce => 0
  | .uc => 1
  | .ft => 2

/-- The source raises the class (R492). -/
def fbRaises (n : Nat) (c : FbClass) : Bool :=
  fbListed n &&
  match c with
  | .ce => !(decide (1092 ≤ n ∧ n ≤ 1108) || decide (1696 ≤ n ∧ n < 2240) || decide (3024 ≤ n ∧ n < 3075) ||
      decide (3080 ≤ n ∧ n < 3336) || decide (3368 ≤ n ∧ n < 3372) || n == 3391 || n == 3392 || n == 3394 || n == 3395 || n == 3397)
  | .uc => !(decide (1152 ≤ n ∧ n < 1696) || n == 3389 || n == 3392 || n == 3393)
  | .ft => decide (1092 ≤ n ∧ n ≤ 1108) || n == 3392 || n == 3394 || n == 3395 || n == 3397

/-- Code 3 is a defined encoding at the source (R492). -/
def fbBlock (n : Nat) : Bool :=
  decide (n < 1088) || decide (1092 ≤ n ∧ n < 1108) || decide (1696 ≤ n ∧ n < 2240) || decide (3080 ≤ n ∧ n < 3368) ||
  decide (3372 ≤ n ∧ n < 3389)

/-- A code is a defined encoding for a source and class (R492, R496). -/
def fbCodeOk (n : Nat) (c : FbClass) (code : Nat) : Bool :=
  !(code == 3 && !fbBlock n) && !(code == 2 && c == .ft && decide (1092 ≤ n ∧ n ≤ 1108))

/-- The code field of a class. -/
def fbCodeFld : FbClass → Fld
  | .ce => fbSrcCfg_CECODE
  | .uc => fbSrcCfg_UCCODE
  | .ft => fbSrcCfg_FTCODE

/-- A reset of codes 3 and 4 is asked for (R538); one that resets more replaces one that waits. -/
def State.askReset (s : State) (code cause : Nat) : State :=
  match s.rst with
  | some (c, _) => if code < c then { s with rst := some (code, cause) } else s
  | none => { s with rst := some (code, cause) }

/-! The safe state (R505). -/

/-- Entry into the safe state. -/
def State.enterSafe (s : State) (cause src : Nat) : State :=
  if s.inSafe then s
  else
    let s := ((s.fset rFbSafe fbStat_SAFE 1).fset rFbSafe fbStat_SAFECAUSE cause).fset rFbSafe fbStat_SAFESRC src
    { (s.ashPlain 0x0012 (BitVec.ofNat 64 cause) (BitVec.ofNat 64 src)) with safeAt := some s.now }.fxSafe

/-! Reactions (R494–R496, R503). -/

/-- A pin event (R503). -/
def State.pinEvent (s : State) : State :=
  let p := s.rd rFbPin
  let p := setFld (setFld (setFld p fbPin_ASSERTED 1) fbPin_MINDONE 0) fbPin_HELD 0
  let p := setFld p fbPin_SEQ ((fld p fbPin_SEQ + 1) % 256)
  { s.wr rFbPin p with pinEnd := s.now + 200 * s.fget ⟨.fbPinmin, 0, 0⟩ fbPinmin_MIN }

/-- A core that follows takes no NMI of its own: its leader's is the pair's (R380, R381). -/
def State.pairLead (s : State) (p : Nat) : Nat := if s.follows p then p - 1 else p

/-- The core to which code 2 sends its NMI (R496). No core serves the odd LCN of a formed pair (R380). -/
def State.nmiCore (s : State) (n detail : Nat) : Option Nat :=
  let c := s.rd (rFbCfg n)
  let self := fld c fbSrcCfg_NMISELF == 1
  if self && decide (n < 1092) then some (s.pairLead n)
  else if self && decide (1092 ≤ n ∧ n ≤ 1108) then some (s.pairLead (detail % 2048))
  else if self && decide (1152 ≤ n ∧ n < 1696) then some (2 * (n - 1152))
  else if self && decide (1696 ≤ n ∧ n < 2240) then some (2 * (n - 1696))
  else (s.coreOfTarget (fld c fbSrcCfg_NMITGT)).filter (fun p => !s.follows p)

/-- Code 2: an NMI event leaves for its core. -/
def State.fbNmi (s : State) (n detail : Nat) : State :=
  match s.nmiCore n detail with
  | some p => if isCore p then { s with nmiQ := s.nmiQ ++ [(p, n)] } else s.nmiLost n
  | none => s.nmiLost n

/-- Code 3: the block reset of a source (R495). -/
def State.fbBlockReset (s : State) (n detail : Nat) : State :=
  if n < 1088 then s.parkNow n
  else if 1092 ≤ n ∧ n < 1108 then (if detail % 2048 < 1088 then s.parkNow (detail % 2048) else s)
  else if 1696 ≤ n ∧ n < 2240 then (if s.leads (2 * (n - 1696)) then s.parkNow (2 * (n - 1696)) else s)
  else if 3080 ≤ n ∧ n < 3336 then s.fnBlockReset (n - 3080)
  else if 3336 ≤ n ∧ n < 3368 then s.linkSet (n - 3336) false
  else if n = 3372 then s.spReset false
  else if 3373 ≤ n ∧ n < 3389 then s.contain (n - 3373)
  else s

/-- Applies a reaction code (R494). -/
def State.react (s : State) (code n detail : Nat) : State :=
  if s.inSafe then s
  else
    match code with
    | 1 => s.fset (rFbStat n) fbSrcStat_IP 1
    | 2 => s.fbNmi n detail
    | 3 => s.fbBlockReset n detail
    | 4 => s.askReset 4 2
    | 5 => s.pinEvent
    | 6 => (s.fset (rFbStat n) fbSrcStat_IP 1).pinEvent
    | 7 => s.enterSafe 1 n
    | _ => s

/-! Events (R489–R491, R498–R500). -/

/-- The slot that covers an event (R498): the lowest. -/
def State.watchOf (s : State) (n : Nat) (c : FbClass) : Option Nat :=
  (List.range 32).find? (fun w =>
    let g := s.rd (rWatchCfg w)
    fld g fbWatchCfg_EN == 1 && fld g fbWatchCfg_CLASS == clsNum c && decide (fld g fbWatchCfg_FIRST ≤ n ∧ n ≤ fld g fbWatchCfg_LAST))

/-- The pending bit and the count of a class. -/
def fbPendFld : FbClass → Fld × Fld
  | .ce => (fbSrcStat_CEP, fbSrcStat_CECNT)
  | .uc => (fbSrcStat_UCP, fbSrcStat_UCCNT)
  | .ft => (fbSrcStat_FTP, fbSrcStat_FTCNT)

/-- `FB_SRC_DET` of an event. -/
def fbDet (detail : Nat) (c : FbClass) (code : Nat) (w : Option Nat) : Word :=
  let v := setFld (setFld (setFld 0 fbSrcDet_DETAIL detail) fbSrcDet_CLASS (clsNum c)) fbSrcDet_CODE code
  match w with
  | none => v
  | some i => setFld (setFld v fbSrcDet_WATCHED 1) fbSrcDet_SLOT i

/-- A slot takes an event (R499, R500). -/
def State.watchTake (s : State) (w : Nat) (e : FbEv) : State :=
  let g := s.rd (rWatchStat w)
  let v := setFld g fbWatchStat_SEQ ((fld g fbWatchStat_SEQ + e.n) % 256)
  let v := setFld v fbWatchStat_EVCNT (min 65535 (fld g fbWatchStat_EVCNT + e.n))
  let v := setFld v fbWatchStat_SRCN e.src
  if fld g fbWatchStat_STATE = 1 then s.wr (rWatchStat w) v
  else
    { s.wr (rWatchStat w) (setFld v fbWatchStat_STATE 1) with
      armed := tput s.armed w ⟨s.now + 200 * s.fget (rWatchCfg w) fbWatchCfg_TIMEOUT, e.src, e.cls, e.detail⟩ }

/-- Firebreak takes an event (R491). In the safe state it is counted and recorded, and nothing reacts (R505, R507). -/
def State.fbTake (s : State) (e : FbEv) : State :=
  let w := if s.inSafe then none else s.watchOf e.src e.cls
  let code := if s.inSafe then 0 else if w.isSome then 1 else s.fget (rFbCfg e.src) (fbCodeFld e.cls)
  let (pf, cf) := fbPendFld e.cls
  let d := fbDet e.detail e.cls code w
  let s := s.fset (rFbStat e.src) pf 1
  let s := s.fset (rFbStat e.src) cf (min 65535 (s.fget (rFbStat e.src) cf + e.n))
  let s := s.wr ⟨.fbSrcLast, e.src, 0⟩ s.ct
  let s := s.ashEvent 0x0001 e.src (clsNum e.cls) d
  if s.inSafe then s
  else
    let s := s.wr ⟨.fbSrcDet, e.src, 0⟩ d
    match w with
    | some i => s.watchTake i e
    | none => s.react code e.src e.detail

/-- FIREBREAK_EVENT (R489–R491): Firebreak takes the event that the source holds; where it holds none, one that the source
has just detected. -/
def execFirebreakEvent (src : Nat) (cls : FbClass) (detail : Nat) (s : State) : Host.Outcome State Fault Refusal :=
  if src ≥ 4096 then .fault .noSuchUnit
  else if !fbRaises src cls then .next s
  else
    match s.fbq.find? (fun e => e.src == src && decide (e.cls = cls)) with
    | some e => .next ({ s with fbq := s.fbq.erase e }.fbTake e)
    | none => .next (s.fbTake ⟨src, cls, 1, detail % 2 ^ 32⟩)

/-- Stage 2 of a slot whose expiry cycle has come (R500). -/
def State.watchExpire (s : State) (w : Nat) : State :=
  match tfind s.armed w with
  | none => s
  | some a =>
    if s.inSafe || decide (s.now < a.expiry) then s
    else
      let c := s.fget (rWatchCfg w) fbWatchCfg_STAGE2
      let code := if fbCodeOk a.src a.cls c then c else 0
      let s : State := { (s.fset (rWatchStat w) fbWatchStat_STATE 2).fset (rWatchStat w) fbWatchStat_ESC 1 with armed := tdel s.armed w }
      (s.ashPlain 0x0002 (BitVec.ofNat 64 (w + code * 2 ^ 8))).react code a.src a.detail

/-- WATCH_EXPIRY (R500). -/
def execWatchExpiry (w : Nat) (s : State) : Host.Outcome State Fault Refusal :=
  if w ≥ 32 then .fault .noSuchUnit else .next (s.watchExpire w)

/-! Register writes. -/

/-- A write of `FB_SRC_CFG` (R10, R492, R496): a code that is a reserved encoding at the source leaves its field. -/
def State.wFbSrcCfg (s : State) (w : WriteReq) (r : Reg) (ok : Fld → Bool) : State × Bool :=
  let v := s.off w r
  let bad := [FbClass.ce, .uc, .ft].filter (fun c => !fbCodeOk r.i c (fld v (fbCodeFld c)))
  (s.plainBut w r ok (bad.map fbCodeFld), false)

/-- A write of `FB_SRC_STAT` (R514): clearing a pending bit clears its count. -/
def State.wFbSrcStat (s : State) (w : WriteReq) (r : Reg) (ok : Fld → Bool) : State × Bool :=
  let v := w.val &&& w.mask
  let s := s.plain w r ok
  ([FbClass.ce, .uc, .ft].foldl (fun a c =>
    let (pf, cf) := fbPendFld c
    if ok pf && fld v pf == 1 && a.fget r pf == 0 then a.fset r cf 0 else a) s, false)

/-- A write of `FB_WATCH_CFG` (R502): refused for what it would leave, a reserved value offered not counting (R10). -/
def State.wWatchCfg (s : State) (w : WriteReq) (r : Reg) (ok : Fld → Bool) : State × Bool :=
  if !ok fbWatchCfg_EN then (s, true)
  else
    let v := s.merged r ok w.val w.mask
    let bad := fld v fbWatchCfg_EN == 1 &&
      (fld v fbWatchCfg_STAGE2 < 2 || fld v fbWatchCfg_TIMEOUT == 0 || decide (10000000 < fld v fbWatchCfg_TIMEOUT))
    if s.fget (rWatchStat r.i) fbWatchStat_STATE ≠ 0 ∨ bad then (s.fset (rWatchStat r.i) fbWatchStat_ERR 1, true)
    else (s.plain w r ok, false)

/-- A write of `FB_WATCH_STAT` (R501): an acknowledgement, and the W1C bits. -/
def State.wWatchStat (s : State) (w : WriteReq) (r : Reg) (ok : Fld → Bool) : State × Bool :=
  let v := w.val &&& w.mask
  let s := s.plain w r ok
  if !(ok fbWatchStat_ACK && fld v fbWatchStat_ACK == 1) || s.fget r fbWatchStat_STATE == 0 then (s, false)
  else if fld v fbWatchStat_ACKSEQ ≠ s.fget r fbWatchStat_SEQ then (s.fset r fbWatchStat_ACKSTALE 1, true)
  else ({ (s.fset r fbWatchStat_STATE 0).fset r fbWatchStat_EVCNT 0 with armed := tdel s.armed r.i }, false)

/-- nERR is released (R504). -/
def State.pinRelease (s : State) : State := (s.fset rFbPin fbPin_ASSERTED 0).fset rFbPin fbPin_HELD 0

/-- A write of `FB_PIN` (R504): a release, and the W1C bit. -/
def State.wFbPin (s : State) (w : WriteReq) (r : Reg) (ok : Fld → Bool) : State × Bool :=
  let v := w.val &&& w.mask
  let s := s.plain w r ok
  if !(ok fbPin_RELEASE && fld v fbPin_RELEASE == 1) || s.fget r fbPin_ASSERTED == 0 || s.inSafe then (s, false)
  else if fld v fbPin_RELSEQ ≠ s.fget r fbPin_SEQ then (s.fset r fbPin_RELERR 1, true)
  else if s.fget r fbPin_MINDONE = 1 then (s.pinRelease, false)
  else (s.fset r fbPin_HELD 1, false)

/-- A write of `FB_CTL` (R505, R511): the SBC and the sealed world at L3. -/
def State.wFbCtl (s : State) (w : WriteReq) (r : Reg) (ok : Fld → Bool) : State × Bool :=
  if !(w.acc.isSbc || w.acc.sealed3) || !ok fbCtl_SAFEREQ then (s, true)
  else if fld (s.off w r) fbCtl_SAFEREQ = 1 then (s.enterSafe 3 0, false)
  else (s, false)

/-- A write of `FB_STAT` (R513). -/
def State.wFbStat (s : State) (_w : WriteReq) (r : Reg) (ok : Fld → Bool) : State × Bool :=
  if ok fbStat_VOTECORR then ((s.fset r fbStat_VOTECORR 0).fset r fbStat_LASTOFF 0, false) else (s, true)

/-- The minimum pulse of nERR ends when its time has come (R503, R504). -/
def State.pinMinEnd (s : State) : State :=
  if s.pinEnd = 0 ∨ s.now < s.pinEnd then s
  else
    let held := s.fget rFbPin fbPin_HELD == 1
    let s : State := { s.fset rFbPin fbPin_MINDONE 1 with pinEnd := 0 }
    if held && !s.inSafe then s.pinRelease else s

/-- PIN_MIN_END (R504). -/
def execPinMinEnd (s : State) : Host.Outcome State Fault Refusal := .next s.pinMinEnd

/-! The safe sequence (R505). -/


/-- A core halts in `SAFEHALT`; one that is off, parked or in self-test stays so. -/
def Core.safeHalt (c : Core) : Core :=
  if c.run = .running ∨ c.run = .vechalt ∨ c.run = .stopped ∨ c.run = .parking then { c with run := .safehalt } else c

/-- Steps 2 and 3 of the safe sequence when their time has come. -/
def State.nsafeAssert (s : State) : State :=
  match s.safeAt with
  | none => s
  | some t =>
    if s.nSafe || decide (s.now < t + 2000) then s
    else { s.fset rFbPin fbPin_ASSERTED 1 with nSafe := true, cores := s.cores.map (fun e => (e.1, e.2.safeHalt)) }

/-- SAFE_NSAFE_ASSERT (R505 steps 2 and 3). -/
def execSafeNsafeAssert (s : State) : Host.Outcome State Fault Refusal := .next s.nsafeAssert

/-- The lands nERR and nSAFE are low (R503, R505, R569). -/
def State.nErrLow (s : State) : Bool := s.fget rFbPin fbPin_ASSERTED == 1
def State.nSafeLow (s : State) : Bool := s.nSafe

/-- The last step of Firebreak's cycle (R489): the watch timers that expire in it, lowest slot first, the pin timer, and the
safe sequence. -/
def State.fbTimers (s : State) : State :=
  let due := (List.range 32).filter (fun w => (tfind s.armed w).any (fun a => decide (a.expiry ≤ s.now)))
  ((if s.armed.isEmpty then s else due.foldl State.watchExpire s).pinMinEnd).nsafeAssert

/-- A channel performs its queued writes and enters self-refresh. -/
def State.selfRefresh (s : State) (k : Nat) : State :=
  let q := (s.chan k).queue
  let s := s.setChan k { s.chan k with queue := q.filter (fun r => !r.write) }
  ((q.filter (·.write)).foldl (fun a r => a.chanDo k r .none) s).fset (rMc .mcStat k) mcStat_STATE 4

/-- A channel holds data and serves. -/
def State.chanLive (s : State) (k : Nat) : Bool := s.chanState k == 1 || s.chanState k == 3

/-- SAFE_SELF_REFRESH (R505 steps 4 and 5): when the last channel has entered self-refresh the Ash Record freezes. -/
def execSafeSelfRefresh (k : Nat) (s : State) : Host.Outcome State Fault Refusal :=
  if k ≥ 16 then .fault .noSuchUnit
  else if !s.nSafe then .next s
  else if (s.chan k).queue.any (fun r => r.write && s.keyWait r) then .next s
  else
    let s := if s.chanLive k then s.selfRefresh k else s
    .next (if (List.range 16).any s.chanLive then s else s.ashFreezeNow 1)

/-! Voting (R508, R509). -/

/-- The bits of a register that hold a value. -/
def heldMask (n : RegName) : Word :=
  (fields n).foldl (fun a f => if f.ty = .wo then a else setFld a f (2 ^ f.w - 1)) 0

def evenBits (v : Word) : Bool := ((List.range 64).filter (fun i => v.getLsbD i)).length % 2 == 0

/-- The register at an offset of the `FB_` region: of the global part, or in a window the one of the source selected there. -/
def State.fbWordAt (s : State) (off : Nat) : Option Reg :=
  if off < 0x1000000 then globalAt .fb off
  else
    let b := off / 0x1000000 - 1
    if b < 4 ∧ off % 0x1000000 ≥ 0x1000 then
      let n := s.fget ⟨.sel, blkNum .fb, b⟩ sel_INDEX
      if fbListed n then windowAt .fb 0 n (off % 0x1000000) else none
    else none

/-- BACKGROUND_VOTE_CHECK (R508): the three copies of the word at `off` differ from the value written by the upsets `m0`, `m1`
and `m2`. -/
def execBackgroundVoteCheck (off : Nat) (m0 m1 m2 : Word) (s : State) : Host.Outcome State Fault Refusal :=
  match s.fbWordAt off with
  | none => .next s
  | some r =>
    let h := heldMask r.name
    let a := m0 &&& h
    let b := m1 &&& h
    let c := m2 &&& h
    let win := if evenBits a && evenBits b && a == b then some a
      else if evenBits a && evenBits c && a == c then some a
      else if evenBits b && evenBits c && b == c then some b
      else none
    match win with
    | none => .next (s.enterSafe 2 0)
    | some m =>
      if a == b && b == c then .next (s.wr r (s.rd r ^^^ m))
      else .next (((s.wr r (s.rd r ^^^ m)).finc rFbSafe fbStat_VOTECORR).fset rFbSafe fbStat_LASTOFF off |>.report 3393 .ce)

end Sys2Proof.Machine
end

