-- ==== Sys2Proof/Machine/Tlbm.lean ====
section
/-! DEFINITION. TLB maintenance: major 0x2F (R202–R205), and table walks (R194–R198). -/

namespace Sys2Proof.Machine

/-- A TLBM operation: its number func[7:0], the world it works in, and its operands. -/
structure TlbOp where
  op : Nat
  world : Bool
  va : Nat
  id : Nat
  vmid : Nat
  deriving DecidableEq, Repr

def TlbEnt.covers (e : TlbEnt) (va : Nat) : Bool := e.va == va / 2 ^ e.lg * 2 ^ e.lg

/-- The entries that an operation removes (R202). -/
def TlbOp.removes (o : TlbOp) (e : TlbEnt) : Bool :=
  e.world == o.world &&
  (match o.op with
   | 0x00 => e.guest && e.vmid == o.vmid && e.covers o.va && (e.glob || e.asid == o.id)
   | 0x01 => e.guest && e.vmid == o.vmid && e.covers o.va
   | 0x02 => e.guest && e.vmid == o.vmid && !e.glob && e.asid == o.id
   | 0x03 => e.guest && e.vmid == o.vmid
   | 0x10 => e.guest && e.vmid == o.id
   | 0x12 => !e.guest && e.covers o.va
   | 0x13 => !e.guest
   | 0x20 => true
   | _ => false)

/-- The cores to which a broadcast goes (R204): every other powered core, or those whose `DOMID` copy agrees. -/
def State.tlbTargets (s : State) (x : Ctx) : List Nat :=
  (List.range 1092).filter (fun q => q != x.p && (s.core q).run != .off && !s.follows q &&
    (x.level == 3 || (s.core q).crFld ⟨x.world, 0x130#12⟩ domid_DOM == x.dom))

/-- The message of a broadcast: the virtual address in `pa`, the operation and its operands beside it. -/
def TlbOp.msg (o : TlbOp) (x : Ctx) (q : Nat) : Msg :=
  { opc := .tlbOp, pa := o.va, src := agentOf x.p, dst := .agent (agentOf q), req := agentOf x.p, world := o.world,
    dom := x.dom, aux := o.op, aux2 := o.id, size := o.vmid }

def Msg.tlb (m : Msg) : TlbOp := ⟨m.aux, m.world, m.pa, m.aux2, m.size⟩

/-- A TLBM form (R202–R204): `vaOp` and `idBits` say which operands it takes, `high` that its lowest level is the L2 level. -/
def tlbm (p : Nat) (rd ra rb : RegNo) (bc ill : Bool) (op : Nat) (vaOp : Bool) (idBits : Nat) (high : Bool) (s : State) :
    Host.Outcome State Fault Refusal :=
  runInsn p false .idle (fun x => do
    let va := (← getG x.p ra).toNat
    let id := (← getG x.p rb).toNat
    illIf (ill || rd != 0 || (!vaOp && ra != 0) || (idBits == 0 && rb != 0) || decide (va ≥ 2 ^ 48) ||
      decide (id ≥ 2 ^ idBits))
    privIf (x.level < (if high then (if x.world then 3 else 2) else 1))
    twinHold x.p
    let o : TlbOp := ⟨op, x.world, va / 4096 * 4096, id, (regimeOf x x.world 1).vmid⟩
    modCore x.p (·.tlbRemove o.removes)
    if bc then
      let ts := (← get).tlbTargets x
      modify (fun s => ts.foldl (fun a t => a.send (o.msg x t)) s)
      modCore x.p (fun c => { c with tlbOut := c.tlbOut + ts.length })
    pure .seq) s

/-- TLBIVA (R202). -/
def execTlbiva (p : Nat) (rd ra rb : RegNo) (bc ill : Bool) (s : State) : Host.Outcome State Fault Refusal :=
  tlbm p rd ra rb bc ill 0x00 true 16 false s
/-- TLBIVAA (R202). -/
def execTlbivaa (p : Nat) (rd ra rb : RegNo) (bc : Bool) (s : State) : Host.Outcome State Fault Refusal :=
  tlbm p rd ra rb bc false 0x01 true 0 false s
/-- TLBIASID (R202). -/
def execTlbiasid (p : Nat) (rd ra rb : RegNo) (bc : Bool) (s : State) : Host.Outcome State Fault Refusal :=
  tlbm p rd ra rb bc false 0x02 false 16 false s
/-- TLBIVMALL (R202). -/
def execTlbivmall (p : Nat) (rd ra rb : RegNo) (bc : Bool) (s : State) : Host.Outcome State Fault Refusal :=
  tlbm p rd ra rb bc false 0x03 false 0 false s
/-- TLBIVMID (R202). -/
def execTlbivmid (p : Nat) (rd ra rb : RegNo) (bc : Bool) (s : State) : Host.Outcome State Fault Refusal :=
  tlbm p rd ra rb bc false 0x10 false 12 true s
/-- TLBIHVA (R202). -/
def execTlbihva (p : Nat) (rd ra rb : RegNo) (bc : Bool) (s : State) : Host.Outcome State Fault Refusal :=
  tlbm p rd ra rb bc false 0x12 true 0 true s
/-- TLBIHALL (R202). -/
def execTlbihall (p : Nat) (rd ra rb : RegNo) (bc : Bool) (s : State) : Host.Outcome State Fault Refusal :=
  tlbm p rd ra rb bc false 0x13 false 0 true s
/-- TLBIWORLD (R202). -/
def execTlbiworld (p : Nat) (rd ra rb : RegNo) (bc : Bool) (s : State) : Host.Outcome State Fault Refusal :=
  tlbm p rd ra rb bc false 0x20 false 0 true s

/-- TLBSYNC (R202, R205): waits for the answer of every target of every earlier broadcast. -/
def execTlbsync (p : Nat) (rd ra rb : RegNo) (bc : Bool) (s : State) : Host.Outcome State Fault Refusal :=
  runInsn p false .idle (fun x => do
    illIf (rd != 0 || ra != 0 || rb != 0 || bc)
    privIf (x.level < 1)
    twinHold x.p
    stallIf ((← getCore x.p).tlbOut != 0)
    pure .seq) s

/-- What used the entries that a broadcast removed is performed or gone (R205): the stores queued before it, the uncached
requests sent before it, a per-line form, and the range engine's lines under stage 2 (R245). -/
def State.tlbDone (s : State) (p sid nc : Nat) : Bool :=
  let c := s.core p
  c.sq.all (fun e => e.size == 0 || decide (sid < e.sid)) && !s.postedOut p && c.mload.isNone &&
  (match c.wait with
   | some w => decide (nc ≤ w.tag)
   | none => true) &&
  (match c.cmo with
   | some x => x.2
   | none => true) &&
  (!c.range.s2 || c.range.out.isEmpty)

/-- The answers that a core owes and can give now. -/
def State.tlbSettle (s : State) (p : Nat) : State :=
  let due := (s.core p).tlbOwed.filter (fun e => s.tlbDone p e.2.1 e.2.2)
  due.foldl (fun a e => a.send { e.1 with opc := .tlbAck, src := agentOf p, dst := .agent e.1.req })
    (s.modCore p (fun c => { c with tlbOwed := c.tlbOwed.filter (fun e => !s.tlbDone p e.2.1 e.2.2) }))

/-- TLB_OP (R204, R205): the target removes the entries at once (R277), and answers once what used them is performed. -/
def execTlbOp (a : Nat) (s : State) : Host.Outcome State Fault Refusal :=
  if !agentIdOk a then .fault .noSuchUnit
  else
  match coreOfAgent a with
  | none => .next s
  | some p =>
    match s.recv (fun m => m.opc == .tlbOp && decide (m.dst = .agent a)) with
    | none => .next (s.tlbSettle p)
    | some (m, s) =>
      .next ((s.modCore p (fun c => { c.tlbRemove m.tlb.removes with tlbOwed := c.tlbOwed ++ [(m, c.sqSeq, c.ncSeq)] })).tlbSettle p)

/-- TLB_ACK (R205): one target has completed a broadcast. -/
def execTlbAck (a : Nat) (s : State) : Host.Outcome State Fault Refusal :=
  if !agentIdOk a then .fault .noSuchUnit
  else
  match coreOfAgent a with
  | none => .next s
  | some p =>
    match s.recv (fun m => m.opc == .tlbAck && decide (m.dst = .agent a)) with
    | none => .next s
    | some (_, s) => .next (s.modCore p (fun c => { c with tlbOut := c.tlbOut - 1 }))

/-- TABLE_WALK (R194–R198): an address that no TLB entry translates is walked at the core's world and level; the entry is
installed, or the fault is raised for the instruction at the program counter. -/
def execTableWalk (p : Nat) (fetch : Bool) (va : Nat) (write : Bool) (s : State) : Host.Outcome State Fault Refusal :=
  if !isCore p then .fault .noSuchUnit
  else
    match ready p s with
    | none => .next s
    | some (x, s1) =>
      if s.due p then .next s
      else if !((s1.core p).tlbHits fetch (regimeOf x x.world x.level) va).isEmpty then .next s
      else
        let n : Need := if fetch then ⟨false, false, true⟩ else if write then needStore else needLoad
        match s1.xlate x x.world x.level fetch n va with
        | (s2, .ok _) => .next s2
        | (s2, .error (.bus .miss pa _ _)) =>
          (match walkMiss x x.world (regimeOf x x.world x.level).dom va pa 5 s2 with
           | .error (.exc e) s3 => settle (takeExc x e) s3
           | .ok _ s3 => .next s3
           | .error .stall s3 => .next s3)
        | (s2, .error e) => settle (takeExc x (e.exc fetch va (if fetch then 1 else if write then 3 else 2) n.w)) s2

end Sys2Proof.Machine
end

