-- ==== Sys2Proof/Machine/Clock.lean ====
section
/-! DEFINITION. One CLK_PERI cycle: chip time, the cores' cycle counts and shields, the sampled interrupt lines (R27, R31,
R137, R157, R158, R180, R182, R489). -/

namespace Sys2Proof.Machine

/-! Chip time (R31). -/

/-- CT and its fraction after `n` steps of 5 + `ADJ` · 2^−32 ns. -/
def State.ctNext (s : State) (n : Nat) : Nat × Nat :=
  let adj := ((s.rd rCtadj).setWidth 32).toInt
  let total := ((s.ctFrac : Int) + n * (adj + 5 * 2 ^ 32)).toNat
  (s.ct.toNat + total / 2 ^ 32, total % 2 ^ 32)

/-- CT advances once the root PLL has locked; while the island runs from REFCLK, by two steps in each REFCLK cycle, which is
two CLK_PERI cycles long (R31, R510). -/
def State.ctTick (s : State) : State :=
  let n := if !s.ctOn then 0 else if !s.onRefclk then 1 else if s.now % 2 = 0 then 2 else 0
  if n = 0 then s
  else
    let x := s.ctNext n
    { s with ctFrac := x.2 }.wr ⟨.clkCt, 0, 0⟩ (BitVec.ofNat 64 x.1)

/-! Cores. -/

/-- Root-clock ticks in one core cycle (R27). -/
def State.divider (s : State) (p : Nat) : Nat :=
  if 1088 ≤ p then 6
  else
    match s.divNow (tileOfCore p) with
    | 0 => 4
    | 1 => 5
    | 2 => 6
    | _ => 8

/-- A shield after `n` core cycles, in which it has deferred the eligible interrupts `held` (R158). -/
def Core.shieldTick (c : Core) (n : Nat) (held : List (Nat × Nat)) : Core :=
  if !c.shOn then c
  else { c with shield := c.shield - n, shDefs := held.map (fun k => (k, tget 0 c.shDefs k + n)) }

/-- The snoop deferrals after `n` core cycles (R78). -/
def Core.deferTick (c : Core) (n : Nat) : Core := { c with defers := c.defers.map (fun e => (e.1, e.2 - n)) }

/-- A core after 48 ticks of the root clock. -/
def State.coreTick (s : State) (p : Nat) (c : Core) : Core :=
  if c.run = .off ∨ c.run = .parked then c
  else
    let d := s.divider p
    let t := c.rootTicks + 48
    (({ c with cycle := c.cycle + BitVec.ofNat 64 (t / d), rootTicks := t % d }).deferTick (t / d)).shieldTick (t / d)
      (if c.shOn then s.shHeld p else [])

/-- The answers to broadcasts that cores owe and can give now (R205). -/
def State.tlbTick (s : State) : State :=
  ((s.cores.filter (fun e => !e.2.tlbOwed.isEmpty)).map (·.1)).foldl State.tlbSettle s

/-- A VC3 packet that is held before a down link finds no room in its slot (R311, R315; log entry 70). -/
def State.slotsBlocked (s : State) : State :=
  if !s.anyDown then s
  else
    (s.net.filterMap (fun m => if m.vc3 && m.inj then s.heldAt m else none)).foldl
      (fun a l => a.fset ⟨.meshStat, l.1, 0⟩ meshStat_V3BLK 1) s

/-- One CLK_PERI cycle: what Firebreak's timers do at the end of the present one, and then the next. -/
def State.tick (s : State) : State :=
  let s := s.fbTimers
  let s : State := { s with now := s.now + 1, setNow := [], imgNow := [], intClr := [] }
  let s := s.ctTick
  let s : State := { s with ifaces := s.ifaces.map (fun e => (e.1, e.2.evalTmr s.ct)) }
  let s : State := { s with cores := s.cores.map (fun e => (e.1, s.coreTick e.1 e.2)) }
  let s := s.tlbTick.slotsBlocked
  let s := drivenLines.foldl State.sampleLine s
  (s.ifaces.map (·.1.1)).foldl State.notify s

end Sys2Proof.Machine
end

