-- ==== Sys2Proof/Machine/Ash.lean ====
section
/-! DEFINITION. The Ash Record's commands, freezes and power-fail copy, and the control of the Ledger's mirror (R549–R559). -/

namespace Sys2Proof.Machine

/-- A write of `LEDG_CTL` (R552, R566). -/
def State.wLedgCtl (s : State) (w : WriteReq) (r : Reg) (ok : Fld → Bool) : State × Bool :=
  if !ok ledgCtl_MEN then (s, true)
  else
    let was := s.fget r ledgCtl_MEN == 1
    let s := if was then s.plainBut w r ok [ledgCtl_MBASE] else s.plain w r ok
    if !was && s.fget r ledgCtl_MEN == 1 then
      (s.wr rLedgMseq (BitVec.ofNat 64 ((s.rd rLedgHead).toNat - 8192)), false)
    else (s, false)

/-- A write of `LEDG_STAT` of `ASH_STAT` and the like: W1C bits alone. -/
def State.wPlain (s : State) (w : WriteReq) (r : Reg) (ok : Fld → Bool) : State × Bool :=
  (s.plain w r ok, !(fields r.name).any ok)

/-- The end of a freeze (R556). -/
def State.unfreeze (s : State) : State :=
  ((s.fset rAshStat ashStat_FROZEN 0).fset rAshStat ashStat_FRZCAUSE 0).fset rAshStat ashStat_LOST 0

/-- A write of `ASH_CTL` (R556, R563): the trigger's fields, then `UNFREEZE`, then `FREEZE`. -/
def State.wAshCtl (s : State) (w : WriteReq) (r : Reg) (ok : Fld → Bool) : State × Bool :=
  if !ok ashCtl_FREEZE then (s, true)
  else
    let v := w.val &&& w.mask
    let s := s.plain w r ok
    let un := fld v ashCtl_UNFREEZE == 1
    let bad := un && (s.inSafe || s.fget rAshStat ashStat_FLUSHING == 1 || !(w.acc.isSbc || w.acc.collier))
    let s := if bad then s.fset rAshStat ashStat_ERR 1 else if un then s.unfreeze else s
    (if fld v ashCtl_FREEZE = 1 then s.ashFreezeNow 3 else s, bad)

/-- A write of `ASH_SWEVT` (R554): the writer with its domain, world and level. -/
def State.wAshSwevt (s : State) (w : WriteReq) (_r : Reg) (ok : Fld → Bool) : State × Bool :=
  if !ok ashSwevt_VALUE then (s, true)
  else
    (s.ashEvent 0x0050 (agentNo w.who) ((freeAshSrc 0x0050).toNat / 4096) (w.val &&& w.mask)
      (BitVec.ofNat 64 (w.dom + b2n w.world * 2 ^ 6 + w.level * 2 ^ 7)), false)

/-- ASH_RECORD_EVENT (R541, R555): one event a cycle, once the record is ready. -/
def execAshRecordEvent (s : State) : Host.Outcome State Fault Refusal :=
  if s.frozen || s.fget rAshStat ashStat_READY == 0 || s.ashTrig == some 0 then .next s
  else
    match s.ashQ with
    | [] => .next s
    | e :: q => .next (({ s with ashQ := q }.ashWrite e).ashTrigger e)

/-- ASH_TRIGGER_FREEZE (R556): the events after the trigger have been recorded; what is still queued is lost. -/
def execAshTriggerFreeze (s : State) : Host.Outcome State Fault Refusal :=
  if s.ashTrig ≠ some 0 then .next s
  else
    let n := min 65535 (s.fget rAshStat ashStat_LOST + s.ashQ.length)
    .next (({ s with ashQ := [] }.fset rAshStat ashStat_LOST n).ashFreezeNow 4)

/-! The power-fail copy (R557, R559). -/

def State.area (s : State) (i : Nat) : FlushArea := tget {} s.areas i

/-- The events that the ring holds, the last 4,096: the number of the first, and their bytes. -/
def State.ashTail (s : State) : Nat × List (BitVec 256) :=
  let h := s.fget rAshHead ashHead_SEQ
  let n := min h 4096
  (h - n, (List.range n).map (fun i => tget 0 s.ash ((h - n + i) % 65536)))

/-- The flush starts: into the area with the lower generation. -/
def State.startFlush (s : State) : State :=
  let i := if (s.area 0).gen ≤ (s.area 1).gen then 0 else 1
  let t := s.ashTail
  { s with
    areas := tput s.areas i { gen := (s.area (1 - i)).gen + 1, first := t.1, ct := s.ct, events := t.2, marked := false }
    flushTo := some i }.fset rAshStat ashStat_FLUSHING 1

/-- POWER_FAIL_WARNING (R557, R575): nPFW has been low for 1 µs. -/
def execPowerFailWarning (s : State) : Host.Outcome State Fault Refusal :=
  if s.flushTo.isSome || (s.frozen && s.fget rAshStat ashStat_FRZCAUSE == 2) then .next s
  else if s.frozen then .next (s.finc rAshStat ashStat_LOST).startFlush
  else
    let x := (freeAshSrc 0x0014).toNat
    let s := s.ashDrain.ashWrite ⟨s.ct, 0x0014, x % 4096, x / 4096, 0, 0⟩
    .next (s.ashFreezeNow 2).startFlush

/-- FLUSH_DONE (R557): the completion mark is written. -/
def execFlushDone (s : State) : Host.Outcome State Fault Refusal :=
  match s.flushTo with
  | none => .next s
  | some i =>
    .next ({ s with areas := tput s.areas i { s.area i with marked := true }, flushTo := none }.fset rAshStat ashStat_FLUSHING 0)

end Sys2Proof.Machine
end

