-- ==== Sys2Proof/Machine/Block.lean ====
section
/-! DEFINITION. Block copy and fill: major 0x2D (R79–R83). -/

namespace Sys2Proof.Machine

/-- Where a unit lies: translated, and in Normal memory (R80). The three checks of R80 come after both translations (R142). -/
def unitXlate (x : Ctx) (n : Need) (acc : Nat) (a : Word) : InsnM Piece := do
  let t ← translate x x.world x.level false n a.toNat acc
  pure ⟨a.toNat, t.pa, t.mt, 0, 64⟩

/-- The operands of a block instruction are aligned (R80): EADDR is the source only when it alone is misaligned. -/
def blockAligned (src : Option Word) (dst len : Word) : InsnM Unit := do
  let bad := fun (a : Word) => a.toNat % 64 != 0
  let srcBad := match src with
    | some a => bad a
    | none => false
  if bad dst then raise 0x03 dst.toNat 0 7
  else if srcBad then raise 0x03 (src.getD 0).toNat 0 6
  else if bad len then raise 0x03 dst.toNat 0 7
  else pure ()

def normalOnly (q : Piece) (acc : Nat) : InsnM Unit := if q.mt ≥ 2 then raise 0x04 q.va 0 acc else pure ()

/-- The eight aligned 8-byte accesses of a unit (R254, R473). A unit that is neither in the core's own Normal memory nor in
root-port MMIO is one posted write. -/
def unitStores (q : Piece) : List Piece :=
  (List.range 8).map (fun i => { q with va := q.va + 8 * i, pa := q.pa + 8 * i, off := 8 * i, size := 8 })

/-- The unit lies in root-port MMIO: eight TLPs of 8 bytes (R473). -/
def Piece.isRp (q : Piece) : Bool :=
  match place q.pa with
  | .rp _ _ => true
  | _ => false

/-- Writes one unit: each of its accesses is a store of its own (R254). -/
def writeUnit (x : Ctx) (q : Piece) (v : Line) : InsnM Unit := do
  storeCheck x 7 q
  (if q.queued x || q.isRp then unitStores q else [q]).forM (fun p => do
    let sid ← newSid x.p
    storePieces x 7 v false false sid 0 [p])

/-- Reads one unit. An exception names the first byte of the unit (R83). -/
def readUnit (x : Ctx) (e : Upset) (q : Piece) : InsnM Line := do
  let ps := if q.isRp then (unitStores q).map (fun p => { p with va := q.va }) else [q]
  return (← readPieces x 6 e none 0 ps).1

/-- One unit of a block instruction (R81): `src` is the source register of BCOPY. Units wait until the stores of earlier
ones are performed (R254), and an interrupt waits for a unit that has begun (R82). The instruction retires with its last unit.
With rb = 0 it retires at once, without the alignment check of R80: the spec does not say which of the two comes first (log
entry 60). -/
def blockUnit (x : Ctx) (rd rb : RegNo) (src : Option RegNo) (fill : Line) (e : Upset) : InsnM Flow := do
  let len ← getG x.p rb
  if len = 0 then pure .seq
  else
    let d ← getG x.p rd
    let a : Option Word ← match src with
      | none => pure none
      | some r => do pure (some (← getG x.p r))
    let sq ← match a with
      | none => pure none
      | some a => do pure (some (← unitXlate x needLoad 6 a))
    let dq ← unitXlate x needStore 7 d
    blockAligned a d len
    match sq with
    | some q => normalOnly q 6
    | none => pure ()
    normalOnly dq 7
    twinHold x.p
    let c ← getCore x.p
    stallIf (!c.sq.isEmpty || (← get).postedOut x.p)
    modCore x.p (fun c => { c with must := true })
    let v ← match sq with
      | none => pure fill
      | some q => readUnit x e q
    writeUnit x dq v
    modCore x.p (fun c => { c with wait := none, must := false })
    setG x.p rd (d + 64)
    match src, a with
    | some r, some a => setG x.p r (a + 64)
    | _, _ => pure ()
    setG x.p rb (len - 64)
    pure (if len = 64 then .seq else .part)

/-- BCOPY (R79–R83): one unit for each time it is offered. -/
def execBcopy (p : Nat) (rd ra rb : RegNo) (e : Upset) (ill : Bool) (s : State) : Host.Outcome State Fault Refusal :=
  runInsn p false .access (fun x => do
    illIf (ill || rd == 0 || rb == 0 || rd == rb || ra == 0 || ra == rd || ra == rb)
    blockUnit x rd rb (some ra) 0 e) s

/-- BFILL (R79–R83): the 64-bit value of ra eight times in each unit. -/
def execBfill (p : Nat) (rd ra rb : RegNo) (s : State) : Host.Outcome State Fault Refusal :=
  runInsn p false .access (fun x => do
    illIf (rd == 0 || rb == 0 || rd == rb || (ra != 0 && (ra == rd || ra == rb)))
    let v ← getG x.p ra
    blockUnit x rd rb none ((List.range 8).foldl (fun l i => lineSet l (8 * i) 8 (v.setWidth 512)) 0) .none) s

end Sys2Proof.Machine
end

