-- ==== Sys2Proof/Machine/Pwr.lean ====
section
/-! DEFINITION. Rails and temperatures (R570–R581). -/

namespace Sys2Proof.Machine

def rRail (r : Nat) : Reg := ⟨.pwrRailCtl, r, 0⟩
def rRailStat (r : Nat) : Reg := ⟨.pwrRailStat, r, 0⟩
def rTherm : Reg := ⟨.pwrTherm, 0, 0⟩

/-! Set values and limits (R570, R571), in mV. -/

/-- The set value of a rail. -/
def State.railSet (s : State) (r : Nat) : Nat :=
  if r < 16 then 650 + 5 * s.fget (rRail r) pwrRailCtl_SETV
  else if r = 16 then 800 else if r < 19 then 1100 else if r = 20 then 1800 else 850

def railMax (r : Nat) : Nat :=
  if r < 16 then 950 else if r = 16 then 880 else if r < 19 then 1210 else if r = 20 then 1980 else 930

/-- The distance between a reading and its set value. -/
def railOff (v set : Nat) : Nat := if v < set then set - v else v - set

/-- The reading lies outside the tolerance of its rail. -/
def railOut (r v set : Nat) : Bool :=
  if r < 16 then decide (20 < railOff v set)
  else decide ((if r = 20 then 5 else 3) * set < 100 * railOff v set)

/-- The tiles of a die, its spare tile (256 + d) included. -/
def tilesOfDie (d : Nat) : List Nat := (List.range 256).filter (fun t => dieOfCore (4 * t) == d) ++ [256 + d]

/-- The cores of a tile number (R48). -/
def tileCores (t : Nat) : List Nat := (List.range 4).map (fun j => if t < 256 then 4 * t + j else 1024 + 4 * (t - 256) + j)

/-- The voltage that a divider needs (R571). -/
def divMin (d : Nat) : Nat := if d = 0 then 880 else if d = 1 then 800 else if d = 2 then 720 else 650

/-- The least set value that R571 admits for a die: of its powered tiles, a pending divider at its new value. -/
def State.railMin (s : State) (d : Nat) : Nat :=
  (tilesOfDie d).foldl (fun a t =>
    if (tileCores t).any (fun p => (s.core p).run != .off) then max a (divMin (s.fget ⟨.clkTilediv, t, 0⟩ clkTilediv_DIV)) else a) 650

/-! Register writes (R579, R580). -/

/-- The measured voltage lies within ±10 mV of the set value. -/
def State.settle10 (s : State) (r : Nat) : Bool :=
  decide (railOff (s.fget (rRailStat r) pwrRailStat_VMEAS) (s.railSet r) ≤ 10)

/-- The end of a write of `PWR_RAIL_CTL`. -/
def State.railEnd (s : State) (r status : Nat) : State × Bool :=
  let s := s.fset (rRailStat r) pwrRailStat_STATUS status
  if status = 0 then (s, false) else (s.fset (rRailStat r) pwrRailStat_ERR 1, true)

/-- The regulator of a core rail goes to a new set value. -/
def State.railGo (s : State) (r v : Nat) : State :=
  let s := s.fset (rRail r) pwrRailCtl_SETV v
  if s.settle10 r then s
  else { s.fset (rRailStat r) pwrRailStat_SETTLED 0 with railRamp := tput s.railRamp r true }

/-- Every core port of the die, its spare-tile port included, is fenced (R580). -/
def State.dieFenced (s : State) (d : Nat) : Bool :=
  (tilesOfDie d).all (fun t =>
    if t < 256 then s.fget (rPort t 0) meshPort_STATE == 3 else s.fget (rPort (spareAttach d) 2) meshPort_STATE == 3)

/-- The cores of a die without power (R580). -/
def State.dieOff (s : State) (d : Nat) : State :=
  ((tilesOfDie d).flatMap tileCores).foldl (fun a p =>
    let c := a.core p
    (a.setCore p c.powerless).poolOf p) s

/-- A write of `SETV` of a core rail: the state, and the `STATUS` that it earns (R580). A reserved value is not written
(R10). -/
def State.wSetv (s : State) (i v : Nat) : State × Nat :=
  if 50 < v then (s, 0)
  else if 650 + 5 * v < s.railMin i ∨ s.fget (rRailStat i) pwrRailStat_SETTLED = 0 then (s, 1)
  else (s.railGo i v, 0)

/-- The new `SETV` that a write with a command offers (R8). -/
def State.setvBeside (s : State) (i v : Nat) : State × Nat :=
  if v = s.fget (rRail i) pwrRailCtl_SETV then (s, 0) else s.wSetv i v

/-- A write of `PWR_RAIL_CTL` (R367, R580). ON of a rail without power sets `SETV` itself. -/
def State.wRailCtl (s : State) (w : WriteReq) (r : Reg) (ok : Fld → Bool) : State × Bool :=
  let i := r.i
  let v := fld (s.off w r) pwrRailCtl_SETV
  let cmd := fld (s.off w r) pwrRailCtl_CMD
  if !ok pwrRailCtl_SETV then (s, true)
  else if i ≥ 16 then (s, false)
  else
    match cmd with
    | 1 =>
      if s.fget (rRailStat i) pwrRailStat_ON = 1 then
        let x := s.setvBeside i v
        x.1.railEnd i x.2
      else ((s.fset (rRailStat i) pwrRailStat_ON 1).railGo i 0).railEnd i 0
    | 2 =>
      let x := s.setvBeside i v
      if (tilesOfDie i).any s.tileClaimed then x.1.railEnd i 2
      else if !s.dieFenced i then x.1.railEnd i 1
      else ((x.1.fset (rRailStat i) pwrRailStat_ON 0).dieOff i).railEnd i x.2
    | _ =>
      if 50 < v then (s, false)
      else
        let x := s.wSetv i v
        x.1.railEnd i x.2

/-! Samples (R572, R576, R581). -/

/-- RAIL_SAMPLE (R572): one reading of a rail, in mV and mA. -/
def execRailSample (r mv ma : Nat) (s : State) : Host.Outcome State Fault Refusal :=
  if r ≥ 22 then .fault .noSuchUnit
  else
    let s := (s.fset (rRailStat r) pwrRailStat_VMEAS (min mv 4095)).fset (rRailStat r) pwrRailStat_IMEAS (min (ma / 1000) 1023)
    let near := s.settle10 r
    let on := s.fget (rRailStat r) pwrRailStat_ON == 1
    let s := s.fset (rRailStat r) pwrRailStat_SETTLED (b2n near)
    let s : State := if near then { s with railRamp := tdel s.railRamp r } else s
    if !on then .next { s with railBad := tdel s.railBad r, railFt := tdel s.railFt r }
    else
      let set := s.railSet r
      let ramp := tget false s.railRamp r
      let bad := if !ramp && railOut r mv set then tget 0 s.railBad r + 1 else 0
      let ft := if (!ramp && decide (mv + 60 < set)) || decide (railMax r < mv) then tget 0 s.railFt r + 1 else 0
      let s : State := { s with railBad := tput s.railBad r bad, railFt := tput s.railFt r ft }
      let s := if bad = 10 then s.report 3395 .uc else s
      let s := if r < 16 ∧ mv < s.railMin r then s.report 3395 .uc else s
      .next (if ft = 2 then s.report 3395 .ft else s)

/-- PMBUS_ALERT (R572, R576): `STATUS_WORD` of every rail is read; which regulators hold a fault is free. -/
def execPmbusAlert (s : State) : Host.Outcome State Fault Refusal :=
  let f := freeAlert s.draws
  .next ((((List.range 21).filter (fun r => f.getLsbD r)).foldl (fun a r => a.fset (rRailStat r) pwrRailStat_ALERT 1)
    s.draw).report 3395 .uc)

/-- `TMAX` and `TMAXID`. -/
def State.hottest (s : State) : Nat × Nat :=
  (List.range 18).foldl (fun a i =>
    let t := s.fget ⟨.pwrTemp, i, 0⟩ pwrTemp_TEMP
    if a.1 < t then (t, i) else a) (0, 0)

/-- TEMP_SAMPLE (R579, R581): one reading of a sensor, in °C. -/
def execTempSample (s : Nat) (temp : Int) (st : State) : Host.Outcome State Fault Refusal :=
  if s ≥ 18 then .fault .noSuchUnit
  else
    let r : Reg := ⟨.pwrTemp, s, 0⟩
    let old := st.fget r pwrTemp_TEMP
    let new := min temp.toNat 255
    let a := st.fset r pwrTemp_TEMP new
    let warn := a.fget rTherm pwrTherm_TWARN
    let crit := a.fget rTherm pwrTherm_TCRIT
    let a := if old < warn ∧ warn ≤ new then (a.fset r pwrTemp_WARN 1).report 3394 .uc else a
    let a := if old < crit ∧ crit ≤ new then a.report 3394 .ft else a
    let h := a.hottest
    .next ((a.fset rTherm pwrTherm_TMAX h.1).fset rTherm pwrTherm_TMAXID h.2)

end Sys2Proof.Machine
end

