-- ==== Sys2Proof/Machine/Cr.lean ====
section
/-! DEFINITION. Control-register access: major 0x39 (R89–R91), with the effects of the registers that act. -/

namespace Sys2Proof.Machine

/-- The fields of a copy: the L1 copies of `ESTAT` have no `NMIACT`, the others no gate counts (R151). -/
def crFields (k : CrKey) (i : CrInfo) : List Fld :=
  if k.crn = 0x103#12 then (fields i.name).filter (fun f => f != estat_NMIACT)
  else if k.crn = 0x203#12 ∨ k.crn = 0x303#12 then
    (fields i.name).filter (fun f => f != estat_GDL0 && f != estat_GDL1)
  else fields i.name

/-- A copy after a write of `v`. `CEILING` has one reserved encoding per world (R352). -/
def crMerge (k : CrKey) (i : CrInfo) (old v : Word) : Word :=
  if k.crn = 0x120#12 ∧ fld v ceiling_MAX = (if k.world then 2 else 3) then old
  else mergeReg (crFields k i) (fun _ => true) old v (BitVec.allOnes 64)

/-- `PEATCFG` after a write (R226, R227): `l3` that the writer runs at L3. -/
def Core.writePeatcfg (c : Core) (world l3 : Bool) (i : CrInfo) (v : Word) : Core :=
  let k : CrKey := ⟨world, 0x111#12⟩
  let ok : CrKey := ⟨false, 0x111#12⟩
  let old := c.crv k
  let x := fld v peatcfg_SIZE
  let rest := mergeReg (fields i.name) (fun f => f != peatcfg_SIZE) old v (BitVec.allOnes 64)
  let changes := decide (x ≤ 4 ∧ x ≠ fld old peatcfg_SIZE)
  if !world then
    if decide (x + c.crFld ⟨true, 0x111#12⟩ peatcfg_SIZE > 4) then c.setCr k (setFld rest peatcfg_REFUSED 1)
    else c.setCr k (crMerge k i old v)
  else if changes && c.peatUnits false != 0 then
    if l3 then
      let n := c.peatUnits true * 1024
      let stays := fun (ln : Nat) => !isPeat ln || decide (ln % 0x100000 / 64 < n)
      let c := { c with peat := c.peat.filter (fun e => e.1 < n), l1i := c.l1i.filter (fun e => stays e.2.line)
                        l1d := c.l1d.filter (fun e => stays e.2.line) }
      let o := setFld (setFld (setFld (c.crv ok) peatcfg_SIZE 0) peatcfg_CUR 0) peatcfg_LOST 1
      (c.setCr ok o).setCr k (crMerge k i old v)
    else c.setCr k (setFld rest peatcfg_REFUSED 1)
  else c.setCr k (crMerge k i old v)

/-- The value that a write replaces is kept for the registers of R133 until the next context-synchronising event. -/
def Core.keepOld (c : Core) (k : CrKey) : Core :=
  if syncCr k.crn then { c with arch := { c.arch with crOld := c.arch.crOld ++ [(k, c.crv k)] } }
  else c

/-- A write of a copy and what it does besides (R121, R161, R226, R227). -/
def Core.crWrite (c : Core) (k : CrKey) (i : CrInfo) (l3 : Bool) (v : Word) : Core :=
  let c := c.keepOld k
  if k.crn = 0x111#12 then c.writePeatcfg k.world l3 i v
  else
    let c := c.setCr k (crMerge k i (c.crv k) v)
    if k.crn = 0x110#12 ∧ fld v specctl_PFLUSH = 1 then { c with pflush := true }
    else if (k.crn = 0x203#12 ∨ k.crn = 0x303#12) ∧ fld v estat_NMIACT = 1 then { c with nmiAct := false }
    else c

/-- The control registers whose writes the Change Ledger records (R183, R377). -/
def crLogged (crn : BitVec 12) : Bool :=
  let n := crn.toNat
  n == 0x106 || n == 0x206 || n == 0x101 || n == 0x120 || n == 0x130 || n == 0x315 || (decide (0x318 ≤ n) && decide (n ≤ 0x31F))

/-- Performs a write that passed its checks. A logged one waits for the Ledger (R549, log entry 22). -/
def crPerform (x : Ctx) (k : CrKey) (i : CrInfo) (v : Word) : InsnM Unit := do
  let s ← get
  let old := (s.core x.p).crv k
  if crLogged k.crn then
    stallIf !s.ledgTakes (agentOf x.p)
    let w : WriteReq := { who := .core x.p, world := x.world, dom := x.dom, level := x.level, tgt := .cr x.p k.world k.crn,
                          val := v, at_ := s.now }
    modify (fun s => s.ledgLog w old v false)
  modCore x.p (·.crWrite k i (x.level == 3) v)

/-- The copy that MFC and MTC reach, after the checks of R89. -/
def crCheck (x : Ctx) (crn : BitVec 12) (write : Bool) : InsnM (CrInfo × CrKey) := do
  match crInfo crn with
  | none => ill
  | some i =>
    illIf (!x.world && decide (0x300 ≤ crn.toNat ∧ crn.toNat ≤ 0x3FF))
    match crKey x.world i crn, i.wl with
    | none, _ => ill
    | some k, w =>
      illIf (write && w.isNone)
      privIf (x.level < (if write then w.getD 0 else i.rl))
      pure (i, k)

/-- The open copy that MFCO and MTCO reach, after the checks of R91. -/
def croCheck (x : Ctx) (crn : BitVec 12) (write : Bool) : InsnM (CrInfo × CrKey) := do
  match crInfo crn with
  | none => ill
  | some i =>
    illIf (decide (0x300 ≤ crn.toNat ∧ crn.toNat ≤ 0x3FF) || i.kind == .core || (write && i.wl.isNone))
    privIf (x.level < 3)
    pure (i, ⟨false, crn⟩)

/-- MTC of a value. -/
def mtcBody (crn : BitVec 12) (ra : RegNo) (x : Ctx) : InsnM Flow := do
  let (i, k) ← crCheck x crn true
  crPerform x k i (← getG x.p ra)
  pure .seq

/-- MTCO of a value. -/
def mtcoBody (crn : BitVec 12) (ra : RegNo) (x : Ctx) : InsnM Flow := do
  let (i, k) ← croCheck x crn true
  crPerform x k i (← getG x.p ra)
  pure .seq

/-- MFC (R89); `ill` stands for the reserved sub values. -/
def execMfc (p : Nat) (rd _ra : RegNo) (crn : BitVec 12) (isIll : Bool) (s : State) : Host.Outcome State Fault Refusal :=
  runInsn p true .idle (fun x => do
    illIf isIll
    let (_, k) ← crCheck x crn false
    setG p rd ((← get).crRead p k)
    pure .seq) s

/-- MTC (R89). -/
def execMtc (p : Nat) (_rd ra : RegNo) (crn : BitVec 12) (s : State) : Host.Outcome State Fault Refusal :=
  runInsn p true .idle (mtcBody crn ra) s

/-- MFCO (R91). -/
def execMfco (p : Nat) (rd _ra : RegNo) (crn : BitVec 12) (s : State) : Host.Outcome State Fault Refusal :=
  runInsn p true .idle (fun x => do
    let (_, k) ← croCheck x crn false
    setG p rd ((← get).crRead p k)
    pure .seq) s

/-- MTCO (R91). -/
def execMtco (p : Nat) (_rd ra : RegNo) (crn : BitVec 12) (s : State) : Host.Outcome State Fault Refusal :=
  runInsn p true .idle (mtcoBody crn ra) s

/-- PEATCFG_WRITE (R226, R227): a write of `PEATCFG`; the open copy is reached by MTC in the open world and by MTCO. -/
def execPeatcfgWrite (p : Nat) (ra : RegNo) (openCopy : Bool) (s : State) : Host.Outcome State Fault Refusal :=
  runInsn p true .idle (fun x =>
    if openCopy && x.world then mtcoBody 0x111#12 ra x
    else mtcBody 0x111#12 ra x) s

/-- SPECCTL_PFLUSH (R121): a write of `SPECCTL`, whose `PFLUSH` bit clears the predictors at the next
context-synchronising event. -/
def execSpecctlPflush (p : Nat) (ra : RegNo) (s : State) : Host.Outcome State Fault Refusal :=
  runInsn p true .idle (mtcBody 0x110#12 ra) s

/-- NMIACT_CLEAR (R161): a write of an `ESTAT`, whose `NMIACT` bit clears the NMI-active flag. -/
def execNmiactClear (p : Nat) (ra : RegNo) (crn : BitVec 12) (s : State) : Host.Outcome State Fault Refusal :=
  runInsn p true .idle (mtcBody crn ra) s

end Sys2Proof.Machine
end

