-- ==== Sys2Proof/Machine/Jtag.lean ====
section
/-! DEFINITION. The memory accesses of JTAG debug access as agent 0x850 (R25, R268, R370, R371): what it asks of the mesh and
what it makes of the answers. -/

namespace Sys2Proof.Machine

/-- What leaves the module at its lands. -/
def State.emit (s : State) (m : OutMsg) : State := { s with out := s.out ++ [m] }

/-- The request of a memory access: ReadOnce or WritePtl to a home, an uncached request elsewhere (R268). It bears the world
and domain of the core (R26) and enters the mesh at T(0,8) (R587). -/
def State.dbgMsg (s : State) (d : DbgWait) (world : Bool) (dom : Nat) (v : Word) : Msg :=
  let m : Msg := { opc := .readOnce, pa := lineOf d.pa, src := 0x850, dst := .home (s.homeFrom (routerOf 0x850) d.pa), req := 0x850
                   world := world, dom := dom, vc3 := s.quiet world dom, tag := d.tag }
  match place d.pa with
  | .dram =>
    if d.write then
      { m with opc := .writePtl, data := v.setWidth 512 <<< (8 * lineOff d.pa)
               bmask := BitVec.ofNat 64 ((2 ^ d.size - 1) * 2 ^ lineOff d.pa) }
    else m
  | _ =>
    { m with opc := if d.write then .ncWriteO else .ncRead
             pa := d.pa, dst := .target, size := d.size, data := v.setWidth 512, aux := d.tag }

/-- Begins a memory access. -/
def State.dbgAsk (s : State) (d : DbgWait) (world : Bool) (dom : Nat) (v : Word) : State :=
  { s with dbg := some d, dbgSeq := s.dbgSeq + 1 }.send (s.dbgMsg d world dom v)

/-- The bytes of a read, unless they are poisoned. -/
def DbgWait.bytes (d : DbgWait) (data : Line) (po : BitVec 4) : Option Line :=
  if poisoned (poison8 po) (lineOff d.pa) d.size then none else some (lineGet data (lineOff d.pa) d.size)

/-- The access in progress is answered: with what it returns, or a refusal. An answer to an access that was given up is
dropped. -/
def State.dbgAnswer (s : State) (tag : Nat) (v : DbgWait → Option Line) : State :=
  match s.dbg with
  | none => s
  | some d =>
    if d.tag = tag then
      { s with dbg := none }.emit (match v d with
        | some x => .jtag x
        | none => .jtagRefuse)
    else s

/-- The access in progress completes with a refusal and no effect (R371): its request is taken back wherever it waits. -/
def State.dbgCancel (s : State) : State :=
  let mine := fun (m : Msg) => m.src == 0x850 && m.opc.vc == 0
  let held := fun (r : ChReq) => match r.who with
    | .nc m => mine m
    | _ => false
  { s with
    net := s.net.filter (fun m => !mine m)
    hq := s.hq.map (fun (e : Nat × List Msg) => (e.1, e.2.filter (fun m => !mine m)))
    resend := s.resend.filter (fun (e : Msg × Nat) => !mine e.1)
    txns := s.txns.map (fun (e : (Nat × Nat) × Txn) =>
      if mine e.2.msg then (e.1, { e.2 with msg := { e.2.msg with bmask := 0 } }) else e)
    chans := s.chans.map (fun (e : Nat × Chan) => (e.1, { e.2 with queue := e.2.queue.filter (fun r => !held r) }))
    dbg := none }.emit .jtagRefuse

end Sys2Proof.Machine
end

