-- ==== Sys2Proof/Machine/Twin.lean ====
section
/-! DEFINITION. Twin pairs (R378–R389), claims of the sealed world (R366–R369), debug (R370–R372). -/

namespace Sys2Proof.Machine

def rTwin (k : Nat) : Reg := ⟨.cfgTwin, k, 0⟩
def rTwstat (k : Nat) : Reg := ⟨.cfgTwstat, k, 0⟩

/-- The leader of a pair whose mapping meets R378. -/
def State.pairPcn (s : State) (k : Nat) : Option Nat :=
  let p := s.pcnOf (2 * k)
  if p % 2 = 0 ∧ s.pcnOf (2 * k + 1) = p + 1 ∧ p < 1088 then some p else none

/-- The leader of a formed pair. -/
def State.twinLead (s : State) (k : Nat) : Option Nat := if s.fget (rTwin k) cfgTwin_EN = 1 then s.pairPcn k else none

def State.twinState (s : State) (k : Nat) : Nat := s.fget (rTwin k) cfgTwin_STATE

/-- `CFG_TWPC` of a pair whose last agreed point is `a`. -/
def twpcWord (a : Arch) : Word :=
  setFld (setFld (setFld 0 cfgTwpc_PC (bits a.pc.toNat 2 46)) cfgTwpc_LEVEL a.level) cfgTwpc_WORLD (b2n a.world)

/-- `CFG_TWPC` as read. -/
def State.twpc (s : State) (k : Nat) : Word :=
  match (s.twinLead k).bind (fun p => (s.core p).ck) with
  | some a => twpcWord a
  | none => s.rd ⟨.cfgTwpc, k, 0⟩

/-- A free architectural state: every register a free value (R380). -/
def freeArch (draw : Nat) : Arch :=
  let v := freeFollower draw
  let lv := (v 2000).toNat % 4
  let keys : List CrKey := [false, true].flatMap (fun w => ((List.range 0x320).filterMap (fun n =>
    match crInfo (BitVec.ofNat 12 n) with
    | some i => if crKey w i (BitVec.ofNat 12 n) = some ⟨w, BitVec.ofNat 12 n⟩ then some ⟨w, BitVec.ofNat 12 n⟩ else none
    | none => none)))
  { g := (List.range 30).map (fun i => (BitVec.ofNat 5 (i + 1), v i))
    sp := (List.range 8).map (fun i => ((decide (4 ≤ i), i % 4), v (32 + i)))
    f := (List.range 32).map (fun i => (BitVec.ofNat 5 i, (v (64 + 2 * i)).setWidth 128 ||| ((v (65 + 2 * i)).setWidth 128 <<< 64)))
    cr := keys.filterMap (fun k =>
      match crInfo k.crn with
      | some i => if k.crn = 0x111#12 then none else some (k, crMerge k i 0 (v (1000 + k.crn.toNat + b2n k.world * 2048)))
      | none => none)
    pc := v 2001 &&& 0xFFFFFFFFFFFC
    level := lv
    world := lv == 3 || (lv != 2 && (v 2002).getLsbD 0)
    instret := v 2003 }

/-- A write of `CFG_TWIN[k]` (R379): one that does not cover `EN` is no write of it, and a 1 forms the pair of the present
mapping, whatever `EN` reads. -/
def State.wTwin (s : State) (w : WriteReq) (r : Reg) (ok : Fld → Bool) : State × Bool :=
  let k := r.i
  let en := fld (s.off w r) cfgTwin_EN
  let s := s.plainBut w r ok [cfgTwin_EN]
  if !ok cfgTwin_EN || fld w.mask cfgTwin_EN == 0 then (s, false)
  else
    match s.pairPcn k with
    | none => (s.fset r cfgTwin_ERR 1, true)
    | some p =>
      if !(s.isParked p && s.isParked (p + 1)) then (s.fset r cfgTwin_ERR 1, true)
      else if en = 1 then
        (((s.fset r cfgTwin_EN 1).fset r cfgTwin_STATE 1).fset (rTwstat k) cfgTwstat_RPCNT 0 |>.followerJoins p, false)
      else if s.fget r cfgTwin_EN = 0 then (s, false)
      else
        let s := s.wr ⟨.cfgTwpc, k, 0⟩ (s.twpc k)
        let s := (s.fset r cfgTwin_EN 0).fset r cfgTwin_STATE 0
        ((s.modCore (p + 1) (fun c => { c with arch := freeArch s.draws, peat := [], lines := [], l1i := [], l1d := [], ck := none })).modCore p
          (fun c => { c with ck := none }) |>.draw, false)

/-- A write of `CFG_TWSTAT[k]` (R389). -/
def State.wTwstat (s : State) (_w : WriteReq) (r : Reg) (ok : Fld → Bool) : State × Bool :=
  if ok cfgTwstat_ROLLCNT then ((s.fset r cfgTwstat_ROLLCNT 0).fset r cfgTwstat_MKIND 0, false) else (s, true)

/-- The pair runs, or stops at a boundary still to come. -/
def Core.inPair (c : Core) : Bool := c.run == .running || c.run == .parking || c.run == .safehalt

/-- The first `n` instructions since the last agreed point are agreed (R383). -/
def Core.agree (c : Core) (n : Nat) : Core :=
  { c with ck := c.unagreed[n - 1]?.or c.ck, unagreed := c.unagreed.drop n, sq := c.sq.map (fun e => { e with grp := e.grp - n }) }

/-- GROUP_AGREED (R383, R384): a retire group of `n` instructions, the next after the last agreed point, is agreed. -/
def execGroupAgreed (k n : Nat) (s : State) : Host.Outcome State Fault Refusal :=
  if k ≥ 512 then .fault .noSuchUnit
  else
    match s.twinLead k with
    | none => .next s
    | some p =>
      if !(s.core p).inPair || decide (n = 0 ∨ (s.core p).unagreed.length < n) then .next s
      else
        let s := s.modCore p (·.agree n)
        .next (s.fset (rTwstat k) cfgTwstat_RPCNT (min 4096 (s.fget (rTwstat k) cfgTwstat_RPCNT + n)))

/-- An `ESTAT` of the core records an NMI entry that the checkpoint does not know (R386). -/
def nmiUndone (old now : Arch) : Bool :=
  [(false, 0x203#12), (true, 0x303#12)].any (fun k =>
    (tget 0 now.cr ⟨k.1, k.2⟩).getLsbD 12 && !(tget 0 old.cr ⟨k.1, k.2⟩).getLsbD 12)

/-- The registers of the last agreed point come back, and nothing of what has begun since is left (R386 steps 1 and 3). With
nothing retired since, what has issued goes on (R385). -/
def Core.toCheckpoint (c : Core) : Core :=
  match c.ck with
  | some a =>
    if c.unagreed.isEmpty then c
    else
      let again := c.nmiAct && nmiUndone a c.arch
      { c with arch := a, unagreed := [], wait := none, mload := none, must := false, pick := none, converting := false
               nmiAct := c.nmiAct && !again, nmiLatch := c.nmiLatch || again }
  | none => c

/-- The pair falls back to its last agreed point (R386 steps 1–3). -/
def State.rollback (s : State) (p : Nat) : State :=
  ((s.modCore p (fun c =>
    let c := c.endShield.l1Empty
    { c with sq := c.sq.filter (fun e => e.grp == 0), monitor := none, acted := false, wfi := false, early := [], specRefused := [] }.toCheckpoint)).modCore
      (p + 1) (·.l1Empty)).endDefers p

/-- TWIN_MISMATCH (R386, R387): comparison `kind` (R389) fails. -/
def execTwinMismatch (k kind : Nat) (s : State) : Host.Outcome State Fault Refusal :=
  if k ≥ 512 then .fault .noSuchUnit
  else
    match s.twinLead k with
    | none => .next s
    | some p =>
      if !(s.core p).inPair || kind = 0 || decide (7 < kind) then .next s
      else
        let again := s.twinState k == 2
        let s := (s.rollback p).fset (rTwstat k) cfgTwstat_MKIND kind
        if again then
          let s := s.fset (rTwin k) cfgTwin_STATE 3
          let s := s.wr ⟨.cfgTwpc, k, 0⟩ (s.twpc k)
          .next (((s.modCore p (fun c => { c with run := .stopped, nmiLatch := false })).modCore (p + 1) (fun c => { c with run := .stopped })).report
            (1696 + p / 2) .uc kind)
        else
          let s := s.finc (rTwstat k) cfgTwstat_ROLLCNT
          .next (((s.fset (rTwstat k) cfgTwstat_RPCNT 0).fset (rTwin k) cfgTwin_STATE 2).report (1152 + p / 2) .ce kind)

/-- REPLAY_END (R387). -/
def execReplayEnd (k : Nat) (s : State) : Host.Outcome State Fault Refusal :=
  if k ≥ 512 then .fault .noSuchUnit
  else if s.twinState k = 2 ∧ s.fget (rTwstat k) cfgTwstat_RPCNT = 4096 then .next (s.fset (rTwin k) cfgTwin_STATE 1)
  else .next s

/-! Claims (R368, R369). -/

/-- The writer may change a claim bit to `b`. -/
def Acc.mayClaim (a : Acc) (b : Bool) : Bool := a.isSbc || (!b && a.sealed3)

/-- The cores of a tile, or of a spare tile. -/
def coresOfTile (i : Nat) : List Nat := (List.range 4).map (fun j => if i < 256 then 4 * i + j else 1024 + 4 * (i - 256) + j)

/-- The release of a tile zeroes the sealed Peat ways of its cores. -/
def Core.releaseClaim (c : Core) : Core :=
  let n := c.peatUnits true
  let o := c.peatUnits false
  let k : CrKey := ⟨true, 0x111#12⟩
  let c := { c with peat := c.peat.filter (fun e => decide (n * 1024 ≤ e.1 ∧ e.1 < o * 1024)) }
  (c.setCrFld k peatcfg_SIZE 0).setCrFld k peatcfg_CUR 0

/-- A write of `SBC_CLAIM_TILE[i]`. -/
def State.wClaimTile (s : State) (w : WriteReq) (r : Reg) (ok : Fld → Bool) : State × Bool :=
  let old := s.fget r sbcClaimTile_CLAIM
  let new := fld (s.off w r) sbcClaimTile_CLAIM
  let s := s.plainBut w r ok [sbcClaimTile_CLAIM]
  if new = old then (s, false)
  else if !w.acc.mayClaim (new == 1) || !(coresOfTile r.i).all s.isParked then (s.fset r sbcClaimTile_ERR 1, true)
  else
    let s := if new = 0 then (coresOfTile r.i).foldl (fun a p => a.modCore p (·.releaseClaim)) s else s
    (s.fset r sbcClaimTile_CLAIM new, false)

/-- A write of a register of claim bits: each bit is a change of its own; `may` says which may change, `err` is the error
bit. -/
def State.wClaimBits (s : State) (w : WriteReq) (r : Reg) (n : Nat) (may : Nat → Bool) (err : Fld) : State × Bool :=
  let old := s.rd r
  let new := s.off w r
  let ch := (List.range n).filter (fun i => old.getLsbD i != new.getLsbD i)
  let good := ch.filter (fun i => w.acc.mayClaim (new.getLsbD i) && may i)
  let v := good.foldl (fun (a : Word) i => a ^^^ (1#64 <<< i)) old
  let s := s.wr r v
  if good.length = ch.length then (s, false) else (s.fset ⟨.sbcClaimStat, 0, 0⟩ err 1, true)

/-- A write of `SBC_CLAIM_FN[j]`: only while the function is `DISABLED`. -/
def State.wClaimFn (s : State) (w : WriteReq) (r : Reg) (_ok : Fld → Bool) : State × Bool :=
  s.wClaimBits w r 64 (fun i => s.fget ⟨.fxFnCtl, 64 * r.i + i, 0⟩ fxFnCtl_STATE == 0) sbcClaimStat_FNERR

def State.wClaimMc (s : State) (w : WriteReq) (r : Reg) (_ok : Fld → Bool) : State × Bool :=
  s.wClaimBits w r 16 (fun _ => true) sbcClaimStat_MCERR

/-- A write of `SBC_CLAIM_KEY[j]`: register 1 holds no claim that changes. -/
def State.wClaimKey (s : State) (w : WriteReq) (r : Reg) (_ok : Fld → Bool) : State × Bool :=
  s.wClaimBits w r (if r.i = 0 then 64 else 0) (fun _ => true) sbcClaimStat_KEYERR

/-! Debug (R370–R372). -/

/-- The effective enables of a PCN (R370). -/
def State.dbgEff (s : State) (p : Nat) : Nat :=
  if p < 1088 then
    let v := s.rd ⟨.coreDbgen, p, 0⟩
    (fld v coreDbgen_FUSE) &&& ((fld v coreDbgen_KEN) ||| (fld v coreDbgen_AUTH))
  else 0

/-- The invasive, or the non-invasive, enable for the world in which a core executes. -/
def State.invasive (s : State) (p : Nat) : Bool := (s.dbgEff p).testBit (if (s.core p).arch.world then 3 else 1)
def State.sampling (s : State) (p : Nat) : Bool := (s.dbgEff p).testBit (if (s.core p).arch.world then 2 else 0)

/-- Cores whose enable has fallen to 0 are released at once; a memory access in progress on behalf of one is refused (R371). -/
def State.debugRelease (s : State) : State :=
  let t : State := { s with cores := s.cores.map (fun e =>
      if e.2.halted && !s.invasive e.1 then (e.1, { e.2 with halted := false, stepping := false }) else e) }
  match t.dbg with
  | some d => if (s.core d.core).halted && !(t.core d.core).halted then t.dbgCancel else t
  | none => t

/-- A write of `CORE_DBGEN` (R372). -/
def State.wDbgen (s : State) (w : WriteReq) (r : Reg) (ok : Fld → Bool) : State × Bool :=
  if ok coreDbgen_KEN then ((s.plain w r ok).debugRelease, false) else (s, true)

/-- `CORE_DBGEN` as read. -/
def State.dbgenRead (s : State) (p : Nat) : Word := setFld (s.rd ⟨.coreDbgen, p, 0⟩) coreDbgen_EFF (s.dbgEff p)

/-- DEBUG_SAMPLE (R370): PC, `CYCLE` and `INSTRET`, or 0. In a Twin pair `INSTRET` counts agreed instructions (R138). -/
def execDebugSample (p : Nat) (s : State) : Host.Outcome State Fault Refusal :=
  if !isCore p then .fault .noSuchUnit
  else
    let c := s.core p
    if c.run == .running && !c.halted && s.sampling p then
      let n := c.arch.instret - BitVec.ofNat 64 c.unagreed.length
      .next (s.emit (.jtag (inDword 0 c.arch.pc ||| inDword 1 c.cycle ||| inDword 2 n)))
    else .next (s.emit (.jtag 0))

/-- DEBUG_HALT_REQUEST (R371). -/
def execDebugHaltRequest (p : Nat) (s : State) : Host.Outcome State Fault Refusal :=
  if !isCore p then .fault .noSuchUnit
  else .next (s.modCore p (fun c => { c with haltReq := !c.halted }))

/-- DEBUG_HALT (R371). -/
def execDebugHalt (p : Nat) (s : State) : Host.Outcome State Fault Refusal :=
  if !isCore p then .fault .noSuchUnit
  else
    let c := s.core p
    if c.haltReq && !c.halted && c.run == .running && !c.mustFinish && !c.draining && s.invasive p && !s.follows p then
      .next (s.setCore p { c with halted := true, haltReq := false, wait := none, mload := none, pick := none })
    else .next s

end Sys2Proof.Machine
end

