-- ==== Sys2Proof/Machine/Cfg.lean ====
section
/-! DEFINITION. Accesses to the module configuration space: what stands at an offset, who may reach it, what the Ledger logs,
what a write does (R6–R13, R38–R49, R549, R585). -/

namespace Sys2Proof.Machine

/-! Register reads. -/

/-- The `IP` bits of sources 64i to 64i + 63. -/
def State.ipend (s : State) (i : Nat) : Word :=
  (List.range 64).foldl (fun a j => if s.fget (rFbStat (64 * i + j)) fbSrcStat_IP = 1 then a ||| ((1#64) <<< j) else a) 0

/-- A register as read: what it stores, with the fields that show other state. -/
def State.regRead (s : State) (r : Reg) : Word :=
  let v := s.rd r
  match r.name with
  | .cfgLcnmap => setFld v cfgLcnmap_PARKED (b2n (s.isParked (s.pcnOf r.i)))
  | .cfgTwpc => s.twpc r.i
  | .cfgQuiet => setFld (setFld v cfgQuiet_WAYOK (b2n (s.wayOk (r.i == 1) r.j))) cfgQuiet_BWOK (b2n (s.bwOk r.j))
  | .coreStat => s.coreStatRead r.i
  | .coreDbgen => s.dbgenRead r.i
  | .idistSrcCfg => setFld v idistSrcCfg_EDGE (b2n (s.edgeSrc r.i))
  | .idistSrcState => s.srcStateRead r.i
  | .idistTgtStat =>
    match s.coreOfTarget r.i with
    | some p => setFld v idistTgtStat_NMIACT (b2n (s.core p).nmiAct)
    | none => v
  | .slCtl => setFld v slCtl_BKTCNT (s.bktCnt r.i)
  | .slHqcfg => setFld v slHqcfg_OCC (min 63 (tget [] s.hq r.i).length)
  | .fxQCfg =>
    match s.fnOfQueue r.i with
    | some n => setFld (setFld v fxQCfg_FN n) fxQCfg_FNV 1
    | none => setFld (setFld v fxQCfg_FN 0) fxQCfg_FNV 0
  | .fxFnPend =>
    setFld (setFld (setFld 0 fxFnPend_RDOUT (min 511 (s.rdOut r.i))) fxFnPend_WROUT (min 4095 (s.wrOut r.i)))
      fxFnPend_CLSCNT (s.clsCnt r.i)
  | .fbIpend => s.ipend r.i
  | .ledgStat => setFld v ledgStat_QOCC (min 16 s.ledgQ.length)
  | .sel =>
    match blkOfNum r.i with
    | some b =>
      let st := s.selStatus b r.j (fld v sel_KIND) (fld v sel_INDEX)
      setFld (setFld v sel_SEL_STATUS st) sel_SEL_VALID (b2n (st == 0))
    | none => v
  | _ => v

/-! Register writes. -/

/-- A write of `_SEL`: a kind that the block does not define is a reserved encoding (R42). -/
def State.wSel (s : State) (w : WriteReq) (r : Reg) (ok : Fld → Bool) : State × Bool :=
  match blkOfNum r.i with
  | some b =>
    if instCount b (fld (s.off w r) sel_KIND) = 0 then (s.plainBut w r ok [sel_KIND], false) else (s.plain w r ok, false)
  | none => (s, false)

/-- A write of `CFG_QUIET` (R390). -/
def State.wQuiet (s : State) (w : WriteReq) (r : Reg) (ok : Fld → Bool) : State × Bool :=
  ((s.plain w r ok).quietCheck, !(fields r.name).any ok)

/-- A write of `SBC_RST` (R565). -/
def State.wSbcRst (s : State) (w : WriteReq) (r : Reg) (ok : Fld → Bool) : State × Bool :=
  if !ok sbcRst_CMD then (s, true)
  else
    match fld (s.off w r) sbcRst_CMD with
    | 1 => (s.askReset 4 1, false)
    | 2 => (s.askReset 3 1, false)
    | _ => (s, false)

/-- The end of an update of component `c` (R545, R548): its boot-attempt counter is cleared. -/
def State.confirmed (s : State) (c : Nat) : State :=
  let slot := s.fget rSbcStat (if c = 1 then sbcStat_KSLOT else if c = 2 then sbcStat_KILNSLOT else sbcStat_CWSLOT)
  let s : State := { s with attempts := tput s.attempts (c, slot) 0 }
  if s.updating = some c then { s with updating := none }.fset rSbcStat sbcStat_UPD 0 else s

/-- A write of `SBC_CONFIRM` (R545). -/
def State.wSbcConfirm (s : State) (w : WriteReq) (r : Reg) (ok : Fld → Bool) : State × Bool :=
  if !ok sbcConfirm_KILN then (s, true)
  else if fld (s.off w r) sbcConfirm_KILN = 1 then (s.confirmed 2, false)
  else (s, false)

def rCapstat (c : Nat) : Reg := ⟨.sbcCapstat, c, 0⟩

/-- A write of `SBC_CAPOP[c]` (R547): a request starts, or the write is ignored. Kindling refuses an operation that it does
not know. -/
def State.wCapop (s : State) (w : WriteReq) (r : Reg) (ok : Fld → Bool) : State × Bool :=
  if !ok sbcCapop_OP then (s, true)
  else
    let op := fld (w.val &&& w.mask) sbcCapop_OP
    let st := s.fget (rCapstat r.i) sbcCapstat_STATE
    if op ≠ 0 ∧ (st = 0 ∨ st = 2) then
      if op ≤ 10 then
        ({ (s.fset (rCapstat r.i) sbcCapstat_STATE 1).fset (rCapstat r.i) sbcCapstat_REASON 0 with
           capOp := tput s.capOp r.i op }, false)
      else ((s.fset (rCapstat r.i) sbcCapstat_STATE 3).fset (rCapstat r.i) sbcCapstat_REASON 1, false)
    else (s.fset (rCapstat r.i) sbcCapstat_ERR 1, true)

/-- A write of `CLK_CTSTEP`, and what it means for timed launches (R32, R428). -/
def State.wCtstepFx (s : State) (w : WriteReq) (r : Reg) (ok : Fld → Bool) : State × Bool :=
  let x := s.wCtstep w r ok
  if x.2 then x else (x.1.fxCtStep, false)

/-- A write of `CFG_LCNMAP` shows `PARKED` of the newly mapped core; one of any other register without an effect of its own
sets its fields (R6). -/
def State.regWrite (s : State) (w : WriteReq) (r : Reg) (ok : Fld → Bool) : State × Bool :=
  match r.name with
  | .sel => s.wSel w r ok
  | .cfgLcnmap => s.wLcnmap w r ok
  | .cfgTwin => s.wTwin w r ok
  | .cfgTwstat => s.wTwstat w r ok
  | .cfgQuiet => s.wQuiet w r ok
  | .clkTilediv => s.wTilediv w r ok
  | .clkCtadj => s.wCtadj w r ok
  | .clkCtstep => s.wCtstepFx w r ok
  | .pwrRailCtl => s.wRailCtl w r ok
  | .coreCtl => s.wCoreCtl w r ok
  | .coreDbgen => s.wDbgen w r ok
  | .idistSrcCfg => s.wSrcCfg w r ok
  | .idistSrcState => s.wSrcState w r ok
  | .idistTgtCfg => s.wTgtCfg w r ok
  | .iotuCtxCfg | .iotuCtxS1tb | .iotuCtxS2tb => s.wCtx w r ok
  | .iotuCtxInv => s.wCtxInv w r ok
  | .iotuCtxFault => s.wCtxFault w r ok
  | .slBkt => s.wBkt w r ok
  | .slWmask => s.wQuietBase w r ok
  | .slCtl => s.wSlCtl w r ok
  | .slErr => s.wSlErr w r ok
  | .meshEpoch => s.wEpoch w r ok
  | .meshRt => s.wMeshRt w r ok
  | .meshSlot => s.wMeshSlot w r ok
  | .meshPort => s.wMeshPort w r ok
  | .meshLink => s.wMeshLink w r ok
  | .mcIlv => s.wIlv w r ok
  | .mcKeyslot => s.wKeyslot w r ok
  | .mcCfg => s.wMcCfg w r ok
  | .mcStat => s.wMcStat w r ok
  | .mcSpare => s.wMcSpare w r ok
  | .mcErr => s.wMcErr w r ok
  | .mcBwres => s.wBwres w r ok
  | .mgCtl => s.wMgCtl w r ok
  | .mgFault => s.wMgFault w r ok
  | .fxClsProf => s.wClsProf w r ok
  | .fxPortCfg => s.wPortCfg w r ok
  | .fxPortStat => s.wPortStat w r ok
  | .fxPortCnt | .fxQErr | .fxFnStat | .spWstat => s.wClear w r ok
  | .fxQbvCtl => s.wQbvCtl w r ok
  | .fxPsafeCtl | .fxPsafeData | .fxQbvBase | .fxQbvCycle | .fxQbvEnt => s.wPortReg w r ok
  | .fxQCfg | .fxQDbase | .fxQCbase | .fxQHdr => s.wQCfg w r ok
  | .fxQCtl => s.wQCtl w r ok
  | .fxClsKey0 | .fxClsKey1 => s.wClsKey w r ok
  | .fxClsAct => s.wClsAct w r ok
  | .fxFnCfg => s.wFnCfg w r ok
  | .fxFnCtl => s.wFnCtl w r ok
  | .spWctl => s.wWctl w r ok
  | .spHintset => s.wHintset w r ok
  | .spWinCfg => s.wWinCfg w r ok
  | .spWinTgt => s.wWinTgt w r ok
  | .rpBifur => s.wBifur w r ok
  | .rpCtl => s.wRpCtl w r ok
  | .rpStat => s.wRpStat w r ok
  | .rpMsi => s.wRpMsi w r ok
  | .fbCtl => s.wFbCtl w r ok
  | .fbStat => s.wFbStat w r ok
  | .fbPin => s.wFbPin w r ok
  | .fbWatchCfg => s.wWatchCfg w r ok
  | .fbWatchStat => s.wWatchStat w r ok
  | .fbSrcCfg => s.wFbSrcCfg w r ok
  | .fbSrcStat => s.wFbSrcStat w r ok
  | .ledgCtl => s.wLedgCtl w r ok
  | .ashCtl => s.wAshCtl w r ok
  | .ashSwevt => s.wAshSwevt w r ok
  | .sbcRst => s.wSbcRst w r ok
  | .sbcConfirm => s.wSbcConfirm w r ok
  | .sbcCapop => s.wCapop w r ok
  | .sbcClaimTile => s.wClaimTile w r ok
  | .sbcClaimFn => s.wClaimFn w r ok
  | .sbcClaimMc => s.wClaimMc w r ok
  | .sbcClaimKey => s.wClaimKey w r ok
  | _ => s.wPlain w r ok

/-! What the Ledger logs. -/

/-- The write offers a command field a non-zero value, or a W1C field a 1. -/
def WriteReq.acts (w : WriteReq) (f : Fld) : Bool := fld (w.val &&& w.mask) f != 0
/-- The write offers a field a value that differs from the current one. -/
def State.differs (s : State) (w : WriteReq) (r : Reg) (f : Fld) : Bool := fld (s.off w r) f != s.fget r f

/-- The Ledger logs the write (R30, R183, R215, R321, R347, R377, R402, R436, R455, R484, R512, R537, R564, R579, R585). -/
def State.logged (s : State) (w : WriteReq) : Bool :=
  match w.tgt with
  | .cr _ _ _ => true
  | .img _ dw _ => dw == 0x52 && w.mask >>> 48 != 0
  | .reg r _ =>
    match r.name with
    | .clkTilediv | .idistTgtCfg | .iotuSte | .iotuCtxCfg | .iotuCtxS2tb | .slBkt | .slWmask | .slCtl | .slHqcfg
    | .meshEpoch | .meshRt | .meshSlot | .meshPort | .meshLink | .mcIlv | .mcKeyslot | .mcBwres | .mcSpare | .mgCtl
    | .mgRgnBase | .mgRgnLimit | .mgRgnDom | .sbcClaimTile | .sbcClaimFn | .sbcClaimMc | .sbcClaimKey | .sbcClaimStat
    | .coreDbgen | .cfgTwin | .cfgQuiet | .fxPortCfg | .fxQbvCtl | .fxClsProf | .fxClsAct | .fxPsafeCtl | .fxFnCfg
    | .spCtl | .spWinCfg | .spWinTgt | .spWctl | .rpBifur | .rpCtl | .rpMsi | .rpMsiaddr | .fbSrcCfg | .fbWatchCfg
    | .fbPinmin | .fbCtl | .coreCtl | .coreEntry | .cfgLcnmap | .ledgCtl | .ashCtl | .sbcRst | .sbcCapop | .pwrTherm
    | .pwrRailCtl => true
    | .idistSrcCfg => s.differs w r idistSrcCfg_WORLD || s.differs w r idistSrcCfg_DOMAIN
    | .mcStat => w.acts mcStat_CMD
    | .fxPortStat => w.acts fxPortStat_CMD
    | .fxFnCtl => w.acts fxFnCtl_CMD
    | .rpStat => w.acts rpStat_CONT
    | .fbWatchStat => w.acts fbWatchStat_ACK
    | .fbPin => w.acts fbPin_RELEASE
    | _ => false

/-- The write offers a field a value that acts, in the sense of R585. -/
def State.actsOn (s : State) (w : WriteReq) (r : Reg) (f : Fld) : Bool :=
  match f.ty with
  | .ro => false
  | .rw | .rws | .rwl => s.differs w r f
  | .w1c | .w1s | .wo => w.acts f

/-- The rights `ok` admit nothing of what the write offers: no field at all, or none of those on which it acts (R549). -/
def State.rightsRefuse (s : State) (w : WriteReq) (r : Reg) (ok : Fld → Bool) : Bool :=
  let acted := (fields r.name).filter (s.actsOn w r)
  !(fields r.name).any ok || (!acted.isEmpty && !acted.any ok)

/-- What a write does once its turn has come, and whether its own rights or rules refuse it. -/
def State.perform (s : State) (w : WriteReq) : State × Bool :=
  match w.tgt with
  | .cr _ _ _ => (s, false)
  | .img k dw _ => if w.bank = some 1 ∨ w.bank = some 3 then (s, true) else (s.wImg k dw w, false)
  | .reg r _ =>
    if w.bank.isNone && r.name != .sel && (globalRights w.acc r).isNone then (s.cfgDrop, true)
    else
      let ok := if r.name = .sel then allFields else s.rights w r
      let x := s.regWrite w r ok
      (x.1, x.2 || s.rightsRefuse w r ok)

/-- The values of a write's entry: before it, and offered. -/
def State.oldNew (s : State) (w : WriteReq) : Word × Word :=
  match w.tgt with
  | .cr _ _ _ => (0, w.val)
  | .img k dw _ => (s.imgRead k dw, offered (s.imgRead k dw) w.val w.mask)
  | .reg r _ => (s.regRead r, offered (s.regRead r) w.val w.mask)

/-- A logged write is entered and then takes effect or is refused (R549). -/
def State.enterWrite (s : State) (w : WriteReq) : State :=
  let v := s.oldNew w
  ((s.ledgLog w v.1 v.2 (s.perform w).2).perform w).1

/-- A write reaches its block: performed now, or kept until the Ledger takes it (`true`). -/
def State.reach (s : State) (w : WriteReq) : State × Bool :=
  if !s.logged w then ((s.perform w).1, false)
  else if s.ledgTakes (agentNo w.who) then (s.enterWrite { w with at_ := s.now }, false)
  else
    let w := { w with at_ := if s.ledgLate (agentNo w.who) then s.now + 1 else s.now }
    ({ s with ledgQ := ledgInsert w s.ledgQ, ledgSince := if s.ledgQ.isEmpty then s.now else s.ledgSince }, true)

/-! Accesses. -/

/-- The outcome of an access: the state, the value read, the error answer (1 refusal, 2 unpopulated), whether it had no
effect, whether it waits for the Ledger. -/
structure CfgOut where
  s : State
  val : Word := 0
  err : Nat := 0
  dropped : Bool := false
  later : Bool := false

/-- The read of an SRAM window passes its gatekeeper (R553, R560). -/
def State.sramRead (s : State) (a : Acc) (inst off size : Nat) (v : Word) : CfgOut :=
  match s.verdict inst a.world a.dom true false (cfgBase + off) size with
  | some r => { s := s.gateFault inst false false a.world a.dom (agentNo a.who) r (cfgBase + off), err := 1, dropped := true }
  | none => { s := s, val := v }

/-- A read. -/
def State.cfgRead (s : State) (a : Acc) (off size : Nat) : CfgOut :=
  let part := cfgPart off size
  match s.cfgAt a off size with
  | .unpop => { s := s.cfgUnpop, err := 2, dropped := true }
  | .drop => { s := s.cfgDrop, dropped := true }
  | .reg r bank =>
    if bank.isNone && !globalRead a r then { s := s.cfgDrop, dropped := true }
    else { s := s, val := part (s.regRead r) }
  | .img k dw _ => { s := s, val := part (s.imgRead k dw) }
  | .page t p o =>
    if o % 8 = 4 then { s := s, val := part (if o = 0x00C then 0 else s.pageVal t p (o - 4)) }
    else
      let x := s.pageRead t p o
      { s := x.1, val := part x.2 }
  | .wact w j =>
    if a.r320 then { s := s, val := part (if j = 0 then s.winCfg w else s.winTgt w) } else { s := s.cfgDrop, dropped := true }
  | .rom i => if a.r320 then { s := s, val := part (tget 0 s.spRom i) } else { s := s.cfgDrop, dropped := true }
  | .ledg o => s.sramRead a 32 off size ((lineGet (tget 0 s.ledg (o / 64)) (o % 64) size).setWidth 64)
  | .ash o => s.sramRead a 33 off size (part ((tget 0 s.ash (o / 32) >>> (64 * (o / 8 % 4))).setWidth 64))

/-- A write; `ack` is the request that waits for its answer, `via` the Collier core for which Kindling writes. -/
def State.cfgWrite (s : State) (a : Acc) (off size : Nat) (v : Word) (ack : Option (Nat × Nat) := none)
    (via : Option Nat := none) : CfgOut :=
  let w : WriteReq := { who := a.who, world := a.world, dom := a.dom, level := a.level, via := via, ack := ack,
                        val := cfgPlace off size v, mask := cfgMask off size, tgt := .img 0 0 0 }
  let go := fun (w : WriteReq) (drop : Bool) =>
    let x := s.reach { w with drop := drop }
    ({ s := x.1, later := x.2, dropped := drop } : CfgOut)
  match s.cfgAt a off size with
  | .unpop => { s := s.cfgUnpop, err := 2, dropped := true }
  | .drop => { s := s.cfgDrop, dropped := true }
  | .reg r bank =>
    go { w with bank := bank, tgt := .reg r (cfgBase + off / 8 * 8) }
      (bank.isNone && (globalRights a r).isNone || (bank.isSome && r.name != .sel && !(fields r.name).any (s.rights
        { w with bank := bank, tgt := .reg r (cfgBase + off / 8 * 8) } r)))
  | .img k dw bank => go { w with bank := some bank, tgt := .img k dw (cfgBase + off / 8 * 8) } (bank == 1 || bank == 3)
  | .page t p o => { s := s.pageWrite t p (o / 8 * 8) w.val w.mask }
  | .wact _ _ => if a.r320 then { s := s } else { s := s.cfgDrop, dropped := true }
  | .rom i =>
    if !a.r320 then { s := s.cfgDrop, dropped := true }
    else if a.collier || s.fget (rSp .spCtl) spCtl_READY == 1 then { s := s }
    else { s := { s with spRom := tput s.spRom i (offered (tget 0 s.spRom i) w.val w.mask) } }
  | .ledg _ | .ash _ => { s := s.cfgDrop, dropped := true }

/-! Rows that name a register. -/

/-- The offset of a register for an agent: in the global part, or in the window of the bank that it uses. -/
def Acc.regOff (a : Acc) (r : Reg) : Option (Option (Nat × Nat) × Nat) :=
  match placeOfReg r with
  | none => none
  | some p =>
    let base := blkNum p.blk * 0x8000000
    match p.win with
    | none => some (none, base + p.off)
    | some (k, i) =>
      match a.bank with
      | none => none
      | some b => some (some (base + 0x1000000 * (b + 1), i + k * 2 ^ 16), base + 0x1000000 * (b + 1) + p.off)

/-- An agent selects an instance where it must, and makes a `size`-byte write at `d` within a register. -/
def State.writeRegAt (s : State) (a : Acc) (r : Reg) (d size : Nat) (v : Word) (via : Option Nat := none) : State :=
  match a.regOff r with
  | none => s.cfgDrop
  | some (none, off) => (s.cfgWrite a (off + d) size v none via).s
  | some (some (sel, x), off) =>
    ((s.cfgWrite a sel 8 (BitVec.ofNat 64 x)).s.cfgWrite a (off + d) size v none via).s

/-- An agent writes all of a register. -/
def State.writeReg (s : State) (who : Agent) (r : Reg) (v : Word) : State := s.writeRegAt (s.accOf who) r 0 8 v

/-- A row that writes a register of a unit that exists. -/
def regRow (ok : Bool) (who : Agent) (r : Reg) (v : Word) (s : State) : Host.Outcome State Fault Refusal :=
  if agentOk who && ok then .next (s.writeReg who r v) else .fault .noSuchUnit

/-- REGISTER_WRITE (R6, R12): a write at an offset of the configuration space. -/
def execRegisterWrite (who : Agent) (off size : Nat) (v : Word) (s : State) : Host.Outcome State Fault Refusal :=
  if agentOk who then .next (s.cfgWrite (s.accOf who) off size v).s else .fault .noSuchUnit

end Sys2Proof.Machine
end

