-- ==== Sys2Proof/Machine/Boot.lean ====
section
/-! DEFINITION. The resets of the module and the boot sequence (R538–R545). -/

namespace Sys2Proof.Machine

/-! What a reset keeps (R31, R339, R341, R348, R372, R538, R555). -/

/-- The bits of fields as a mask. -/
def fldMask (fs : List Fld) : Word := fs.foldl (fun a f => setFld a f (2 ^ f.w - 1)) 0

/-- The register belongs to the always-on island: a chip reset keeps it (R538). -/
def islandReg (r : Reg) : Bool :=
  match r.name with
  | .sel => r.i == blkNum .fb
  | .clkPll => true
  | n => blkOf n == some .fb || blkOf n == some .ledg || blkOf n == some .ash

/-- The bits of a register that a reset keeps. -/
def keepMask (code : Nat) (r : Reg) : Word :=
  let all := BitVec.allOnes 64
  if code = 1 then 0
  else if code = 4 && islandReg r then all
  else
    match r.name with
    | .clkCt | .clkCtadj | .ledgHead | .ledgMseq | .ashHead | .mcIlv => all
    | .ashStat => fldMask [ashStat_FROZEN, ashStat_FRZCAUSE, ashStat_FLUSHING]
    | .mcCfg => fldMask [mcCfg_SPEED]
    | .mcSpare => fldMask [mcSpare_SPARE, mcSpare_SPEN]
    | .coreDbgen => fldMask [coreDbgen_AUTH]
    | .mcKeyslot => fldMask (if code = 2 then [mcKeyslot_GENCNT] else [mcKeyslot_GENCNT, mcKeyslot_STATE])
    | _ => 0

/-- The registers after a reset. -/
def State.keptRegs (s : State) (code : Nat) : Tab Reg Word :=
  s.regs.filterMap (fun e =>
    let m := keepMask code e.1
    if m = 0 then none else some (e.1, (resetReg e.1 &&& ~~~m) ||| (e.2 &&& m)))

/-- A spare core that has failed a self-test since power-on keeps that through a later reset (R47, R516). -/
def State.keepFailed (s : State) (p : Nat) (b : State) : State :=
  if (s.core p).bistFailed then (b.modCore p (fun c => { c with bistFailed := true })).poolOf p else b

/-- What no reset of the module touches: the queue of commands, the model's clock and counters, the devices on the board. -/
def State.bare (s : State) : State :=
  { pending := s.pending, now := s.now, draws := s.draws, out := s.out, spPerst := s.spPerst, rpCard := s.rpCard
    attempts := s.attempts, slots := s.slots, minVer := s.minVer, areas := s.areas }

/-- The state after a reset, before its records. -/
def State.resetState (s : State) (code : Nat) : State :=
  let b := s.bare
  if code = 1 then b
  else
    let b : State := { b with regs := s.keptRegs code, ctFrac := s.ctFrac, ctOn := s.ctOn, ledg := s.ledg, ash := s.ash
                              flushTo := s.flushTo }
    let b := ((List.range 64).map (1024 + ·)).foldl (fun a p => s.keepFailed p a) b
    let b : State := if code = 2 then b else { b with mem := s.mem, memKey := s.memKey, memPoison := s.memPoison }
    if code = 4 then
      { b with onRefclk := s.onRefclk, fbq := s.fbq, armed := s.armed, pinEnd := s.pinEnd, safeAt := s.safeAt, nSafe := s.nSafe
               ashQ := s.ashQ, ashTrig := s.ashTrig }
    else b

/-- A reset takes effect, with its records (R539): nothing is recorded at power-on or while the Ash Record is frozen. -/
def State.resetNow (s : State) (code cause : Nat) : State :=
  let t := (s.resetState code).fset rSbcStat sbcStat_LASTRST (code - 1)
  if code = 1 || t.frozen then t
  else
    let t := if t.ledgRoom then t else t.abandonMirror
    (t.ashPlain 0x0010 (BitVec.ofNat 64 code) (BitVec.ofNat 64 cause)).ledgEvent code

/-- POWER_ON_RESET (R538). -/
def execPowerOnReset (s : State) : Host.Outcome State Fault Refusal := .next (s.resetNow 1 0)

/-- SUPPLY_RESET (R538). -/
def execSupplyReset (s : State) : Host.Outcome State Fault Refusal := .next (s.resetNow 2 0)

/-- ISLAND_RESET (R538): nRST asks. -/
def execIslandReset (s : State) : Host.Outcome State Fault Refusal := .next (s.askReset 3 0)

/-- CHIP_RESET (R538): a capability request asks; Firebreak's code 4 asks through its reaction. -/
def execChipReset (s : State) : Host.Outcome State Fault Refusal := .next (s.askReset 4 1)

/-- No key slot generates a key. -/
def State.keysQuiet (s : State) : Bool := (List.range 66).all (fun k => s.slotState k != 1)

/-- RESET_EFFECT (R539): the waits are over; trained channels perform their writes and enter self-refresh. -/
def execResetEffect (s : State) : Host.Outcome State Fault Refusal :=
  match s.rst with
  | none => .next s
  | some (code, cause) =>
    if !s.ledgQ.isEmpty || !s.keysQuiet then .next s
    else
      let t := if s.inSafe then s else ((List.range 16).filter s.chanLive).foldl State.selfRefresh s
      .next (t.resetNow code cause)

/-! Images (R543–R545). -/

/-- A slot of the boot device. -/
def State.imgSlot (s : State) (c i : Nat) : ImgSlot :=
  let f := flashSlot c i
  tget ⟨f.1, f.2.1, f.2.2⟩ s.slots (c, i)

/-- The fused minimum version of a component. -/
def State.minVersion (s : State) (c : Nat) : Nat := max (fuseMinVer c) (tget 0 s.minVer c)

/-- The slot is valid (R544). -/
def State.slotOk (s : State) (c i : Nat) : Bool := (s.imgSlot c i).valid && decide (s.minVersion c ≤ (s.imgSlot c i).ver)

def State.attemptsOf (s : State) (c i : Nat) : Nat := tget 0 s.attempts (c, i)

/-- The slot chosen (R544). -/
def State.chooseSlot (s : State) (c : Nat) : Option Nat :=
  let ok := fun (i : Nat) => s.slotOk c i && decide (s.attemptsOf c i < 3)
  if ok 0 && ok 1 then some (if (s.imgSlot c 0).seq < (s.imgSlot c 1).seq then 1 else 0)
  else if ok 0 then some 0
  else if ok 1 then some 1
  else none

/-- Each slot that fails is recorded (R544). -/
def State.slotEvents (s : State) (c : Nat) : State :=
  ([0, 1].filter (fun i => !s.slotOk c i)).foldl (fun a i => a.ashPlain 0x0021 (BitVec.ofNat 64 c) (BitVec.ofNat 64 i)) s

/-- The boot stops (R544). -/
def State.bootStop (s : State) : State :=
  ({ (s.fset rSbcStat sbcStat_STEP 15).report 3397 .uc with spRom := [] }).fset (rSp .spCtl) spCtl_READY 1

/-- A component is started (R545). -/
def State.startImage (s : State) (c i : Nat) : State :=
  { s with attempts := tput s.attempts (c, i) (s.attemptsOf c i + 1) }

/-- A register write of Kindling. -/
def State.sbcWrite (s : State) (r : Reg) (v : Word) : State := s.writeReg .sbc r v

/-! The steps of the boot sequence (R540). -/

/-- Step 3. -/
def State.bootStage2 (s : State) : State :=
  let s := s.slotEvents 1
  match s.chooseSlot 1 with
  | none => s.bootStop
  | some i => ((s.fset rSbcStat sbcStat_KSLOT i).startImage 1 i).bootStep 3 (s.imgSlot 1 i).ver

/-- The power-fail area to restore (R559). -/
def State.areaToRestore (s : State) : Option Nat :=
  let a := s.area 0
  let b := s.area 1
  let i := if a.marked && (!b.marked || decide (b.gen < a.gen)) then 0 else 1
  let x := s.area i
  let h := s.fget rAshHead ashHead_SEQ
  if x.marked && (decide (h ≤ x.first) || h == 0) then some i else none

/-- Writes the events of an area back into the ring, records it, and erases the other area (R559). -/
def State.restoreArea (s : State) (i : Nat) : State :=
  let x := s.area i
  let n := x.events.length
  let ring := (List.range n).foldl (fun a j =>
    tput a ((x.first + j) % 65536) (x.events.getD j 0 ||| ((1#256) <<< 126))) s.ash
  let s := { s with ash := ring }.fset rAshHead ashHead_SEQ (x.first + n)
  let f := (freeAshSrc 0x0060).toNat
  let s := s.ashWrite ⟨s.ct, 0x0060, f % 4096, f / 4096, BitVec.ofNat 64 x.first, BitVec.ofNat 64 n⟩
  { s with areas := tput s.areas (1 - i) {} }

/-- Step 4. -/
def State.bootRecord (s : State) : State :=
  let s := match s.areaToRestore with
    | some i => s.restoreArea i
    | none => s
  (s.fset rAshStat ashStat_READY 1).bootStep 4 0

/-- Step 5. -/
def State.bootPorts (s : State) (rom : List (Nat × Word)) (wins : List (Nat × Word × Word)) : State :=
  let s : State := { s with spRom := (rom.filter (fun e => e.1 < 65536)).foldl (fun a e => tput a e.1 e.2) s.spRom }
  let s := (wins.filter (fun w => w.1 < 16)).foldl (fun a w => (a.sbcWrite (rWinCfg w.1) w.2.1).sbcWrite (rWinTgt w.1) w.2.2) s
  let s := s.sbcWrite (rSp .spWctl) 1
  (s.sbcWrite (rSp .spCtl) 1).bootStep 5 0

/-- Step 6. -/
def State.bootImages (s : State) : State :=
  let s := (s.slotEvents 2).slotEvents 3
  match s.chooseSlot 2 with
  | none => s.bootStop
  | some i =>
    let s := (s.fset rSbcStat sbcStat_KILNSLOT i).fset rSbcStat sbcStat_CWSLOT ((s.chooseSlot 3).getD 0)
    ((s.sbcWrite (rKey 64) 1).sbcWrite (rKey 65) 1).bootStep 6 0

/-- What training found for a channel. -/
def State.trainOne (s : State) (x : TrainInfo) : State :=
  let c := x.cfg &&& heldMask .mcCfg
  let c := if s.mcLocked then setFld c mcCfg_SPEED (s.fget (rMc .mcCfg x.k) mcCfg_SPEED) else c
  (s.wr (rMc .mcCfg x.k) c).wr (rMc .mcTiming x.k) (x.timing &&& heldMask .mcTiming)

/-- Step 7. A lock that an earlier boot has set stays; the trained channels serve. -/
def State.bootTrain (s : State) (cs : List TrainInfo) (ilv : Word) : State :=
  let s := (cs.filter (fun x => x.k < 16)).foldl State.trainOne s
  let s := s.sbcWrite rIlv (setFld ilv mcIlv_LOCK 1)
  let s := (List.range 16).foldl (fun a k =>
    if a.fget (rMc .mcCfg k) mcCfg_TRAINED = 1 ∧ a.chanState k = 0 then a.fset (rMc .mcStat k) mcStat_STATE 1 else a) s
  s.bootStep 7 0

/-- The region registers of a gatekeeper region. -/
def State.writeRegion (s : State) (x : RegionInfo) : State :=
  ((s.sbcWrite ⟨.mgRgnBase, x.inst, x.r⟩ x.base).sbcWrite ⟨.mgRgnLimit, x.inst, x.r⟩ x.limit).sbcWrite ⟨.mgRgnDom, x.inst, x.r⟩ x.dom

/-- Step 8. -/
def State.bootRegions (s : State) (rs : List RegionInfo) (lines : List (Nat × Line)) (entry cwEntry mbase : Word) : State :=
  let rs := rs.filter (fun x => x.inst < 35 && x.r < 64)
  let s := rs.foldl State.writeRegion s
  let s := ((List.range 35).filter (fun i => rs.any (fun x => x.inst == i))).foldl (fun a i => a.sbcWrite (rMgCtl i) 1) s
  let s := (lines.filter (fun e => s.dramOk e.1)).foldl (fun a e => a.dramWrite (lineOf e.1) e.2 0) s
  let s := (List.range 1088).foldl (fun a p => a.sbcWrite ⟨.coreEntry, p, 0⟩ entry) s
  let cw := (s.chooseSlot 3).isSome
  let s := if cw then (List.range 4).foldl (fun a c => a.sbcWrite ⟨.coreEntry, 1088 + c, 0⟩ cwEntry) s else s.report 3397 .uc
  let s := s.sbcWrite rLedgCtl (setFld (mbase &&& 0xFFFFFC000000) ledgCtl_MEN 1)
  let k := s.fget rSbcStat sbcStat_KILNSLOT
  (s.startImage 2 k).bootStep 8 (s.imgSlot 2 k).ver

/-- Step 9: the Collier cores run at Cordwood's entry point. -/
def State.bootRelease (s : State) : State :=
  let k := s.fget rSbcStat sbcStat_CWSLOT
  let s := s.startImage 3 k
  let s := [1088, 1089, 1090, 1091].foldl (fun a p =>
    let pc := BitVec.ofNat 64 (a.fget ⟨.coreEntry, p, 0⟩ coreEntry_PC * 4)
    (a.modCore p (·.startRegs p pc)).runOne p) s
  s.bootStep 9 (s.imgSlot 3 k).ver

/-- The last step reached. -/
def State.bootAt (s : State) (n : Nat) : Bool := s.fget rSbcStat sbcStat_STEP == n

/-- BOOT_SEQUENCE (R540): the next step of the boot sequence, when the one before it has been reached. -/
def execBootSequence (b : BootStep) (s : State) : Host.Outcome State Fault Refusal :=
  if !s.ledgTakes (agentNo .sbc) then .next s
  else
    match b with
    | .stage2 =>
      if s.fget rPll clkPll_LOCK = 1 ∧ s.fget rSbcStat sbcStat_STEP ≤ 2 then .next s.bootStage2 else .next s
    | .record => if s.bootAt 3 then .next s.bootRecord else .next s
    | .ports rom wins => if s.bootAt 4 then .next (s.bootPorts rom wins) else .next s
    | .images => if s.bootAt 5 then .next s.bootImages else .next s
    | .train cs ilv => if s.bootAt 6 then .next (s.bootTrain cs ilv) else .next s
    | .regions rs lines e c m =>
      if s.bootAt 7 && s.slotState 64 == 2 && s.slotState 65 == 2 then .next (s.bootRegions rs lines e c m) else .next s
    | .release => if s.bootAt 8 && (s.chooseSlot 3).isSome then .next s.bootRelease else .next s

end Sys2Proof.Machine
end

