-- ==== Sys2Proof/Machine/Branch.lean ====
section
/-! DEFINITION. Control transfer: majors 0x20–0x2A (R67–R74), with the predictions they leave (R117–R120) -/

namespace Sys2Proof.Machine

/-- A branch or jump has resolved: whether its prediction was wrong (R110). -/
def resolved (x : Ctx) (wrong : Bool) : InsnM Unit := modCore x.p (fun c => { c with redirect := wrong })

/-- A branch whose delay slot follows: `buf` is what it leaves in the target buffer, `ras` the stack before it (R119). -/
def goes (target : Word) (link : Option RegNo) (buf : Option (Nat × TgtEnt)) (ras : List Word) : InsnM Flow :=
  pure (.branch target link buf ras)

/-- A conditional branch (R67, R68): T predicts, A = 1 annuls the delay slot of a branch not taken. -/
def condBranch (p : Nat) (ra rb : RegNo) (t a : Bool) (disp : BitVec 14) (ill : Bool) (f : Word → Word → Bool)
    (s : State) : Host.Outcome State Fault Refusal :=
  runInsn p false .idle (fun x => do
    illIf ill
    let u ← getG x.p ra
    let v ← getG x.p rb
    let taken := f u v
    resolved x (taken != t)
    if !taken && a then pure .annul
    else goes (if taken then x.pc + disp14 disp else x.pc + 8) none none (← getCore x.p).ras) s

/-- A call-hinted jump pushes its return address; a full stack loses its oldest entry (R119). -/
def pushRas (x : Ctx) : InsnM Unit :=
  modCore x.p (fun c => { c with ras := ((x.pc + 8) :: c.ras).take 16 })

/-- The entry of the target buffer whose whole tag matches (R120). -/
def Core.tgtHit (c : Core) (x : Ctx) : Option (Nat × TgtEnt) :=
  let g := regimeOf x x.world x.level
  let set := bits x.pc.toNat 2 6
  (List.range 4).findSome? (fun w =>
    match tfind c.tgtBuf (set, w) with
    | some e =>
      if e.tag = bits x.pc.toNat 8 40 ∧ e.level = x.level ∧ e.world = x.world ∧ e.dom = g.dom ∧ e.vmid = g.vmid ∧
        e.asid = g.asid then some (w, e) else none
    | none => none)

/-- An indirect jump resolves (R120): the entry that it leaves when it retires, if its prediction was wrong or missing. -/
def indirect (x : Ctx) (target : Word) : InsnM (Option (Nat × TgtEnt)) := do
  let g := regimeOf x x.world x.level
  let ent : TgtEnt := { tag := bits x.pc.toNat 8 40, level := x.level, world := x.world, dom := g.dom, vmid := g.vmid,
                        asid := g.asid, target := target }
  let hit := (← getCore x.p).tgtHit x
  let (wrong, right) := match hit with
    | some (_, e) => (e.target != target, e.target == target)
    | none => (false, false)
  resolved x wrong
  pure (if right then none else some (bits x.pc.toNat 2 6, ent))

/-- The target of a register jump, or IALIGN at the jump itself (R53). -/
def jumpTarget (x : Ctx) (ra : RegNo) : InsnM Word := do
  let t ← getG x.p ra
  if bits t.toNat 0 2 = 0 then pure t else raise 0x02 t.toNat

/-- BEQ (R67). -/
def execBeq (p : Nat) (ra rb : RegNo) (t a : Bool) (disp : BitVec 14) (ill : Bool) (s : State) : Host.Outcome State Fault Refusal :=
  condBranch p ra rb t a disp ill (fun u v => u == v) s

/-- BNE (R67). -/
def execBne (p : Nat) (ra rb : RegNo) (t a : Bool) (disp : BitVec 14) (s : State) : Host.Outcome State Fault Refusal :=
  condBranch p ra rb t a disp false (fun u v => u != v) s

/-- BLT (R67). -/
def execBlt (p : Nat) (ra rb : RegNo) (t a : Bool) (disp : BitVec 14) (s : State) : Host.Outcome State Fault Refusal :=
  condBranch p ra rb t a disp false (fun u v => u.slt v) s

/-- BGE (R67). -/
def execBge (p : Nat) (ra rb : RegNo) (t a : Bool) (disp : BitVec 14) (s : State) : Host.Outcome State Fault Refusal :=
  condBranch p ra rb t a disp false (fun u v => !u.slt v) s

/-- BLTU (R67). -/
def execBltu (p : Nat) (ra rb : RegNo) (t a : Bool) (disp : BitVec 14) (s : State) : Host.Outcome State Fault Refusal :=
  condBranch p ra rb t a disp false (fun u v => u.ult v) s

/-- BGEU (R67). -/
def execBgeu (p : Nat) (ra rb : RegNo) (t a : Bool) (disp : BitVec 14) (s : State) : Host.Outcome State Fault Refusal :=
  condBranch p ra rb t a disp false (fun u v => !u.ult v) s

/-- J (R67): the A bit is reserved (R69). -/
def execJ (p : Nat) (a : Bool) (disp : BitVec 25) (ill : Bool) (s : State) : Host.Outcome State Fault Refusal :=
  runInsn p false .idle (fun x => do
    illIf (ill || a)
    resolved x false
    goes (x.pc + disp25 disp) none none (← getCore x.p).ras) s

/-- JAL (R67): the address of the jump plus 8 goes into g30. -/
def execJal (p : Nat) (a : Bool) (disp : BitVec 25) (s : State) : Host.Outcome State Fault Refusal :=
  runInsn p false .idle (fun x => do
    illIf a
    resolved x false
    let ras := (← getCore x.p).ras
    pushRas x
    goes (x.pc + disp25 disp) (some 30) none ras) s

/-- JR (R67). rb must be 0. -/
def execJr (p : Nat) (_rd ra rb : RegNo) (a ill : Bool) (s : State) : Host.Outcome State Fault Refusal :=
  runInsn p false .idle (fun x => do
    illIf (ill || a || rb != 0)
    let t ← jumpTarget x ra
    let buf ← indirect x t
    goes t none buf (← getCore x.p).ras) s

/-- JALR (R67): rd must differ from ra; with rd = g30 it is hinted as a call (R70). R120 states the look-up
for rd ≠ g30 only and is silent on how the target is then predicted: the model neither looks the buffer up nor writes it (log
entry 65). -/
def execJalr (p : Nat) (rd ra rb : RegNo) (a : Bool) (s : State) : Host.Outcome State Fault Refusal :=
  runInsn p false .idle (fun x => do
    illIf (a || rb != 0 || rd == ra)
    let t ← jumpTarget x ra
    let ras := (← getCore x.p).ras
    let buf ← if rd = 30 then do
        resolved x false
        pushRas x
        pure none
      else indirect x t
    goes t (some rd) buf ras) s

/-- RET (R67, R119): pops the return-address stack. -/
def execRet (p : Nat) (_rd ra rb : RegNo) (a : Bool) (s : State) : Host.Outcome State Fault Refusal :=
  runInsn p false .idle (fun x => do
    illIf (a || rb != 0)
    let t ← jumpTarget x ra
    let c ← getCore x.p
    resolved x (match c.ras with
      | [] => false
      | top :: _ => top != t)
    modCore x.p (fun c => { c with ras := c.ras.tail })
    goes t none none c.ras) s

/-- MISPREDICT_REDIRECT (R110): fetch restarts at the correct address, which the program counter already names. -/
def execMispredictRedirect (p : Nat) (s : State) : Host.Outcome State Fault Refusal :=
  if !isCore p then .fault .noSuchUnit
  else .next (s.modCore p (fun c => { c with redirect := false }))

end Sys2Proof.Machine
end

