-- ==== Sys2Proof/Machine/Caps.lean ====
section
/-! DEFINITION. Kindling's services: capability requests, live update, authenticated debug (R545–R548, R562). -/

namespace Sys2Proof.Machine

/-! Requests. -/

def rCaparg (c : Nat) : Reg := ⟨.sbcCaparg, c, 0⟩
def rCapval (c : Nat) : Reg := ⟨.sbcCapval, c, 0⟩
def State.capArg (s : State) (c : Nat) : Nat := (s.rd (rCaparg c)).toNat
def State.capVal (s : State) (c : Nat) : Nat := (s.rd (rCapval c)).toNat

/-- The bank to be served: the first that asks, in turn. -/
def State.capTurn (s : State) : Option Nat :=
  [0, 1, 2, 3].findSome? (fun i =>
    let c := (s.capNext + i) % 4
    if (tfind s.capOp c).isSome then some c else none)

/-- A request ends: `REASON` 0 is done. -/
def State.capEnd (s : State) (c reason : Nat) : State :=
  { (s.fset (rCapstat c) sbcCapstat_STATE (if reason = 0 then 2 else 3)).fset (rCapstat c) sbcCapstat_REASON reason with
    capOp := tdel s.capOp c, capNext := (c + 1) % 4 }

/-- A row that serves operation `op` of bank `c`: only in its turn, and while the Ledger takes a write at once. -/
def capRow (c op : Nat) (f : State → State) (s : State) : Host.Outcome State Fault Refusal :=
  if c ≥ 4 then .fault .noSuchUnit
  else if s.capTurn = some c ∧ tfind s.capOp c = some op ∧ s.ledgTakes (agentNo .sbc) then .next (f s)
  else .next s

/-- A write that Kindling makes for bank `c`. -/
def State.capWrite (s : State) (c : Nat) (r : Reg) (v : Word) : State := s.writeRegAt (s.accOf .sbc) r 0 8 v (some c)

/-- The register's own rule refuses Kindling's write. -/
def State.capRefused (s : State) (r : Reg) (v : Word) : Bool :=
  (s.regWrite { who := .sbc, world := true, dom := 0, level := 0, tgt := .reg r 0, val := v } r allFields).2

/-- MAPCORE (R547). -/
def execMapcore (c : Nat) (s : State) : Host.Outcome State Fault Refusal :=
  capRow c 1 (fun s =>
    let n := s.capArg c
    let q := s.capVal c
    if 1024 ≤ n ∨ 1088 ≤ q then s.capEnd c 4
    else if s.coreClaimed (s.pcnOf n) || s.coreClaimed q then s.capEnd c 3
    else if q ≠ s.pcnOf n ∧ s.lcnRefused n q then s.capEnd c 2
    else (s.capWrite c (rLcn n) (BitVec.ofNat 64 q)).capEnd c 0) s

/-- TWIN (R547). -/
def execTwin (c : Nat) (s : State) : Host.Outcome State Fault Refusal :=
  capRow c 2 (fun s =>
    let k := s.capArg c
    let v := BitVec.ofNat 64 (s.capVal c % 2)
    if 512 ≤ k then s.capEnd c 4
    else if s.coreClaimed (s.pcnOf (2 * k)) || s.coreClaimed (s.pcnOf (2 * k + 1)) then s.capEnd c 3
    else if s.capRefused (rTwin k) v then s.capEnd c 2
    else (s.capWrite c (rTwin k) v).capEnd c 0) s

/-- QUIETD0 (R547). -/
def execQuietd0 (c : Nat) (s : State) : Host.Outcome State Fault Refusal :=
  capRow c 3 (fun s => (s.capWrite c ⟨.cfgQuiet, 0, 0⟩ (BitVec.ofNat 64 (s.capVal c % 2))).capEnd c 0) s

/-- RESET (R547). -/
def execReset (c : Nat) (s : State) : Host.Outcome State Fault Refusal :=
  capRow c 4 (fun s =>
    let k := s.capArg c
    if 2 ≤ k then s.capEnd c 4 else (s.capWrite c ⟨.sbcRst, 0, 0⟩ (BitVec.ofNat 64 (k + 1))).capEnd c 0) s

/-- SAFE (R547). -/
def execSafe (c : Nat) (s : State) : Host.Outcome State Fault Refusal :=
  capRow c 5 (fun s => (s.capWrite c ⟨.fbCtl, 0, 0⟩ 1).capEnd c 0) s

/-! Buffers in D0 memory. -/

/-- A line of open D0 memory as Kindling reads it: populated, passed by its gatekeeper, not poisoned. -/
def State.d0Line (s : State) (pa : Nat) : Option Line :=
  if !s.dramOk pa || (s.verdict (s.dramGate pa) false 0 true false (lineOf pa) 64).isSome then none
  else
    let x := s.coherent (lineOf pa)
    if x.2 != 0 then none else some x.1

/-- `n` lines from a line address on, joined as bytes. -/
def State.d0Lines (s : State) (pa : Nat) : Nat → Option (List Byte)
  | 0 => some []
  | n + 1 =>
    match s.d0Line pa, s.d0Lines (pa + 64) n with
    | some l, some r => some (lineBytes 64 l ++ r)
    | _, _ => none

/-- `n` bytes of D0 memory. -/
def State.d0Bytes (s : State) (pa n : Nat) : Option (List Byte) :=
  (s.d0Lines (lineOf pa) ((pa % 64 + n + 63) / 64)).map (fun l => (l.drop (pa % 64)).take n)

/-- A little-endian number in a list of bytes. -/
def leAt (l : List Byte) (off n : Nat) : Nat := ((l.drop off).take n).reverse.foldl (fun a b => a * 256 + b.toNat) 0

def zeros (l : List Byte) : Bool := l.all (fun b => b == 0)

/-! Live update (R543, R544, R548). -/

/-- The room for an image in a slot (R543). -/
def slotRoom (c : Nat) : Nat := if c = 1 then 0x80000 else if c = 2 then 0x200000 else 0x1000000

/-- The image that a buffer holds is valid for a component (R544): its slot entry. -/
def State.judgeImage (s : State) (c : Nat) (l : List Byte) : Option ImgSlot :=
  let n := leAt l 24 8
  let key := (l.drop 40).take 97
  let ok := decide (512 ≤ l.length) && leAt l 0 8 == 0x4B494C4E00000001 && leAt l 8 4 == c && zeros ((l.drop 233).take 279) &&
    decide (512 + n ≤ slotRoom c) && decide (512 + n ≤ l.length) && sha384 key == fuseKeyHash c &&
    sigOk key (sha384 (l.take 137 ++ (l.drop 512).take n)) ((l.drop 137).take 96) && decide (s.minVersion c ≤ leAt l 12 4)
  if ok then some ⟨true, leAt l 16 8, leAt l 12 4⟩ else none

/-- The slot bit of a component in `SBC_STAT`. -/
def slotFld (c : Nat) : Fld := if c = 1 then sbcStat_KSLOT else if c = 2 then sbcStat_KILNSLOT else sbcStat_CWSLOT

/-- The slot that a component does not run from. -/
def State.inactive (s : State) (c : Nat) : Nat := 1 - s.fget rSbcStat (slotFld c)

/-- STAGE (R547, R548): the image goes into the inactive slot. -/
def execStage (c : Nat) (s : State) : Host.Outcome State Fault Refusal :=
  capRow c 6 (fun s =>
    let k := s.capArg c % 4
    if k = 0 then s.capEnd c 4
    else
      match (s.d0Bytes (s.capVal c) (min (s.capArg c / 2 ^ 32) (slotRoom k))).bind (s.judgeImage k) with
      | some x => { s with slots := tput s.slots (k, s.inactive k) x }.capEnd c 0
      | none => s.capEnd c 4) s

/-- Kindling's quiescent point (R548). -/
def State.kindlingQuiet (s : State) (c : Nat) : Bool :=
  s.capOp.all (fun e => e.1 == c) && s.keysQuiet && (List.range 35).all (fun i => s.fget (rMgCtl i) mgCtl_BUSY == 0)

/-- The handover to a new Kiln: `CORE_ENTRY` of every PCN, an L3 SGI to every running core; entry and SGI are Kindling's
choice. -/
def State.kilnHandover (s : State) (c : Nat) : State :=
  let entry := freeKindling s.draws
  let g := (freeKindling (s.draws + 1)).toNat
  let s := s.draw.draw
  let s := (List.range 1088).foldl (fun a p => a.capWrite c ⟨.coreEntry, p, 0⟩ entry) s
  ((List.range 1088).filter (fun p => (s.core p).run == .running)).foldl (fun a p =>
    match a.targetOf p with
    | some t => a.sgiTo .sealedL3 (g % 16) (g / 16 % 16) t
    | none => a) s

/-- ACTIVATE (R547, R548). -/
def execActivate (c : Nat) (s : State) : Host.Outcome State Fault Refusal :=
  capRow c 7 (fun s =>
    let k := s.capArg c
    if k = 0 ∨ 3 < k then s.capEnd c 4
    else if s.updating.isSome then s.capEnd c 5
    else if !s.slotOk k (s.inactive k) then s.capEnd c 4
    else if k = 1 ∧ !s.kindlingQuiet c then s.capEnd c 6
    else
      let i := s.inactive k
      let s : State := { (s.fset rSbcStat (slotFld k) i).fset rSbcStat sbcStat_UPD 1 with updating := some k }
      let s := s.ashPlain 0x0022 (BitVec.ofNat 64 k) (BitVec.ofNat 64 (s.imgSlot k i).seq)
      let s := if k = 3 then s else s.startImage k i
      let s := if k = 2 then s.kilnHandover c else s
      s.capEnd c 0) s

/-- The component has been started in this boot (R540): Kindling at step 3, the Kiln at step 8, Cordwood at step 9. -/
def State.runsImage (s : State) (k : Nat) : Bool :=
  let n := s.fget rSbcStat sbcStat_STEP
  n != 15 && decide ((if k = 1 then 3 else if k = 2 then 8 else 9) ≤ n)

/-- CONFIRM (R545, R547, R548). -/
def execConfirm (c : Nat) (s : State) : Host.Outcome State Fault Refusal :=
  capRow c 8 (fun s =>
    let k := s.capArg c
    if k = 0 ∨ 3 < k ∨ !s.runsImage k then s.capEnd c 4 else (s.confirmed k).capEnd c 0) s

/-- SVNRAISE (R547). -/
def execSvnraise (c : Nat) (s : State) : Host.Outcome State Fault Refusal :=
  capRow c 10 (fun s =>
    let k := s.capArg c
    let v := s.capVal c
    if k = 0 ∨ 3 < k then s.capEnd c 4
    else if (s.imgSlot k (s.fget rSbcStat (slotFld k))).ver < v then s.capEnd c 4
    else { s with minVer := tput s.minVer k (max v (tget 0 s.minVer k)) }.capEnd c 0) s

/-! Authenticated debug requests (R562). -/

/-- Kindling accepts a request. -/
def State.debugValid (s : State) (l : List Byte) : Bool :=
  let key := (l.drop 32).take 97
  l.length == 256 && leAt l 0 8 == 0x4442475200000001 && sha384 key == fuseKeyHash 4 &&
  sigOk key (sha384 (l.take 129)) ((l.drop 129).take 96) && leAt l 8 8 == (s.rd ⟨.sbcDbgnonce, 0, 0⟩).toNat &&
  decide (s.ct.toNat ≤ leAt l 16 8) && decide (leAt l 24 2 ≤ leAt l 26 2) && decide (leAt l 26 2 ≤ 1087) &&
  leAt l 28 1 / 16 % 8 == 0 && zeros ((l.drop 29).take 3) && zeros ((l.drop 225).take 31)

/-- The ring takes `n` entries now. -/
def State.ledgRoomFor (s : State) (n : Nat) : Bool :=
  s.fget rLedgCtl ledgCtl_MEN == 0 || decide ((s.rd rLedgHead).toNat + n ≤ (s.rd rLedgMseq).toNat + 8192)

/-- A grant or revocation for one PCN, with its entry (R377, R550). -/
def State.debugGrant (s : State) (via : Option Nat) (en : Nat) (revoke : Bool) (p : Nat) : State :=
  let r : Reg := ⟨.coreDbgen, p, 0⟩
  let a := s.fget r coreDbgen_AUTH
  let t := s.fset r coreDbgen_AUTH (if revoke then a &&& (15 - en) else a ||| en)
  let w : WriteReq := { who := .sbc, world := true, dom := 0, level := 0, via := via, tgt := .reg r 0, val := 0 }
  { t.ledgAdd (2 * 2 ^ 48 + p) (s.regRead r) (t.regRead r) (w.origin false) with ledgLast := some (s.now, agentNo .sbc) }

/-- A fresh nonce (R562). -/
def State.newNonce (s : State) : State := (s.wr ⟨.sbcDbgnonce, 0, 0⟩ (freeNonce s.draws)).draw

/-- A valid request is carried out. -/
def State.debugDo (s : State) (via : Option Nat) (l : List Byte) : State :=
  let f := leAt l 24 2
  let b := leAt l 28 1
  ((List.range (leAt l 26 2 + 1 - f)).foldl (fun a i => a.debugGrant via (b % 16) (128 ≤ b) (f + i)) s).debugRelease

/-- DBGREQ (R547, R562). -/
def execDbgreq (c : Nat) (s : State) : Host.Outcome State Fault Refusal :=
  if !s.ledgRoomFor 1088 then .next s
  else
    capRow c 9 (fun s =>
      match s.d0Bytes (s.capVal c) 256 with
      | some l => if s.debugValid l then ((s.debugDo (some c) l).newNonce).capEnd c 0 else s.newNonce.capEnd c 4
      | none => s.newNonce.capEnd c 4) s

/-- JTAG_DEBUG_REQUEST (R562). -/
def execJtagDebugRequest (bytes : List Byte) (s : State) : Host.Outcome State Fault Refusal :=
  if bytes.length ≠ 256 ∨ !s.ledgTakes (agentNo .sbc) ∨ !s.ledgRoomFor 1088 then .next s
  else .next (if s.debugValid bytes then s.debugDo none bytes else s).newNonce

end Sys2Proof.Machine
end

