-- ==== Sys2Proof/Machine/CfgRows.lean ====
section
/-! DEFINITION. The commands that name one register: each is a write of that register by an agent, in the global part or through
the bank that the agent uses (R13, R41–R45), with the checks and effects of any other write there. -/

namespace Sys2Proof.Machine

/-- The value that a command writes: the fields that software sets stay as they are, `f` takes `x`, and no W1C bit is
written 1. -/
def State.cmdWord (s : State) (r : Reg) (f : Fld) (x : Nat) : Word :=
  setFld ((fields r.name).foldl (fun a g =>
    match g.ty with
    | .rw | .rws | .rwl => setFld a g (s.fget r g)
    | _ => a) 0) f x

/-- A claim register (R369). -/
def claimReg : ClaimReg → Reg
  | .tile i => ⟨.sbcClaimTile, i, 0⟩
  | .fn j => ⟨.sbcClaimFn, j, 0⟩
  | .mc => ⟨.sbcClaimMc, 0, 0⟩
  | .key j => ⟨.sbcClaimKey, j, 0⟩
  | .stat => ⟨.sbcClaimStat, 0, 0⟩

/-- LCNMAP_WRITE (R24). -/
def execLcnmapWrite (who : Agent) (n : Nat) (v : Word) (s : State) : Host.Outcome State Fault Refusal :=
  regRow (decide (n < 1024)) who (rLcn n) v s

/-- TILEDIV_WRITE (R29). -/
def execTiledivWrite (who : Agent) (i : Nat) (v : Word) (s : State) : Host.Outcome State Fault Refusal :=
  regRow (decide (i < 272)) who (rTilediv i) v s

/-- CTADJ_WRITE (R31). -/
def execCtadjWrite (who : Agent) (v : Word) (s : State) : Host.Outcome State Fault Refusal :=
  regRow true who rCtadj v s

/-- BUCKET_MOVE (R299). -/
def execBucketMove (who : Agent) (b : Nat) (v : Word) (s : State) : Host.Outcome State Fault Refusal :=
  regRow (decide (b < 4096)) who (rBkt b) (setFld v slBkt_MOVE 1) s

/-- SL_CTL_RETIRE (R301). -/
def execSlCtlRetire (who : Agent) (sn : Nat) (v : Word) (s : State) : Host.Outcome State Fault Refusal :=
  regRow (decide (sn < 256)) who ⟨.slCtl, sn, 0⟩ v s

/-- LINK_DOWN_WRITE (R323). -/
def execLinkDownWrite (who : Agent) (tn : Nat) (o : Nat) (v : Word) (s : State) : Host.Outcome State Fault Refusal :=
  regRow (decide (tn < 256) && decide (o < 4)) who ⟨.meshLink, tn, o⟩ v s

/-- EPOCH_SWAP (R316). -/
def execEpochSwap (who : Agent) (v : Word) (s : State) : Host.Outcome State Fault Refusal :=
  regRow true who rEpoch (setFld v meshEpoch_CMD 1) s

/-- PORT_DRAIN (R318). -/
def execPortDrain (who : Agent) (tn : Nat) (q : Nat) (s : State) : Host.Outcome State Fault Refusal :=
  regRow (decide (tn < 256) && decide (q < 8)) who (rPort tn q) (s.cmdWord (rPort tn q) meshPort_CMD 1) s

/-- PORT_FENCE (R318). -/
def execPortFence (who : Agent) (tn : Nat) (q : Nat) (s : State) : Host.Outcome State Fault Refusal :=
  regRow (decide (tn < 256) && decide (q < 8)) who (rPort tn q) (s.cmdWord (rPort tn q) meshPort_CMD 2) s

/-- PORT_OPEN (R318). -/
def execPortOpen (who : Agent) (tn : Nat) (q : Nat) (s : State) : Host.Outcome State Fault Refusal :=
  regRow (decide (tn < 256) && decide (q < 8)) who (rPort tn q) (s.cmdWord (rPort tn q) meshPort_CMD 3) s

/-- SPARE_COPY_START (R331). -/
def execSpareCopyStart (who : Agent) (k : Nat) (v : Word) (s : State) : Host.Outcome State Fault Refusal :=
  regRow (decide (k < 16)) who (rMc .mcSpare k) (setFld v mcSpare_START 1) s

/-- CHANNEL_FAILOVER (R333). -/
def execChannelFailover (who : Agent) (k : Nat) (s : State) : Host.Outcome State Fault Refusal :=
  regRow (decide (k < 16)) who (rMc .mcStat k) (s.cmdWord (rMc .mcStat k) mcStat_CMD 1) s

/-- REJOIN (R334). -/
def execRejoin (who : Agent) (k : Nat) (s : State) : Host.Outcome State Fault Refusal :=
  regRow (decide (k < 16)) who (rMc .mcStat k) (s.cmdWord (rMc .mcStat k) mcStat_CMD 2) s

/-- ILV_LOCK (R325). -/
def execIlvLock (who : Agent) (v : Word) (s : State) : Host.Outcome State Fault Refusal :=
  regRow true who rIlv (setFld v mcIlv_LOCK 1) s

/-- GATEKEEPER_COMMIT (R338). -/
def execGatekeeperCommit (who : Agent) (i : Nat) (s : State) : Host.Outcome State Fault Refusal :=
  regRow (decide (i < 35)) who (rMgCtl i) (s.cmdWord (rMgCtl i) mgCtl_COMMIT 1) s

/-- GENERATE (R341). -/
def execGenerate (who : Agent) (s : Nat) (st : State) : Host.Outcome State Fault Refusal :=
  regRow (decide (s < 66)) who (rKey s) (st.cmdWord (rKey s) mcKeyslot_CMD 1) st

/-- ERASE (R341). -/
def execErase (who : Agent) (s : Nat) (st : State) : Host.Outcome State Fault Refusal :=
  regRow (decide (s < 66)) who (rKey s) (st.cmdWord (rKey s) mcKeyslot_CMD 2) st

/-- IDIST_SRC_CFG_WRITE (R181). -/
def execIdistSrcCfgWrite (who : Agent) (intid : Nat) (v : Word) (s : State) : Host.Outcome State Fault Refusal :=
  regRow (decide (intid < 8192)) who (rSrcCfg intid) v s

/-- IDIST_TGT_CFG_WRITE (R174). -/
def execIdistTgtCfgWrite (who : Agent) (t : Nat) (v : Word) (s : State) : Host.Outcome State Fault Refusal :=
  regRow (decide (t < 1028)) who (rTgtCfg t) v s

/-- SETPEND (R171). -/
def execSetpend (who : Agent) (intid : Nat) (s : State) : Host.Outcome State Fault Refusal :=
  regRow (decide (intid < 8192)) who ⟨.idistSrcState, intid, 0⟩ (s.cmdWord ⟨.idistSrcState, intid, 0⟩ idistSrcState_SETPEND 1) s

/-- CLRPEND (R171). -/
def execClrpend (who : Agent) (intid : Nat) (s : State) : Host.Outcome State Fault Refusal :=
  regRow (decide (intid < 8192)) who ⟨.idistSrcState, intid, 0⟩ (s.cmdWord ⟨.idistSrcState, intid, 0⟩ idistSrcState_CLRPEND 1) s

/-- IOTU_CTX_INV (R211). -/
def execIotuCtxInv (who : Agent) (c : Nat) (v : Word) (s : State) : Host.Outcome State Fault Refusal :=
  regRow (decide (c < 1024)) who (rCtx .iotuCtxInv c) v s

/-- IOTU_CTX_CFG_WRITE (R211). -/
def execIotuCtxCfgWrite (who : Agent) (c : Nat) (v : Word) (s : State) : Host.Outcome State Fault Refusal :=
  regRow (decide (c < 1024)) who (rCtx .iotuCtxCfg c) v s

/-- CLAIM_CHANGE (R368). -/
def execClaimChange (who : Agent) (idx : ClaimReg) (v : Word) (s : State) : Host.Outcome State Fault Refusal :=
  regRow (claimOk idx) who (claimReg idx) v s

/-- TWIN_FORM (R379). -/
def execTwinForm (who : Agent) (k : Nat) (s : State) : Host.Outcome State Fault Refusal :=
  regRow (decide (k < 512)) who (rTwin k) (s.cmdWord (rTwin k) cfgTwin_EN 1) s

/-- TWIN_DISSOLVE (R379). -/
def execTwinDissolve (who : Agent) (k : Nat) (s : State) : Host.Outcome State Fault Refusal :=
  regRow (decide (k < 512)) who (rTwin k) (s.cmdWord (rTwin k) cfgTwin_EN 0) s

/-- PORT_FAILOVER (R406). -/
def execPortFailover (who : Agent) (port : Nat) (s : State) : Host.Outcome State Fault Refusal :=
  regRow (decide (port < 32)) who (rPt .fxPortStat port) (s.cmdWord (rPt .fxPortStat port) fxPortStat_CMD 1) s

/-- PORT_RESTORE (R533). -/
def execPortRestore (who : Agent) (port : Nat) (s : State) : Host.Outcome State Fault Refusal :=
  regRow (decide (port < 32)) who (rPt .fxPortStat port) (s.cmdWord (rPt .fxPortStat port) fxPortStat_CMD 2) s

/-- QUEUE_ENABLE (R412). -/
def execQueueEnable (who : Agent) (q : Nat) (s : State) : Host.Outcome State Fault Refusal :=
  regRow (decide (q < 4096)) who (rQ .fxQCtl q) (s.cmdWord (rQ .fxQCtl q) fxQCtl_CMD 1) s

/-- QUEUE_STOP (R412). -/
def execQueueStop (who : Agent) (q : Nat) (s : State) : Host.Outcome State Fault Refusal :=
  regRow (decide (q < 4096)) who (rQ .fxQCtl q) (s.cmdWord (rQ .fxQCtl q) fxQCtl_CMD 2) s

/-- GCL_COMMIT (R423). -/
def execGclCommit (who : Agent) (port : Nat) (s : State) : Host.Outcome State Fault Refusal :=
  regRow (decide (port < 32)) who (rPt .fxQbvCtl port) (s.cmdWord (rPt .fxQbvCtl port) fxQbvCtl_COMMIT 1) s

/-- FN_CFG_WRITE (R440). -/
def execFnCfgWrite (who : Agent) (n : Nat) (v : Word) (s : State) : Host.Outcome State Fault Refusal :=
  regRow (decide (n < 256)) who (rFn .fxFnCfg n) v s

/-- FUNCTION_ENABLE (R444). -/
def execFunctionEnable (who : Agent) (n : Nat) (s : State) : Host.Outcome State Fault Refusal :=
  regRow (decide (n < 256)) who (rFn .fxFnCtl n) (s.cmdWord (rFn .fxFnCtl n) fxFnCtl_CMD 1) s

/-- FUNCTION_DISABLE (R443). -/
def execFunctionDisable (who : Agent) (n : Nat) (s : State) : Host.Outcome State Fault Refusal :=
  regRow (decide (n < 256)) who (rFn .fxFnCtl n) (s.cmdWord (rFn .fxFnCtl n) fxFnCtl_CMD 2) s

/-- FUNCTION_RESET (R443). -/
def execFunctionReset (who : Agent) (n : Nat) (s : State) : Host.Outcome State Fault Refusal :=
  regRow (decide (n < 256)) who (rFn .fxFnCtl n) (s.cmdWord (rFn .fxFnCtl n) fxFnCtl_CMD 3) s

/-- WINDOW_COMMIT (R463). -/
def execWindowCommit (who : Agent) (s : State) : Host.Outcome State Fault Refusal :=
  regRow true who (rSp .spWctl) (s.cmdWord (rSp .spWctl) spWctl_COMMIT 1) s

/-- HINT_SET (R467). -/
def execHintSet (who : Agent) (v : Word) (s : State) : Host.Outcome State Fault Refusal :=
  regRow true who (rSp .spHintset) v s

/-- CONTAINMENT_CLEAR (R480). -/
def execContainmentClear (who : Agent) (k : Nat) (s : State) : Host.Outcome State Fault Refusal :=
  regRow (decide (k < 16)) who (rRp .rpStat k) (s.cmdWord (rRp .rpStat k) rpStat_CONT 1) s

/-- WATCH_ACK (R501). -/
def execWatchAck (who : Agent) (w : Nat) (v : Word) (s : State) : Host.Outcome State Fault Refusal :=
  regRow (decide (w < 32)) who (rWatchStat w) (setFld (setFld 0 fbWatchStat_ACKSEQ (v.toNat % 256)) fbWatchStat_ACK 1) s

/-- PIN_RELEASE (R504). -/
def execPinRelease (who : Agent) (v : Word) (s : State) : Host.Outcome State Fault Refusal :=
  regRow true who rFbPin (setFld (setFld 0 fbPin_RELSEQ (v.toNat % 256)) fbPin_RELEASE 1) s

/-- SAFE_REQUEST (R505). -/
def execSafeRequest (who : Agent) (s : State) : Host.Outcome State Fault Refusal :=
  regRow true who ⟨.fbCtl, 0, 0⟩ (s.cmdWord ⟨.fbCtl, 0, 0⟩ fbCtl_SAFEREQ 1) s

/-- PARK (R517). -/
def execPark (who : Agent) (c : Nat) (s : State) : Host.Outcome State Fault Refusal :=
  regRow (isCoreNo c) who ⟨.coreCtl, c, 0⟩ (s.cmdWord ⟨.coreCtl, c, 0⟩ coreCtl_CMD 1) s

/-- RESUME (R516). -/
def execResume (who : Agent) (c : Nat) (s : State) : Host.Outcome State Fault Refusal :=
  regRow (isCoreNo c) who ⟨.coreCtl, c, 0⟩ (s.cmdWord ⟨.coreCtl, c, 0⟩ coreCtl_CMD 2) s

/-- START (R516). -/
def execStart (who : Agent) (c : Nat) (s : State) : Host.Outcome State Fault Refusal :=
  regRow (isCoreNo c) who ⟨.coreCtl, c, 0⟩ (s.cmdWord ⟨.coreCtl, c, 0⟩ coreCtl_CMD 3) s

/-- BIST (R516). -/
def execBist (who : Agent) (c : Nat) (s : State) : Host.Outcome State Fault Refusal :=
  regRow (isCoreNo c) who ⟨.coreCtl, c, 0⟩ (s.cmdWord ⟨.coreCtl, c, 0⟩ coreCtl_CMD 4) s

/-- POWERON (R516). -/
def execPoweron (who : Agent) (c : Nat) (s : State) : Host.Outcome State Fault Refusal :=
  regRow (isCoreNo c) who ⟨.coreCtl, c, 0⟩ (s.cmdWord ⟨.coreCtl, c, 0⟩ coreCtl_CMD 5) s

/-- POWEROFF (R516). -/
def execPoweroff (who : Agent) (c : Nat) (s : State) : Host.Outcome State Fault Refusal :=
  regRow (isCoreNo c) who ⟨.coreCtl, c, 0⟩ (s.cmdWord ⟨.coreCtl, c, 0⟩ coreCtl_CMD 6) s

/-- KILN_CONFIRM (R545). -/
def execKilnConfirm (who : Agent) (v : Word) (s : State) : Host.Outcome State Fault Refusal :=
  regRow true who ⟨.sbcConfirm, 0, 0⟩ v s

/-- SBC_RST_CHIP (R565). -/
def execSbcRstChip (who : Agent) (s : State) : Host.Outcome State Fault Refusal :=
  regRow true who ⟨.sbcRst, 0, 0⟩ (s.cmdWord ⟨.sbcRst, 0, 0⟩ sbcRst_CMD 1) s

/-- SBC_RST_ISLAND (R565). -/
def execSbcRstIsland (who : Agent) (s : State) : Host.Outcome State Fault Refusal :=
  regRow true who ⟨.sbcRst, 0, 0⟩ (s.cmdWord ⟨.sbcRst, 0, 0⟩ sbcRst_CMD 2) s

/-- ASH_FREEZE (R556). -/
def execAshFreeze (who : Agent) (s : State) : Host.Outcome State Fault Refusal :=
  regRow true who rAshCtl (s.cmdWord rAshCtl ashCtl_FREEZE 1) s

/-- ASH_UNFREEZE (R556). -/
def execAshUnfreeze (who : Agent) (s : State) : Host.Outcome State Fault Refusal :=
  regRow true who rAshCtl (s.cmdWord rAshCtl ashCtl_UNFREEZE 1) s

/-- SOFTWARE_EVENT (R554). -/
def execSoftwareEvent (who : Agent) (v : Word) (s : State) : Host.Outcome State Fault Refusal :=
  regRow true who ⟨.ashSwevt, 0, 0⟩ v s

/-- SETV_WRITE (R580). -/
def execSetvWrite (who : Agent) (r : Nat) (v : Word) (s : State) : Host.Outcome State Fault Refusal :=
  regRow (decide (r < 22)) who (rRail r) (setFld 0 pwrRailCtl_SETV (v.toNat % 64)) s

/-- RAIL_ON (R580). -/
def execRailOn (who : Agent) (r : Nat) (s : State) : Host.Outcome State Fault Refusal :=
  regRow (decide (r < 22)) who (rRail r) (s.cmdWord (rRail r) pwrRailCtl_CMD 1) s

/-- RAIL_OFF (R580). -/
def execRailOff (who : Agent) (r : Nat) (s : State) : Host.Outcome State Fault Refusal :=
  regRow (decide (r < 22)) who (rRail r) (s.cmdWord (rRail r) pwrRailCtl_CMD 2) s

/-- CTSTEP_WRITE (R32). -/
def execCtstepWrite (who : Agent) (half : CtHalf) (v : Word) (s : State) : Host.Outcome State Fault Refusal :=
  if !agentOk who then .fault .noSuchUnit
  else
    let r : Reg := ⟨.clkCtstep, 0, 0⟩
    match half with
    | .full => .next (s.writeRegAt (s.accOf who) r 0 8 v)
    | .low => .next (s.writeRegAt (s.accOf who) r 0 4 v)
    | .high => .next (s.writeRegAt (s.accOf who) r 4 4 v)

/-- SLOT_CONTROL_WRITE (R478): a 4-byte write of a port's Slot Control that leaves Slot Status as it is. -/
def execSlotControlWrite (who : Agent) (k : Nat) (v : Word) (s : State) : Host.Outcome State Fault Refusal :=
  if !(agentOk who && decide (k < 16)) then .fault .noSuchUnit
  else
    let a := s.accOf who
    match a.regOff (rRp .rpStat k) with
    | some (some (sel, x), _) =>
      .next ((s.cfgWrite a sel 8 (BitVec.ofNat 64 x)).s.cfgWrite a (sel + 0x2000 + 4 * 0x16) 4 (v &&& 0xFFFF)).s
    | _ => .next s.cfgDrop

/-- A doorbell of queue `j` of a function's page (R420); an I/O agent does not reach the page. -/
def State.ringFrom (s : State) (who : Agent) (fn off : Nat) (v : Word) : State :=
  let a := s.accOf who
  if (a.isCore || a.isSbc) && decide (off < 0x10000) then s.bell a.world a.dom fn off 4 v.toNat else s

/-- DESCRIPTOR_DOORBELL (R420, R421). -/
def execDescriptorDoorbell (who : Agent) (fn j : Nat) (v : Word) (s : State) : Host.Outcome State Fault Refusal :=
  if agentOk who && decide (fn < 256) then .next (s.ringFrom who fn (8 * j) v) else .fault .noSuchUnit

/-- COMPLETION_DOORBELL (R420, R421). -/
def execCompletionDoorbell (who : Agent) (fn j : Nat) (v : Word) (s : State) : Host.Outcome State Fault Refusal :=
  if agentOk who && decide (fn < 256) then .next (s.ringFrom who fn (8 * j + 4) v) else .fault .noSuchUnit

end Sys2Proof.Machine
end

