-- ==== Sys2Proof/Machine/Cmo.lean ====
section
/-! DEFINITION. Cache maintenance: major 0x2E (R235–R245). -/

namespace Sys2Proof.Machine

/-! Per-line forms. -/

/-- A per-line form raises MTYPE on Device memory (R236). -/
def cmoType (q : Xl) (va acc : Nat) : InsnM Unit := if q.mt ≥ 2 then raise 0x04 va 0 acc else pure ()

/-- Sends the CmoReq of a per-line form and retires when it is answered (R237, R256). -/
def cmoLine (x : Ctx) (op : Nat) (point : Bool) (va pa acc : Nat) : InsnM Flow := do
  let c ← getCore x.p
  match c.cmo with
  | some (_, true) =>
    modCore x.p (fun c => { c with cmo := none })
    pure .seq
  | some (ln, false) =>
    if c.refused.contains ln then
      modCore x.p (fun c => { c with cmo := none, refused := c.refused.erase ln })
      raise 0x0B va 1 acc
    else stall
  | none =>
    twinHold x.p
    lineOrdered x pa
    stallIf (((c.line pa).map (fun l => l.st.asked)).getD false)
    modify (fun s => s.request x.p .cmoReq pa x.world x.dom false 0 0 op point)
    modCore x.p (fun c => { c with cmo := some (lineOf pa, false) })
    stall

/-- L1 loses its copies of a Peat line with what a dirty one had stored (R230, R236). -/
def Core.l1Discard (c : Core) (pa : Nat) : Core :=
  let c' := match (c.l1dEnt pa).bind (fun e => if e.dirty then e.under else none) with
    | some u => c.setPeatLine pa u
    | none => c
  c'.l1Drop pa

/-- A per-line form on the core's own Peat line (R236): .M as .P. -/
def Core.peatCmo (c : Core) (op : Nat) (pa : Nat) : Core :=
  match op with
  | 0 => c.l1dClean pa
  | 1 => c.l1Discard pa
  | _ => (c.l1dClean pa).l1Drop pa

/-- A per-line clean or invalidate form (R235): `low` its lowest level, `st` checked as a store. -/
def cmoForm (p : Nat) (rd ra rb : RegNo) (low op : Nat) (point st : Bool) (s : State) :
    Host.Outcome State Fault Refusal :=
  runInsn p false .cmo (fun x => do
    illIf (rd != 0 || rb != 0)
    privIf (x.level < low)
    let acc := if st then 3 else 2
    let n := if st then needStore else needLoad
    let va := (← getG x.p ra).toNat
    let q ← translate x x.world x.level false n va acc
    cmoType q va acc
    match place q.pa with
    | .dram =>
      if !(← get).dramOk q.pa then failAt x x.world x.dom q.pa st va acc .unpop
      else cmoLine x op point va q.pa acc
    | .peat o _ =>
      if o = p then
        twinHold x.p
        peatCheck x n va (lineOf q.pa) 64 acc
        lineOrdered x q.pa
        if op != 1 then modify (fun s => if ((s.core p).l1dEnt q.pa).any (·.dirty) then s.readFlaws p 1 q.pa else s)
        modCore x.p (·.peatCmo op q.pa)
      pure .seq
    | .none => failAt x x.world x.dom q.pa st va acc .unpop
    | _ =>
      romCheck x.world q.pa va acc
      pure .seq) s

/-- DCLEAN.P (R235). -/
def execDcleanP (p : Nat) (rd ra rb : RegNo) (s : State) : Host.Outcome State Fault Refusal :=
  cmoForm p rd ra rb 0 0 false false s
/-- DINV.P (R235). -/
def execDinvP (p : Nat) (rd ra rb : RegNo) (s : State) : Host.Outcome State Fault Refusal :=
  cmoForm p rd ra rb 1 1 false true s
/-- DCLINV.P (R235). -/
def execDclinvP (p : Nat) (rd ra rb : RegNo) (s : State) : Host.Outcome State Fault Refusal :=
  cmoForm p rd ra rb 0 2 false false s
/-- DCLEAN.M (R235). -/
def execDcleanM (p : Nat) (rd ra rb : RegNo) (s : State) : Host.Outcome State Fault Refusal :=
  cmoForm p rd ra rb 0 0 true false s
/-- DINV.M (R235). -/
def execDinvM (p : Nat) (rd ra rb : RegNo) (s : State) : Host.Outcome State Fault Refusal :=
  cmoForm p rd ra rb 1 1 true true s
/-- DCLINV.M (R235). -/
def execDclinvM (p : Nat) (rd ra rb : RegNo) (s : State) : Host.Outcome State Fault Refusal :=
  cmoForm p rd ra rb 0 2 true false s

/-- A line is written whole without a read: what errors its old contents had are never found. -/
def Core.overwritten (c : Core) (pa : Nat) : Core :=
  { c with early := tdel c.early (lineOf pa), flaws := c.flaws.filter (fun f => f.tag || f.at_ != lineOf pa) }

/-- DZERO (R235, R254, R263): 64 zero bytes, held in M; on Normal-NC one 64-byte store. -/
def execDzero (p : Nat) (rd ra rb : RegNo) (ill : Bool) (s : State) : Host.Outcome State Fault Refusal :=
  runInsn p false .cmo (fun x => do
    illIf (ill || rd != 0 || rb != 0)
    let va := (← getG x.p ra).toNat
    let q ← translate x x.world x.level false needStore va 3
    cmoType q va 3
    let pc : Piece := { va := va / 64 * 64, pa := lineOf q.pa, mt := q.mt, off := 0, size := 64 }
    match place q.pa with
    | .dram =>
      storeCheck x 3 { pc with va := va }
      twinHold x.p
      lineOrdered x q.pa
      if q.mt = 1 then
        sqRoom x 1
        let sid ← newSid x.p
        storePieces x 3 0 false false sid 0 [pc]
      else
        let _line ← wbLine x true x.world x.dom va q.pa 3
        modCore x.p (fun c => (c.overwritten q.pa).storeLine q.pa 0 64 0)
      pure .seq
    | .peat o _ =>
      if o = p then
        twinHold x.p
        peatCheck x needStore va (lineOf q.pa) 64 3
        lineOrdered x q.pa
        modCore x.p (fun c => ((c.overwritten q.pa).l1Drop q.pa).setPeatLine q.pa {})
      pure .seq
    | .none => failAt x x.world x.dom q.pa true va 3 .unpop
    | _ =>
      romCheck x.world q.pa va 3
      pure .seq) s

/-- A part of a prefetch, which raises nothing: whether it went on without an exception (R236). -/
def quietly (m : InsnM Unit) : InsnM Bool := fun s =>
  match m s with
  | .ok _ s' => .ok true s'
  | .error .stall s' => .error .stall s'
  | .error (.exc _) s' => .ok false s'

/-- A prefetch (R235, R236): does nothing when a check fails; retires when its request is issued. A line under other tags
leaves first (R218). -/
def prefetch (p : Nat) (rd ra rb : RegNo) (write : Bool) (s : State) : Host.Outcome State Fault Refusal :=
  runInsn p false .cmo (fun x => do
    illIf (rd != 0 || rb != 0)
    let va := (← getG x.p ra).toNat
    let (s', r) := (← get).xlate x x.world x.level false (if write then needStore else needLoad) va
    match r with
    | .error (.bus .miss pa _ _) =>
      if ← quietly (walkMiss x x.world (regimeOf x x.world x.level).dom va pa 5) then stall else pure .seq
    | .error _ => pure .seq
    | .ok q =>
      set s'
      if q.mt = 0 ∧ place q.pa = .dram ∧ s'.dramOk q.pa then
        let miss : PLine := { st := if write then .IM_AD else .IS_D, world := x.world, dom := x.dom, spec := true }
        match (s'.core p).line q.pa with
        | none => missFor x q.pa (if write then .getM else .getS) miss prefetchTag
        | some l =>
          if l.world != x.world || l.dom != x.dom then
            otherTags x q.pa l
            stall
          else if write && l.way.isSome then
            match l.st with
            | .S => missFor x q.pa .upg { l with st := .SM_AD, acks := 0, ackcnt := none, spec := true } prefetchTag
            | .O => missFor x q.pa .upg { l with st := .OM_A, acks := 0, ackcnt := none, spec := true } prefetchTag
            | _ => pure ()
          else pure ()
      pure .seq) s

/-- PREFR (R235). -/
def execPrefr (p : Nat) (rd ra rb : RegNo) (s : State) : Host.Outcome State Fault Refusal := prefetch p rd ra rb false s
/-- PREFW (R235). -/
def execPrefw (p : Nat) (rd ra rb : RegNo) (s : State) : Host.Outcome State Fault Refusal := prefetch p rd ra rb true s

/-! The range engine (R238–R245). -/

/-- INTID 16 becomes pending at the interface of the world and level that started the operation (R180, R243). -/
def State.rngInt (s : State) (p : Nat) (world : Bool) (level : Nat) : State :=
  match s.targetOf p with
  | none => s
  | some t =>
    let page := pageOf world level
    (s.setIface t page { s.iface t page with rngPend := true }).notify t

/-- The engine stops (R243). -/
def State.rangeStop (s : State) (p : Nat) (f : RangeEng → RangeEng) : State :=
  let r := (s.core p).range
  (s.modCore p (fun c => { c with range := { f r with busy := false, stopping := false } })).rngInt p r.world r.level

/-- The engine after a change: it stops at the first line that is refused, after RABORT once no line is in progress, and at
the end of the range once every request is answered (R242, R243). -/
def State.rangeSettle (s : State) (p : Nat) : State :=
  let r := (s.core p).range
  if !r.busy then s
  else if let some a := r.bad then
    if r.due.all (fun e => decide (a ≤ e.2)) then s.rangeStop p (fun r => { r with err := true, ekind := 2, pos := a }) else s
  else if r.stopping && r.due.isEmpty then s.rangeStop p (fun r => { r with aborted := true })
  else if decide (r.next ≥ r.stop) && r.due.isEmpty && r.out.isEmpty then s.rangeStop p id
  else s

/-- The status of RSTAT and RABORT (R241). -/
def RangeEng.status (r : RangeEng) : Word :=
  BitVec.ofNat 64 (b2n r.busy + b2n r.err * 2 + b2n r.aborted * 4 + r.ekind * 8 + bits r.pos 6 42 * 64 + r.op * 2 ^ 48 +
    b2n r.point * 2 ^ 50)

/-- Stage 2 translates the ranges of a core's guest regimes while it is enabled (R239). -/
def Ctx.s2On (x : Ctx) : Bool := x.level ≤ 1 && (regimeOf x x.world x.level).s2.isSome

/-- A start form (R238, R242). -/
def rangeStart (p : Nat) (rd ra rb : RegNo) (low op : Nat) (point : Bool) (s : State) :
    Host.Outcome State Fault Refusal :=
  runInsn p false .cmo (fun x => do
    illIf (rd == ra || rd == rb)
    privIf (x.level < low)
    let a := (← getG x.p ra).toNat
    let n := (← getG x.p rb).toNat
    if a % 64 ≠ 0 ∨ n % 64 ≠ 0 ∨ a > 2 ^ 48 ∨ n > 2 ^ 48 ∨ a + n > 2 ^ 48 then raise 0x03 a
    twinHold x.p
    let c ← getCore x.p
    if c.range.busy then
      setG x.p rd 1
      pure .seq
    else
      modCore x.p (fun c => { c with range := { busy := true, pos := a, stop := a + n, next := a, op := op, point := point,
                                                world := x.world, dom := x.dom, level := x.level, s2 := x.s2On
                                                out := c.range.out, run := c.range.run + 1 } })
      modify (·.rangeSettle x.p)
      setG x.p rd 0
      pure .seq) s

/-- RCLEAN.P (R238). -/
def execRcleanP (p : Nat) (rd ra rb : RegNo) (s : State) : Host.Outcome State Fault Refusal :=
  rangeStart p rd ra rb 0 0 false s
/-- RINV.P (R238). -/
def execRinvP (p : Nat) (rd ra rb : RegNo) (s : State) : Host.Outcome State Fault Refusal :=
  rangeStart p rd ra rb 1 1 false s
/-- RCLINV.P (R238). -/
def execRclinvP (p : Nat) (rd ra rb : RegNo) (s : State) : Host.Outcome State Fault Refusal :=
  rangeStart p rd ra rb 1 2 false s
/-- RCLEAN.M (R238). -/
def execRcleanM (p : Nat) (rd ra rb : RegNo) (s : State) : Host.Outcome State Fault Refusal :=
  rangeStart p rd ra rb 0 0 true s
/-- RINV.M (R238). -/
def execRinvM (p : Nat) (rd ra rb : RegNo) (s : State) : Host.Outcome State Fault Refusal :=
  rangeStart p rd ra rb 1 1 true s
/-- RCLINV.M (R238). -/
def execRclinvM (p : Nat) (rd ra rb : RegNo) (s : State) : Host.Outcome State Fault Refusal :=
  rangeStart p rd ra rb 1 2 true s

/-- RSTAT (R241). -/
def execRstat (p : Nat) (rd ra rb : RegNo) (s : State) : Host.Outcome State Fault Refusal :=
  runInsn p false .cmo (fun x => do
    illIf (ra != 0 || rb != 0)
    setG x.p rd (← getCore x.p).range.status
    pure .seq) s

/-- RABORT (R242): the engine stops after the lines in progress, and the status is read after the abort. -/
def execRabort (p : Nat) (rd ra rb : RegNo) (s : State) : Host.Outcome State Fault Refusal :=
  runInsn p false .cmo (fun x => do
    illIf (ra != 0 || rb != 0)
    privIf (x.level < 1)
    if (← getCore x.p).range.busy then
      modCore x.p (fun c => { c with range := { c.range with stopping := true } })
      modify (·.rangeSettle x.p)
      stallIf (← getCore x.p).range.busy
    setG x.p rd (← getCore x.p).range.status
    pure .seq) s

/-- Where the engine's next line lies: a physical address; the error kind of R241; or a line of the tables that L2 does not
hold. -/
def State.rangeXlate (s : State) (p : Nat) (r : RangeEng) : Except (Nat ⊕ Nat) Nat :=
  if r.s2 then
    let c := s.core p
    let tb := c.crv (if r.world then ⟨true, 0x312#12⟩ else ⟨false, 0x242#12⟩)
    match walk2 (s.walkRead p r.world r.dom) false r.next 4 (fld tb s2tb_BASE * 4096) with
    | .error (.fault _) => .error (.inl 1)
    | .error (.bus .miss pa _ _) => .error (.inr pa)
    | .error (.bus _ _ _ _) => .error (.inl 3)
    | .ok l => if (if r.op = 0 then l.r else l.w) then .ok (l.out r.next) else .error (.inl 1)
  else .ok r.next

/-- The tag of the engine's requests tells its operations apart. -/
def RangeEng.tag (r : RangeEng) : Nat := r.run + 1

/-- The engine moves on past its next line, which needs no request. -/
def RangeEng.pass (r : RangeEng) : RangeEng := { r with next := r.next + 64 }.placed

/-- The engine has asked the home for its next line. -/
def RangeEng.ask (r : RangeEng) (pa : Nat) : RangeEng :=
  { r with next := r.next + 64, due := r.due ++ [(lineOf pa, r.next)], out := r.out ++ [lineOf pa] }.placed

/-- The engine stops at its next line with an error (R243). -/
def State.rangeErr (s : State) (p k : Nat) : State := s.rangeStop p (fun r => { r with err := true, ekind := k })

/-- The engine asks L2 for a line of the tables (R194); a refusal stops it. -/
def State.rangeWalk (s : State) (p : Nat) (r : RangeEng) (pa : Nat) : State :=
  let x : Ctx := { p := p, eff := (s.core p).arch.cr, level := r.level, world := r.world, pc := 0 }
  match walkMiss x r.world r.dom r.next pa 5 s with
  | .ok _ s' => s'
  | .error .stall s' => s'
  | .error (.exc _) s' => s'.rangeErr p 3

/-- One request at a time at point .P, 16 at .M; a dirty line at .P goes through the Cinder buffer (R240). -/
def RangeEng.mayAsk (r : RangeEng) (c : Core) (pa : Nat) : Bool :=
  if r.point then decide (r.out.length < 16)
  else r.due.isEmpty &&
    (match c.line pa with
     | some l => !(l.st.dirty && !l.cinder && decide (c.cinderUsed ≥ 32))
     | none => true)

/-- RANGE_ENGINE_LINE (R239, R240): the engine takes up its next line. -/
def execRangeEngineLine (p : Nat) (s : State) : Host.Outcome State Fault Refusal :=
  if !isCore p then .fault .noSuchUnit
  else
    let c := s.core p
    let r := c.range
    let on := fun (f : RangeEng → RangeEng) => (s.modCore p (fun c => { c with range := f c.range })).rangeSettle p
    if !r.busy || r.stopping || r.bad.isSome || decide (r.next ≥ r.stop) then .next s
    else
      match s.rangeXlate p r with
      | .error (.inl k) => .next (if r.due.isEmpty then s.rangeErr p k else s)
      | .error (.inr pa) => .next (s.rangeWalk p r pa)
      | .ok pa =>
        if place pa ≠ .dram ∨ s.dramOk pa = false then .next (on RangeEng.pass)
        else
          match s.verdict (s.dramGate pa) r.world r.dom (r.op == 0) (r.op != 0) (lineOf pa) 64 with
          | some rsn =>
            .next (if r.due.isEmpty then
              (s.gateFault (s.dramGate pa) false (r.op != 0) r.world r.dom (agentOf p) rsn pa).rangeErr p 2 else s)
          | none =>
            if !r.point && !((c.line pa).map PLine.holds).getD false then .next (on RangeEng.pass)
            else if !r.mayAsk c pa then .next s
            else
              let op := if r.op = 2 then 3 else r.op
              .next ((on (·.ask pa)).request p .cmoReq pa r.world r.dom false 0 0 op r.point r.tag)

end Sys2Proof.Machine
end

