-- ==== Sys2Proof/Machine/Ahead.lean ====
section
/-! DEFINITION. Loads and fetches ahead of the oldest instruction, on the path or off it (R124–R129, R249). -/

namespace Sys2Proof.Machine

/-- What an instruction ahead of the oldest one sees. -/
def State.aheadCtx (s : State) (p : Nat) : Ctx :=
  let c := s.core p
  { p := p, eff := c.effNow, level := c.arch.level, world := c.arch.world, pc := c.arch.pc }

/-- The core may issue instructions ahead of the oldest one: it runs, and speculation is not off (R124). -/
def State.mayRunAhead (s : State) (p : Nat) : Bool :=
  let c := s.core p
  c.run == .running && !c.halted && !s.follows p && c.arch.entering.isNone && !c.nospecEff c.arch.world

/-- An entry of a TLB maps a page of memory type `mt` on the address and grants the access (R126, R128): an access without a
translation or a permission makes no request. -/
def State.aheadOk (s : State) (p pa : Nat) (n : Need) (mt : Nat := 0) : Bool :=
  let c := s.core p
  let x := s.aheadCtx p
  let g := regimeOf x x.world x.level
  ((if n.x then c.itlb else c.dtlb).map (·.2) ++ c.l2tlb.map (·.2)).any (fun e =>
    decide (e.pa ≤ pa ∧ pa < e.pa + 2 ^ e.lg) && e.hits g (e.va + (pa - e.pa)) && e.mt == mt && (permit e x.level n).isNone)

/-- A load ahead of its turn reads a line that the core holds under its tags (R249): its value is kept for the load, with the
registers from which the address came. -/
def readAhead (x : Ctx) (pa : Nat) : InsnM Unit := do
  l1dGet x.p x.world x.dom pa
  modify (·.readFlaws x.p 1 pa)
  modCore x.p (fun c =>
    let d := c.held pa
    let v : EarlyLd := ⟨d.1, d.2, (List.range 32).map (fun i => (BitVec.ofNat 5 i, c.g (BitVec.ofNat 5 i)))⟩
    { c with early := tput c.early (lineOf pa) v })

/-- A load or fetch of agent `a` ahead of the oldest instruction: it reads the line that the core holds, or asks for it with the
speculative flag (R127, R128). -/
def State.ahead (s : State) (a pa : Nat) : State :=
  match coreOfAgent a with
  | none => s
  | some p =>
    let ld := s.aheadOk p pa needLoad
    if !s.mayRunAhead p || place pa != .dram || !(ld || s.aheadOk p pa ⟨false, false, true⟩) then s
    else
      let c := s.core p
      let x := s.aheadCtx p
      let k : L1Miss := if ld then .data else .fetch
      match c.line pa with
      | none =>
        if c.missFull k then s
        else
          (s.modCore p (·.setLine pa { st := .IS_D, world := x.world, dom := x.dom, spec := true, miss := k })).request p .getS pa
            x.world x.dom true
      | some l =>
        if ld && l.world == x.world && l.dom == x.dom && l.holds && l.way.isSome then
          match readAhead x pa s with
          | .ok _ s' => s'
          | .error _ _ => s
        else s

/-- A Normal-NC load of agent `a` ahead of the oldest instruction: its read goes to the channel with the speculative flag, and
its data fills no cache and is used by nothing (R128). -/
def State.aheadNc (s : State) (a pa : Nat) : State :=
  match coreOfAgent a with
  | none => s
  | some p =>
    if !s.mayRunAhead p || place pa != .dram || !s.aheadOk p pa needLoad 1 then s
    else
      let x := s.aheadCtx p
      let n := (s.core p).ncSeq
      (s.modCore p (fun c => { c with ncSeq := n + 1 })).send
        { s.ncMsg x .ncRead (pa / 8 * 8) 8 0 with aux := n, spec := true }

end Sys2Proof.Machine
end

