-- ==== Sys2Proof/Machine/Coherence.lean ====
section
/-! DEFINITION. The messages of the coherence protocol at their receivers (R275–R293, R300, R312). -/

namespace Sys2Proof.Machine

/-- The home at a slice, as a message source or destination. -/
def homeId (sn : Nat) : Nat := 0x1000 + sn

/-- No request of VC0 that waits for the same home queue has reached urgency 15 before this one (R314). -/
def State.urgentFirst (s : State) (m : Msg) : Bool :=
  m.vc3 || !s.net.any (fun x => !x.vc3 && x.waits && x.at15 != 0 && decide (x.dst = m.dst) &&
    (m.at15 == 0 || decide (x.at15 < m.at15)))

/-- The request found no entry in its home queue. -/
def State.reqWaits (s : State) (m : Msg) : State :=
  match s.net.findIdx? (· == m) with
  | some i => { s with net := s.net.modify i (fun (x : Msg) => { x with waits := true }) }
  | none => s

/-- Delivers the oldest request of an opcode that agent `a` sent for a line to its home. A request that finds no room, or
that comes after a more urgent one (R314), stays where it is. -/
def State.deliverReq (s : State) (o : Opc) (a pa : Nat) : State :=
  match s.recv (fun m => m.opc == o && m.src == a && m.pa == lineOf pa) with
  | none => s
  | some (m, s') =>
    match m.dst with
    | .home sn => if s'.urgentFirst m then (s'.arrive sn m).getD (s.reqWaits m) else s
    | _ => s

/-- A request row: names an agent. -/
def reqRow (o : Opc) (a pa : Nat) (s : State) : Host.Outcome State Fault Refusal :=
  if !agentIdOk a then .fault .noSuchUnit else .next (s.deliverReq o a pa)

/-- GET_S (R282). With `spec`, and none on its way, a load or fetch of the core that is not its oldest instruction reads the
line, or sends the request (log entry 25). -/
def execGetS (a pa : Nat) (spec : Bool) (s : State) : Host.Outcome State Fault Refusal :=
  if !agentIdOk a then .fault .noSuchUnit
  else if spec && !(s.net.any (fun m => m.opc == .getS && m.src == a && m.pa == lineOf pa)) then
    .next ((s.ahead a pa).deliverReq .getS a pa)
  else .next (s.deliverReq .getS a pa)

/-- GET_M (R282). Its `spec` tells a prefetch's request (R236): no store asks for its line before it has retired (R125). -/
def execGetM (a pa : Nat) (_spec : Bool) (s : State) : Host.Outcome State Fault Refusal := reqRow .getM a pa s

/-- UPG (R282). -/
def execUpg (a pa : Nat) (s : State) : Host.Outcome State Fault Refusal := reqRow .upg a pa s
/-- READ_ONCE (R282). -/
def execReadOnce (a pa : Nat) (s : State) : Host.Outcome State Fault Refusal := reqRow .readOnce a pa s
/-- WRITE_UNIQUE (R282). -/
def execWriteUnique (a pa : Nat) (s : State) : Host.Outcome State Fault Refusal := reqRow .writeUnique a pa s
/-- WRITE_PTL (R282). -/
def execWritePtl (a pa : Nat) (s : State) : Host.Outcome State Fault Refusal := reqRow .writePtl a pa s
/-- PUT_M (R282). -/
def execPutM (a pa : Nat) (s : State) : Host.Outcome State Fault Refusal := reqRow .putM a pa s
/-- PUT_O (R282). -/
def execPutO (a pa : Nat) (s : State) : Host.Outcome State Fault Refusal := reqRow .putO a pa s
/-- PUT_E (R282). -/
def execPutE (a pa : Nat) (s : State) : Host.Outcome State Fault Refusal := reqRow .putE a pa s
/-- CMO_REQ (R283). -/
def execCmoReq (a pa : Nat) (s : State) : Host.Outcome State Fault Refusal := reqRow .cmoReq a pa s

/-- HOME_TRANSACTION_START (R278): the oldest queued request for the line starts. `dirErr` and `llcErr` are the storage
errors that its lookups find (R274, R294). -/
def execHomeTransactionStart (sn pa : Nat) (dirErr llcErr : Upset) (s : State) : Host.Outcome State Fault Refusal :=
  if sn ≥ 256 then .fault .noSuchUnit
  else
    let q := tget [] s.hq sn
    match q.find? (fun m => m.pa == lineOf pa) with
    | none => .next s
    | some m =>
      let s := (s.ariseSl dirErr).ariseSl llcErr
      match ({ s with hq := tput s.hq sn (q.erase m) }).startTxn sn m (q.takeWhile (· != m)) dirErr llcErr with
      | some s' => .next s'
      | none => .next s

/-! Snoops at a cache. -/

/-- A snoop that the range engine's request at point .P has brought has been handled: its line is processed (R240). -/
def State.snooped (s : State) (p : Nat) (m : Msg) : State :=
  let c := s.core p
  if m.req = agentOf p ∧ !m.point ∧ m.tag = c.range.run + 1 ∧ !c.deferred.contains m then
    s.modCore p (fun c => { c with range := c.range.processed (lineOf m.pa) }) |>.rangeSettle p
  else s

/-- A snoop row: the oldest message of the opcode for the line at agent `a`. -/
def snoopRow (o : Opc) (a pa : Nat) (e : Upset) (s : State) : Host.Outcome State Fault Refusal :=
  if !agentIdOk a then .fault .noSuchUnit
  else
    match coreOfAgent a with
    | none => .next s
    | some p =>
      match s.recv (fun m => m.opc == o && decide (m.dst = .agent a) && m.pa == lineOf pa) with
      | none => .next s
      | some (m, s') => .next ((s'.arise p e).snoopRecv p m e |>.snooped p m)

/-- FWD_GET_S (R289). -/
def execFwdGetS (a pa : Nat) (e : Upset) (s : State) : Host.Outcome State Fault Refusal := snoopRow .fwdGetS a pa e s
/-- FWD_GET_M (R289). -/
def execFwdGetM (a pa : Nat) (s : State) : Host.Outcome State Fault Refusal := snoopRow .fwdGetM a pa .none s
/-- FWD_READ_ONCE (R289). -/
def execFwdReadOnce (a pa : Nat) (s : State) : Host.Outcome State Fault Refusal := snoopRow .fwdReadOnce a pa .none s
/-- INV (R289). -/
def execInv (a pa : Nat) (s : State) : Host.Outcome State Fault Refusal := snoopRow .inv a pa .none s
/-- SNP_CLEAN (R289). -/
def execSnpClean (a pa : Nat) (s : State) : Host.Outcome State Fault Refusal := snoopRow .snpClean a pa .none s
/-- SNP_CLEAN_INV (R289). -/
def execSnpCleanInv (a pa : Nat) (e : Upset) (s : State) : Host.Outcome State Fault Refusal :=
  snoopRow .snpCleanInv a pa e s
/-- SNP_DISCARD (R289). -/
def execSnpDiscard (a pa : Nat) (s : State) : Host.Outcome State Fault Refusal := snoopRow .snpDiscard a pa .none s

/-! Answers at a requester. -/

/-- Delivers the oldest message of an opcode for a line at agent `a` to `f`. -/
def State.deliverTo (s : State) (o : Opc) (a pa : Nat) (f : State → Msg → State) : State :=
  match s.recv (fun m => m.opc == o && decide (m.dst = .agent a) && m.pa == lineOf pa) with
  | none => s
  | some (m, s') => f s' m

/-- An answer row whose receiver is a core. -/
def ansRow (o : Opc) (a pa : Nat) (f : State → Nat → Msg → State) (s : State) : Host.Outcome State Fault Refusal :=
  if !agentIdOk a then .fault .noSuchUnit
  else .next (s.deliverTo o a pa (fun s m =>
    match coreOfAgent a with
    | some p => f s p m
    | none => s))

/-- DATA (R290). -/
def execData (a pa : Nat) (s : State) : Host.Outcome State Fault Refusal := ansRow .data a pa State.dataRecv s
/-- ACK_COUNT (R290). -/
def execAckCount (a pa : Nat) (s : State) : Host.Outcome State Fault Refusal := ansRow .ackCount a pa State.ackCountRecv s
/-- PUT_ACK (R291). -/
def execPutAck (a pa : Nat) (s : State) : Host.Outcome State Fault Refusal := ansRow .putAck a pa State.putAckRecv s
/-- STALE_PUT_ACK (R290). -/
def execStalePutAck (a pa : Nat) (s : State) : Host.Outcome State Fault Refusal :=
  ansRow .stalePutAck a pa State.stalePutAckRecv s

/-- RO_DATA (R282): the snapshot reaches its agent, which answers with Unblock. -/
def execRoData (a pa : Nat) (s : State) : Host.Outcome State Fault Refusal :=
  if !agentIdOk a then .fault .noSuchUnit
  else .next (s.deliverTo .roData a pa (fun s m =>
    if a = 0x850 then (s.dbgAnswer m.tag (fun d => d.bytes m.data m.poison)).unblock a pa 0
    else ({ s with io := ioAnswer a pa false (fun r => { r with done := true, data := m.data, poison := m.poison }) s.io }.unblock a pa
      0).ioKick))

/-- WR_ACK (R282): the write is performed. For the Ledger's mirror, the copy is made (R552). -/
def execWrAck (a pa : Nat) (s : State) : Host.Outcome State Fault Refusal :=
  if !agentIdOk a then .fault .noSuchUnit
  else .next (s.deliverTo .wrAck a pa (fun s m =>
    if a = 0x850 then s.dbgAnswer m.tag (fun _ => some 0)
    else if a = 0x810 then
      if s.mirOut then { s with mirOut := false }.wr ⟨.ledgMseq, 0, 0⟩ (s.rd ⟨.ledgMseq, 0, 0⟩ + 1) else s
    else { s with io := ioAnswer a pa true (fun r => { r with done := true }) s.io }.ioKick))

/-- INV_ACK (R290): counted by the requesting core, or by the home. -/
def execInvAck (a pa : Nat) (s : State) : Host.Outcome State Fault Refusal :=
  if !agentIdOk a then .fault .noSuchUnit
  else if 0x1000 ≤ a then
    match s.recv (fun m => m.opc == .invAck && decide (m.dst = .home (a - 0x1000)) && m.pa == lineOf pa) with
    | none => .next s
    | some (m, s') => .next (s'.homeAnswer (a - 0x1000) m)
  else ansRow .invAck a pa State.invAckRecv s

/-- The answer is the range engine's: its tag says so. One that answers an operation before the present one is dropped. -/
def engineTag (m : Msg) : Bool := decide (prefetchTag < m.tag)

/-- A request of the engine for a line has been answered. -/
def State.rangeAnswered (s : State) (p : Nat) (m : Msg) (f : RangeEng → RangeEng) : State :=
  let r := (s.core p).range
  let ln := lineOf m.pa
  let r' := { r with out := r.out.erase ln }
  (s.modCore p (fun c => { c with range := if m.tag = r.tag then f r' else r' })).rangeSettle p

/-- CMO_ACK (R237, R239): of a per-line form, or of the range engine. -/
def State.cmoAckRecv (s : State) (p : Nat) (m : Msg) : State :=
  let ln := lineOf m.pa
  if engineTag m then s.rangeAnswered p m (·.processed ln)
  else s.modCore p (fun c => if c.cmo = some (ln, false) then { c with cmo := some (ln, true) } else c)

/-- CMO_ACK (R237). -/
def execCmoAck (a pa : Nat) (s : State) : Host.Outcome State Fault Refusal := ansRow .cmoAck a pa State.cmoAckRecv s

/-- A Refuse that answers the range engine stops it at the line (R243); any other is the core's. -/
def State.coreRefused (s : State) (p : Nat) (m : Msg) : State :=
  if engineTag m then s.rangeAnswered p m (·.refused (lineOf m.pa)) else s.refuseRecv p m

/-- REFUSE (R279): the refusal reaches its requester. -/
def execRefuse (a pa : Nat) (s : State) : Host.Outcome State Fault Refusal :=
  if !agentIdOk a then .fault .noSuchUnit
  else .next (s.deliverTo .refuse a pa (fun s m =>
    match coreOfAgent a with
    | some p => s.coreRefused p m
    | none =>
      if a = 0x810 then { s with mirRef := s.mirOut, mirOut := false }
      else if a = 0x850 then s.dbgAnswer m.tag (fun _ => none)
      else
        let w := m.orig == .writeUnique || m.orig == .writePtl
        { s with io := ioAnswer a pa w (fun r => { r with done := true, err := true }) s.io }.ioKick))

/-! Answers at the home. -/

/-- An answer row whose receiver is the home at slice `sn`. -/
def homeRow (o : Opc) (sn pa : Nat) (f : State → Nat → Msg → State) (s : State) : Host.Outcome State Fault Refusal :=
  if sn ≥ 256 then .fault .noSuchUnit
  else
    match s.recv (fun m => m.opc == o && decide (m.dst = .home sn) && m.pa == lineOf pa) with
    | none => .next s
    | some (m, s') => .next (f s' sn m)

/-- SNP_DATA (R283). -/
def execSnpData (sn pa : Nat) (s : State) : Host.Outcome State Fault Refusal := homeRow .snpData sn pa State.homeAnswer s
/-- SNP_ACK (R283). -/
def execSnpAck (sn pa : Nat) (s : State) : Host.Outcome State Fault Refusal := homeRow .snpAck sn pa State.homeAnswer s
/-- FWD_MISS (R281). -/
def execFwdMiss (sn pa : Nat) (s : State) : Host.Outcome State Fault Refusal := homeRow .fwdMiss sn pa State.homeFwdMiss s
/-- UNBLOCK (R280). -/
def execUnblock (sn pa : Nat) (s : State) : Host.Outcome State Fault Refusal := homeRow .unblock sn pa State.homeUnblock s

/-! Requests sent again. -/

/-- REDIR (R300): the requester sends the same message to the bucket's present slice. -/
def execRedir (a pa : Nat) (s : State) : Host.Outcome State Fault Refusal :=
  if !agentIdOk a then .fault .noSuchUnit
  else .next (s.deliverTo .redir a pa (fun s m => s.send { m with opc := m.orig, src := a, dst := .home m.aux }))

/-- RETRY (R312): the request is sent again 64 CLK_MESH cycles later, which is 7 CLK_PERI cycles here. -/
def execRetry (a : Nat) (s : State) : Host.Outcome State Fault Refusal :=
  if !agentIdOk a then .fault .noSuchUnit
  else
    match s.recv (fun m => m.opc == .retry && decide (m.dst = .agent a)) with
    | none => .next s
    | some (m, s') => .next { s' with resend := s'.resend ++ [({ m with opc := m.orig, src := a }, s'.now + 7)] }

/-- VC3_RESEND (R312). -/
def execVc3Resend (a pa : Nat) (s : State) : Host.Outcome State Fault Refusal :=
  if !agentIdOk a then .fault .noSuchUnit
  else
    match s.resend.find? (fun e => e.1.src == a && (e.1.pa == pa || e.1.pa == lineOf pa) && decide (e.2 ≤ s.now)) with
    | none => .next s
    | some e =>
      let nc := e.1.opc == .ncRead || e.1.opc == .ncWriteP || e.1.opc == .ncWriteO
      .next ({ s with resend := s.resend.erase e }.send
        { e.1 with dst := if nc then .target else .home (s.homeFrom (routerOf a) e.1.pa) })

end Sys2Proof.Machine
end

