-- ==== Sys2Proof/Machine/Debug.lean ====
section
/-! DEFINITION. The accesses of JTAG debug access to a halted core, to memory on its behalf and to the Ash Record (R370–R372,
R560). -/

namespace Sys2Proof.Machine

/-- The sizes of a debug access. -/
def dbgSize (n : Nat) : Bool := n == 1 || n == 2 || n == 4 || n == 8

/-- A memory access on behalf of a halted core, aligned, at a physical address (log entry 73). One at a time: another waits,
and so does one to bytes for which the core has queued a store. It ends with its answer (`State.dbgAnswer`). -/
def State.dbgMem (s : State) (p : Nat) (write : Bool) (pa size : Nat) (v : Word) : State :=
  let c := s.core p
  if !(dbgSize size && pa % size == 0) then s.emit .jtagRefuse
  else if s.dbg.isSome || c.sq.any (·.overlaps pa size) then s
  else if decide (pa < 0x080000000000) && !s.dramOk pa then (s.report (s.decoder pa) .uc).emit .jtagRefuse
  else s.dbgAsk ⟨p, write, pa, size, s.dbgSeq⟩ c.arch.world (c.crFld ⟨c.arch.world, 0x130#12⟩ domid_DOM) v

/-- JTAG debug access reads a doubleword of the Ash Record under gatekeeper 33 (R560), as an open agent in D0 (R26). -/
def State.dbgAsh (s : State) (off : Nat) : State :=
  let o := blkNum .ash * 0x8000000 + 0x1000000 + off % 0x200000 / 8 * 8
  let x := s.cfgRead ⟨.jtag, false, 0, 0⟩ o 8
  x.s.emit (if x.err = 0 then .jtag (x.val.setWidth 512) else .jtagRefuse)

/-- A debug write of a control register: logged as any write of it (R183, R377, R549). -/
def State.dbgWriteCr (s : State) (p : Nat) (crn : BitVec 12) (v : Word) : State :=
  let c := s.core p
  match crInfo crn with
  | none => s.emit .jtagRefuse
  | some i =>
    match crKey c.arch.world i crn, i.wl with
    | some k, some _ =>
      if crLogged crn && !s.ledgTakes (agentNo .jtag) then s
      else
        let w : WriteReq := { who := .jtag, world := c.arch.world, dom := c.crFld ⟨c.arch.world, 0x130#12⟩ domid_DOM, level := 0
                              tgt := .cr p k.world crn, val := v, at_ := s.now }
        let s := if crLogged crn then s.ledgLog w (c.crv k) v false else s
        s.modCore p (·.crWrite k i true v)
    | _, _ => s.emit .jtagRefuse

/-- A debug access to a halted core. -/
def State.dbgDo (s : State) : DebugReq → State
  | .readG p r => s.emit (.jtag (((s.core p).g r).setWidth 512))
  | .writeG p r v => s.modCore p (·.setG r v)
  | .readF p r => s.emit (.jtag (((s.core p).fr r).setWidth 512))
  | .writeF p r v => s.modCore p (·.setF r v)
  | .readCr p crn =>
    match (crInfo crn).bind (fun i => crKey (s.core p).arch.world i crn) with
    | some k => s.emit (.jtag ((s.crRead p k).setWidth 512))
    | none => s.emit .jtagRefuse
  | .writeCr p crn v => s.dbgWriteCr p crn v
  | .readPc p => s.emit (.jtag ((s.core p).arch.pc.setWidth 512))
  | .writePc p v => s.modCore p (fun c => { c with arch := { c.arch with pc := v &&& 0xFFFFFFFFFFFC } })
  | .step p => s.modCore p (fun c => { c with stepping := true })
  | .resume p => s.modCore p (fun c => { c with halted := false, stepping := false })
  | .readMem p pa size => s.dbgMem p false pa size 0
  | .writeMem p pa size v => s.dbgMem p true pa size v
  | .readAsh off => s.dbgAsh off

/-- DEBUG_ACCESS (R370, R371, R560): refused unless the core is halted under an effective invasive enable for its world. -/
def execDebugAccess (req : DebugReq) (s : State) : Host.Outcome State Fault Refusal :=
  if req.free then .next (s.dbgDo req)
  else if !isCore req.core then .fault .noSuchUnit
  else if !(s.core req.core).halted || !s.invasive req.core then .next (s.emit .jtagRefuse)
  else .next (s.dbgDo req)

end Sys2Proof.Machine
end

