-- ==== Sys2Proof/Machine/Flags.lean ====
section
/-! DEFINITION. Floating point: formats, exact values, rounding, and the flags of FPSR (R84–R88). -/

namespace Sys2Proof.Machine

/-- A binary interchange format: exponent and fraction widths. -/
structure Fmt where
  ew : Nat
  fw : Nat
  deriving DecidableEq, Repr

/-- binary16, binary32, binary64 (R84). -/
def fmtOf (prec : Nat) : Fmt := if prec = 0 then ⟨5, 10⟩ else if prec = 1 then ⟨8, 23⟩ else ⟨11, 52⟩

def Fmt.width (f : Fmt) : Nat := 1 + f.ew + f.fw
def Fmt.bias (f : Fmt) : Int := 2 ^ (f.ew - 1) - 1
/-- The exponent of the least significant bit of a subnormal. -/
def Fmt.qmin (f : Fmt) : Int := 1 - f.bias - f.fw

/-- A value: a NaN (signalling or quiet), an infinity, or sign · m · 2^e. -/
inductive FpVal where
  | nan (sig : Bool)
  | inf (neg : Bool)
  | num (neg : Bool) (m : Nat) (e : Int)
  deriving DecidableEq, Repr

/-- The exception flags that one operation sets: NX, UF, OF, DZ, NV (R88). -/
structure FpFlags where
  nx : Bool := false
  uf : Bool := false
  ovf : Bool := false
  dz : Bool := false
  nv : Bool := false
  deriving DecidableEq, Repr

def FpFlags.join (a b : FpFlags) : FpFlags := ⟨a.nx || b.nx, a.uf || b.uf, a.ovf || b.ovf, a.dz || b.dz, a.nv || b.nv⟩
def FpFlags.bits (a : FpFlags) : Nat := b2n a.nx + b2n a.uf * 2 + b2n a.ovf * 4 + b2n a.dz * 8 + b2n a.nv * 16

/-- Reads the bits of a format. -/
def fpDecode (f : Fmt) (b : Nat) : FpVal :=
  let neg := bit b (f.ew + f.fw)
  let e := bits b f.fw f.ew
  let m := bits b 0 f.fw
  if e = 2 ^ f.ew - 1 then (if m = 0 then .inf neg else .nan (!bit b (f.fw - 1)))
  else if e = 0 then .num neg m f.qmin
  else .num neg (m + 2 ^ f.fw) (f.qmin + e - 1)

def fpSign (f : Fmt) (neg : Bool) : Nat := if neg then 2 ^ (f.ew + f.fw) else 0
/-- The canonical quiet NaN (R85). -/
def fpNaN (f : Fmt) : Nat := (2 ^ f.ew - 1) * 2 ^ f.fw + 2 ^ (f.fw - 1)
def fpInf (f : Fmt) (neg : Bool) : Nat := fpSign f neg + (2 ^ f.ew - 1) * 2 ^ f.fw
def fpMax (f : Fmt) (neg : Bool) : Nat := fpInf f neg - 1

/-- Whether a magnitude between two neighbours is rounded up: rounding mode (R88), sign, oddness of the lower neighbour,
the comparison of the rest with a half (`rest`, `half`), and whether something lies below it. -/
def roundsUp (rm : Nat) (neg odd : Bool) (rest half : Nat) (sticky : Bool) : Bool :=
  let inexact := rest != 0 || sticky
  if rm = 0 then decide (half < rest) || (rest == half && half != 0 && (sticky || odd))
  else if rm = 1 then false
  else if rm = 2 then neg && inexact
  else !neg && inexact

/-- Rounds m · 2^e, with something below the last bit when `sticky`, to a multiple of 2^q: the multiple, and inexactness. -/
def roundAt (rm : Nat) (neg : Bool) (m : Nat) (e q : Int) (sticky : Bool) : Nat × Bool :=
  if q ≤ e then (m * 2 ^ (e - q).toNat, sticky)
  else
    let d := (q - e).toNat
    let lo := m / 2 ^ d
    let rest := m % 2 ^ d
    (if roundsUp rm neg (lo % 2 == 1) rest (2 ^ (d - 1)) sticky then lo + 1 else lo, rest != 0 || sticky)

/-- Rounds a non-zero magnitude to a format: its bits and flags (R85). -/
def fpRound (f : Fmt) (rm : Nat) (neg : Bool) (m : Nat) (e : Int) (sticky : Bool) : Nat × FpFlags :=
  let len : Int := Nat.log2 m + 1
  let p : Int := f.fw + 1
  let qn := e + len - p
  let q := if qn < f.qmin then f.qmin else qn
  let r := roundAt rm neg m e q sticky
  let carry := r.1 = 2 ^ (f.fw + 1)
  let m' := if carry then 2 ^ f.fw else r.1
  let q' := if carry then q + 1 else q
  if q' > f.qmin + (2 ^ f.ew - 3) then
    let toInf := rm = 0 ∨ (rm = 2 ∧ neg) ∨ (rm = 3 ∧ ¬ neg)
    (if toInf then fpInf f neg else fpMax f neg, { ovf := true, nx := true })
  else
    let b := if m' < 2 ^ f.fw then m' else ((q' - f.qmin).toNat + 1) * 2 ^ f.fw + (m' - 2 ^ f.fw)
    let tinyBefore := decide (qn < f.qmin)
    let free := roundAt rm neg m e qn sticky
    let tinyAfter := tinyBefore && !(qn == f.qmin - 1 && free.1 == 2 ^ (f.fw + 1))
    (fpSign f neg + b, { nx := r.2, uf := r.2 && tinyBefore && (tinyAfter || freeTininess) })

/-- Encodes an exact value. -/
def fpEncode (f : Fmt) (rm : Nat) (v : FpVal) : Nat × FpFlags :=
  match v with
  | .nan _ => (fpNaN f, {})
  | .inf n => (fpInf f n, {})
  | .num n m e => if m = 0 then (fpSign f n, {}) else fpRound f rm n m e false

def FpVal.isNaN : FpVal → Bool
  | .nan _ => true
  | _ => false
def FpVal.isSig : FpVal → Bool
  | .nan s => s
  | _ => false
def FpVal.neg : FpVal → FpVal
  | .nan s => .nan s
  | .inf n => .inf (!n)
  | .num n m e => .num (!n) m e

/-- The sum of two exact numbers; an exact zero takes the sign that the rounding mode gives. -/
def exactAdd (rm : Nat) (n1 : Bool) (m1 : Nat) (e1 : Int) (n2 : Bool) (m2 : Nat) (e2 : Int) : FpVal :=
  let e := min e1 e2
  let a : Int := m1 * 2 ^ (e1 - e).toNat
  let b : Int := m2 * 2 ^ (e2 - e).toNat
  let s := (if n1 then -a else a) + (if n2 then -b else b)
  if s = 0 then .num (if m1 = 0 ∧ m2 = 0 ∧ n1 = n2 then n1 else rm == 2) 0 0
  else .num (decide (s < 0)) s.natAbs e

def invalid : FpVal × FpFlags := (.nan false, { nv := true })

/-- Addition of values, before rounding (R84). -/
def valAdd (rm : Nat) (a b : FpVal) : FpVal × FpFlags :=
  if a.isNaN || b.isNaN then (.nan false, { nv := a.isSig || b.isSig })
  else
    match a, b with
    | .inf x, .inf y => if x = y then (.inf x, {}) else invalid
    | .inf x, _ => (.inf x, {})
    | _, .inf y => (.inf y, {})
    | .num n1 m1 e1, .num n2 m2 e2 => (exactAdd rm n1 m1 e1 n2 m2 e2, {})
    | _, _ => (.nan false, {})

/-- Multiplication of values, before rounding. -/
def valMul (a b : FpVal) : FpVal × FpFlags :=
  if a.isNaN || b.isNaN then (.nan false, { nv := a.isSig || b.isSig })
  else
    match a, b with
    | .inf x, .inf y => (.inf (x != y), {})
    | .inf x, .num n m _ => if m = 0 then invalid else (.inf (x != n), {})
    | .num n m _, .inf y => if m = 0 then invalid else (.inf (n != y), {})
    | .num n1 m1 e1, .num n2 m2 e2 => (.num (n1 != n2) (m1 * m2) (e1 + e2), {})
    | _, _ => (.nan false, {})

/-- Finishes an operation on exact values. -/
def finishFp (f : Fmt) (rm : Nat) (r : FpVal × FpFlags) : Nat × FpFlags :=
  let e := fpEncode f rm r.1
  (e.1, e.2.join r.2)

def fpAdd (f : Fmt) (rm a b : Nat) : Nat × FpFlags := finishFp f rm (valAdd rm (fpDecode f a) (fpDecode f b))
def fpSub (f : Fmt) (rm a b : Nat) : Nat × FpFlags := finishFp f rm (valAdd rm (fpDecode f a) (fpDecode f b).neg)
def fpMul (f : Fmt) (rm a b : Nat) : Nat × FpFlags := finishFp f rm (valMul (fpDecode f a) (fpDecode f b))

/-- Division (R84): the quotient to more bits than the format holds, with a sticky bit. -/
def fpDiv (f : Fmt) (rm a b : Nat) : Nat × FpFlags :=
  let x := fpDecode f a
  let y := fpDecode f b
  if x.isNaN || y.isNaN then (fpNaN f, { nv := x.isSig || y.isSig })
  else
    match x, y with
    | .inf _, .inf _ => (fpNaN f, { nv := true })
    | .inf n, .num n2 _ _ => (fpInf f (n != n2), {})
    | .num n _ _, .inf n2 => (fpSign f (n != n2), {})
    | .num n1 m1 e1, .num n2 m2 e2 =>
      if m2 = 0 then (if m1 = 0 then (fpNaN f, { nv := true }) else (fpInf f (n1 != n2), { dz := true }))
      else if m1 = 0 then (fpSign f (n1 != n2), {})
      else
        let k := 2 * f.fw + 8
        let num := m1 * 2 ^ k
        fpRound f rm (n1 != n2) (num / m2) (e1 - e2 - k) (num % m2 != 0)
    | _, _ => (fpNaN f, {})

/-- The integer square root, bit by bit. -/
def isqrt (n : Nat) : Nat :=
  (List.range 96).foldl (fun r i => let t := r + 2 ^ (95 - i); if t * t ≤ n then t else r) 0

/-- Square root (R84). -/
def fpSqrt (f : Fmt) (rm a : Nat) : Nat × FpFlags :=
  match fpDecode f a with
  | .nan s => (fpNaN f, { nv := s })
  | .inf n => if n then (fpNaN f, { nv := true }) else (fpInf f false, {})
  | .num n m e =>
    if m = 0 then (fpSign f n, {})
    else if n then (fpNaN f, { nv := true })
    else
      let odd := e % 2 = 1
      let k := f.fw + 4
      let m' := (if odd then 2 * m else m) * 2 ^ (2 * k)
      let e' := if odd then e - 1 else e
      let r := isqrt m'
      fpRound f rm false r (e' / 2 - k) (r * r != m')

/-- a × b + c with one rounding (R86). -/
def fpFma (f : Fmt) (rm : Nat) (negP negC : Bool) (a b c : Nat) : Nat × FpFlags :=
  let x := fpDecode f a
  let y := fpDecode f b
  let z0 := fpDecode f c
  let z := if negC then z0.neg else z0
  let prod := valMul x y
  if x.isSig || y.isSig || z.isSig then (fpNaN f, { nv := true })
  else if x.isNaN || y.isNaN then (fpNaN f, {})
  else if z.isNaN then (fpNaN f, { nv := prod.2.nv && freeFmaInvalid })
  else if prod.2.nv then (fpNaN f, { nv := true })
  else finishFp f rm (valAdd rm (if negP then prod.1.neg else prod.1) z)

/-- The order of two values that are no NaNs: a < b. -/
def valLt (a b : FpVal) : Bool :=
  match a, b with
  | .inf n, .inf k => n && !k
  | .inf n, _ => n
  | _, .inf k => !k
  | .num n1 m1 e1, .num n2 m2 e2 =>
    let e := min e1 e2
    let x : Int := m1 * 2 ^ (e1 - e).toNat
    let y : Int := m2 * 2 ^ (e2 - e).toNat
    decide ((if n1 then -x else x) < (if n2 then -y else y))
  | _, _ => false

/-- Equal values; the two zeros are equal. -/
def valEq (a b : FpVal) : Bool :=
  match a, b with
  | .inf n, .inf k => n == k
  | .num _ _ _, .num _ _ _ => !valLt a b && !valLt b a
  | _, _ => false

/-- minimumNumber and maximumNumber (R84): a NaN gives way to a number, −0 lies below +0. -/
def fpMinMax (f : Fmt) (isMax : Bool) (a b : Nat) : Nat × FpFlags :=
  let x := fpDecode f a
  let y := fpDecode f b
  let fl : FpFlags := { nv := x.isSig || y.isSig }
  if x.isNaN && y.isNaN then (fpNaN f, fl)
  else if x.isNaN then (b, fl)
  else if y.isNaN then (a, fl)
  else
    let aLow := valLt x y || (valEq x y && bit a (f.ew + f.fw))
    (if aLow == isMax then b else a, fl)

/-- Comparisons: the result and the flags; a signalling comparison sets NV on any NaN, a quiet one on a signalling NaN. -/
def fpCmp (f : Fmt) (signal : Bool) (rel : FpVal → FpVal → Bool) (a b : Nat) : Bool × FpFlags :=
  let x := fpDecode f a
  let y := fpDecode f b
  if x.isNaN || y.isNaN then (false, { nv := signal || x.isSig || y.isSig }) else (rel x y, {})

def relEq (a b : FpVal) : Bool := valEq a b
def relLt (a b : FpVal) : Bool := valLt a b
def relLe (a b : FpVal) : Bool := valLt a b || valEq a b

/-- FKIND (R84). -/
def fpKind (f : Fmt) (a : Nat) : Nat :=
  let k := match fpDecode f a with
    | .nan s => if s then 5 else 4
    | .inf _ => 3
    | .num _ m _ => if m = 0 then 0 else if m < 2 ^ f.fw then 1 else 2
  k + b2n (bit a (f.ew + f.fw)) * 16

/-- Converts between formats (FCVTF). -/
def fpConvert (src dst : Fmt) (rm a : Nat) : Nat × FpFlags :=
  let x := fpDecode src a
  finishFp dst rm (x, { nv := x.isSig })

/-- Converts to an integer between `lo` and `hi` (FCVTGS, FCVTGU): saturates, and a NaN gives 0, with NV. -/
def fpToInt (f : Fmt) (rm : Nat) (lo hi : Int) (a : Nat) : Int × FpFlags :=
  match fpDecode f a with
  | .nan _ => (0, { nv := true })
  | .inf n => (if n then lo else hi, { nv := true })
  | .num n m e =>
    let r := roundAt rm n m e 0 false
    let v : Int := if n then -(r.1 : Int) else r.1
    if v < lo then (lo, { nv := true })
    else if hi < v then (hi, { nv := true })
    else (v, { nx := r.2 })

/-- Converts an integer (FCVTFS, FCVTFU). -/
def fpFromInt (f : Fmt) (rm : Nat) (v : Int) : Nat × FpFlags :=
  if v = 0 then (0, {}) else fpRound f rm (decide (v < 0)) v.natAbs 0 false

/-! FPSR (R88). -/

def fpsrKey : CrKey := ⟨false, 0x003#12⟩
/-- The rounding mode in force. -/
def Core.rm (c : Core) : Nat := c.crFld fpsrKey fpsr_RM
/-- Sets the sticky flags of an operation. -/
def Core.raiseFlags (c : Core) (fl : FpFlags) : Core :=
  c.setCr fpsrKey (c.crv fpsrKey ||| BitVec.ofNat 64 fl.bits)

end Sys2Proof.Machine
end

