-- ==== Sys2Proof/Machine/Fp.lean ====
section
/-! DEFINITION. Scalar floating point: majors 0x30 and 0x32 (R84–R86) -/

namespace Sys2Proof.Machine

/-- The bits of a scalar operand: the low 16, 32 or 64 of its register (R52). -/
def scalar (f : Fmt) (v : BitVec 128) : Nat := bits v.toNat 0 f.width

/-- A scalar result with zeros above it (R52), and its flags. -/
def putFp (p : Nat) (fd : RegNo) (r : Nat × FpFlags) : InsnM Unit := do
  modCore p (·.raiseFlags r.2)
  setF p fd (BitVec.ofNat 128 r.1)

/-- A scalar operation of two f registers into an f register (R84). -/
def fpOp2 (p : Nat) (fd fa fb : RegNo) (prec : BitVec 2) (ill : Bool) (op : Fmt → Nat → Nat → Nat → Nat × FpFlags)
    (s : State) : Host.Outcome State Fault Refusal :=
  runInsn p true .idle (fun x => do
    illIf (ill || prec == 3)
    let f := fmtOf prec.toNat
    let c ← getCore x.p
    putFp x.p fd (op f c.rm (scalar f (c.fr fa)) (scalar f (c.fr fb)))
    pure .seq) s

/-- A scalar operation of one f register; fb must be 0. -/
def fpOp1 (p : Nat) (fd fa fb : RegNo) (prec : BitVec 2) (op : Fmt → Nat → Nat → Nat × FpFlags) (s : State) :
    Host.Outcome State Fault Refusal :=
  fpOp2 p fd fa fa prec (fb != 0) (fun f rm a _ => op f rm a) s

/-- A comparison into a g register (R84). -/
def fpCmpOp (p : Nat) (gd fa fb : RegNo) (prec : BitVec 2) (cmp : Fmt → Nat → Nat → Bool × FpFlags) (s : State) :
    Host.Outcome State Fault Refusal :=
  runInsn p true .idle (fun x => do
    illIf (prec == 3)
    let f := fmtOf prec.toNat
    let c ← getCore x.p
    let r := cmp f (scalar f (c.fr fa)) (scalar f (c.fr fb))
    modCore x.p (·.raiseFlags r.2)
    setG x.p gd (if r.1 then 1 else 0)
    pure .seq) s

/-- A conversion to an integer in a g register: fb[0] selects rounding towards zero, fb[4:1] must be 0 (R84). -/
def fpToG (p : Nat) (gd fa fb : RegNo) (prec : BitVec 2) (lo hi : Int) (s : State) : Host.Outcome State Fault Refusal :=
  runInsn p true .idle (fun x => do
    illIf (prec == 3 || decide (fb.toNat ≥ 2))
    let f := fmtOf prec.toNat
    let c ← getCore x.p
    let r := fpToInt f (if fb = 1 then 1 else c.rm) lo hi (scalar f (c.fr fa))
    modCore x.p (·.raiseFlags r.2)
    setG x.p gd (BitVec.ofInt 64 r.1)
    pure .seq) s

/-- A conversion from an integer in a g register, named by the fa field (R84). -/
def fpFromG (p : Nat) (fd ga : RegNo) (prec : BitVec 2) (val : Word → Int) (s : State) :
    Host.Outcome State Fault Refusal :=
  runInsn p true .idle (fun x => do
    illIf (prec == 3)
    let c ← getCore x.p
    putFp x.p fd (fpFromInt (fmtOf prec.toNat) c.rm (val (c.g ga)))
    pure .seq) s

/-- A fused multiply-add (R86). -/
def fmaOp (p : Nat) (fd fa fb fc : RegNo) (prec resv : BitVec 2) (ill negP negC : Bool) (s : State) :
    Host.Outcome State Fault Refusal :=
  runInsn p true .idle (fun x => do
    illIf (ill || prec == 3 || resv != 0)
    let f := fmtOf prec.toNat
    let c ← getCore x.p
    putFp x.p fd (fpFma f c.rm negP negC (scalar f (c.fr fa)) (scalar f (c.fr fb)) (scalar f (c.fr fc)))
    pure .seq) s

/-- FADD (R84). -/
def execFadd (p : Nat) (fd fa fb : RegNo) (prec : BitVec 2) (ill : Bool) (s : State) : Host.Outcome State Fault Refusal :=
  fpOp2 p fd fa fb prec ill fpAdd s

/-- FSUB (R84). -/
def execFsub (p : Nat) (fd fa fb : RegNo) (prec : BitVec 2) (s : State) : Host.Outcome State Fault Refusal :=
  fpOp2 p fd fa fb prec false fpSub s

/-- FMUL (R84). -/
def execFmul (p : Nat) (fd fa fb : RegNo) (prec : BitVec 2) (s : State) : Host.Outcome State Fault Refusal :=
  fpOp2 p fd fa fb prec false fpMul s

/-- FDIV (R84). -/
def execFdiv (p : Nat) (fd fa fb : RegNo) (prec : BitVec 2) (s : State) : Host.Outcome State Fault Refusal :=
  fpOp2 p fd fa fb prec false fpDiv s

/-- FSQRT (R84). -/
def execFsqrt (p : Nat) (fd fa fb : RegNo) (prec : BitVec 2) (s : State) : Host.Outcome State Fault Refusal :=
  fpOp1 p fd fa fb prec fpSqrt s

/-- FMIN (R84). -/
def execFmin (p : Nat) (fd fa fb : RegNo) (prec : BitVec 2) (s : State) : Host.Outcome State Fault Refusal :=
  fpOp2 p fd fa fb prec false (fun f _ a b => fpMinMax f false a b) s

/-- FMAX (R84). -/
def execFmax (p : Nat) (fd fa fb : RegNo) (prec : BitVec 2) (s : State) : Host.Outcome State Fault Refusal :=
  fpOp2 p fd fa fb prec false (fun f _ a b => fpMinMax f true a b) s

/-- FNEG (R84): the sign bit inverted, no flag. -/
def execFneg (p : Nat) (fd fa fb : RegNo) (prec : BitVec 2) (s : State) : Host.Outcome State Fault Refusal :=
  fpOp1 p fd fa fb prec (fun f _ a => (a ^^^ fpSign f true, {})) s

/-- FABS (R84): the sign bit cleared, no flag. -/
def execFabs (p : Nat) (fd fa fb : RegNo) (prec : BitVec 2) (s : State) : Host.Outcome State Fault Refusal :=
  fpOp1 p fd fa fb prec (fun f _ a => (bits a 0 (f.ew + f.fw), {})) s

/-- FCPYS (R84): the sign bit of fb, no flag. -/
def execFcpys (p : Nat) (fd fa fb : RegNo) (prec : BitVec 2) (s : State) : Host.Outcome State Fault Refusal :=
  fpOp2 p fd fa fb prec false (fun f _ a b =>
    (bits a 0 (f.ew + f.fw) + fpSign f (bit b (f.ew + f.fw)), {})) s

/-- FCMPEQ (R84). -/
def execFcmpeq (p : Nat) (fd fa fb : RegNo) (prec : BitVec 2) (s : State) : Host.Outcome State Fault Refusal :=
  fpCmpOp p fd fa fb prec (fun f => fpCmp f false relEq) s

/-- FCMPLT (R84). -/
def execFcmplt (p : Nat) (fd fa fb : RegNo) (prec : BitVec 2) (s : State) : Host.Outcome State Fault Refusal :=
  fpCmpOp p fd fa fb prec (fun f => fpCmp f true relLt) s

/-- FCMPLE (R84). -/
def execFcmple (p : Nat) (fd fa fb : RegNo) (prec : BitVec 2) (s : State) : Host.Outcome State Fault Refusal :=
  fpCmpOp p fd fa fb prec (fun f => fpCmp f true relLe) s

/-- FKIND (R84): fb must be 0; no flag. -/
def execFkind (p : Nat) (fd fa fb : RegNo) (prec : BitVec 2) (s : State) : Host.Outcome State Fault Refusal :=
  runInsn p true .idle (fun x => do
    illIf (prec == 3 || fb != 0)
    let f := fmtOf prec.toNat
    setG x.p fd (BitVec.ofNat 64 (fpKind f (scalar f (← getF x.p fa))))
    pure .seq) s

/-- FCMPUN (R84). -/
def execFcmpun (p : Nat) (fd fa fb : RegNo) (prec : BitVec 2) (s : State) : Host.Outcome State Fault Refusal :=
  fpCmpOp p fd fa fb prec (fun f a b =>
    let x := fpDecode f a
    let y := fpDecode f b
    (x.isNaN || y.isNaN, { nv := x.isSig || y.isSig })) s

/-- FCVTF (R84): the source format is fb[1:0]. -/
def execFcvtf (p : Nat) (fd fa fb : RegNo) (prec : BitVec 2) (s : State) : Host.Outcome State Fault Refusal :=
  runInsn p true .idle (fun x => do
    illIf (prec == 3 || decide (fb.toNat ≥ 3))
    let src := fmtOf fb.toNat
    let c ← getCore x.p
    putFp x.p fd (fpConvert src (fmtOf prec.toNat) c.rm (scalar src (c.fr fa)))
    pure .seq) s

/-- FCVTGS (R84). -/
def execFcvtgs (p : Nat) (fd fa fb : RegNo) (prec : BitVec 2) (s : State) : Host.Outcome State Fault Refusal :=
  fpToG p fd fa fb prec (-(2 ^ 63)) (2 ^ 63 - 1) s

/-- FCVTGU (R84). -/
def execFcvtgu (p : Nat) (fd fa fb : RegNo) (prec : BitVec 2) (s : State) : Host.Outcome State Fault Refusal :=
  fpToG p fd fa fb prec 0 (2 ^ 64 - 1) s

/-- FCVTFS (R84). -/
def execFcvtfs (p : Nat) (fd fa _fb : RegNo) (prec : BitVec 2) (s : State) : Host.Outcome State Fault Refusal :=
  fpFromG p fd fa prec (fun v => v.toInt) s

/-- FCVTFU (R84). -/
def execFcvtfu (p : Nat) (fd fa _fb : RegNo) (prec : BitVec 2) (s : State) : Host.Outcome State Fault Refusal :=
  fpFromG p fd fa prec (fun v => v.toNat) s

/-- FMVGF (R84): prec must be 0b10. -/
def execFmvgf (p : Nat) (fd fa _fb : RegNo) (prec : BitVec 2) (s : State) : Host.Outcome State Fault Refusal :=
  runInsn p true .idle (fun x => do
    illIf (prec != 2)
    setG x.p fd ((← getF x.p fa).setWidth 64)
    pure .seq) s

/-- FMVFG (R84): prec must be 0b10; upper bits zero. -/
def execFmvfg (p : Nat) (fd fa _fb : RegNo) (prec : BitVec 2) (s : State) : Host.Outcome State Fault Refusal :=
  runInsn p true .idle (fun x => do
    illIf (prec != 2)
    setF x.p fd ((← getG x.p fa).setWidth 128)
    pure .seq) s

/-- FMADD (R86). -/
def execFmadd (p : Nat) (fd fa fb fc : RegNo) (prec resv : BitVec 2) (ill : Bool) (s : State) : Host.Outcome State Fault Refusal :=
  fmaOp p fd fa fb fc prec resv ill false false s

/-- FMSUB (R86). -/
def execFmsub (p : Nat) (fd fa fb fc : RegNo) (prec resv : BitVec 2) (s : State) : Host.Outcome State Fault Refusal :=
  fmaOp p fd fa fb fc prec resv false false true s

/-- FNMSUB (R86). -/
def execFnmsub (p : Nat) (fd fa fb fc : RegNo) (prec resv : BitVec 2) (s : State) : Host.Outcome State Fault Refusal :=
  fmaOp p fd fa fb fc prec resv false true false s

/-- FNMADD (R86). -/
def execFnmadd (p : Nat) (fd fa fb fc : RegNo) (prec resv : BitVec 2) (s : State) : Host.Outcome State Fault Refusal :=
  fmaOp p fd fa fb fc prec resv false true true s

end Sys2Proof.Machine
end

