-- ==== Sys2Proof/Machine/Integer.lean ====
section
/-! DEFINITION. Integer operations: majors 0x01–0x0C (R55–R63) -/

namespace Sys2Proof.Machine

/-- An integer instruction: writes a function of the registers and of its own address into rd (R55–R61). -/
def regOp (p : Nat) (rd : RegNo) (ill : Bool) (f : Core → Word → Word) (s : State) :
    Host.Outcome State Fault Refusal :=
  runInsn p true .idle (fun x => do
    illIf ill
    let c ← getCore x.p
    setG x.p rd (f c x.pc)
    pure .seq) s

/-- Two register operands. -/
def aluRR (p : Nat) (rd ra rb : RegNo) (ill : Bool) (f : Word → Word → Word) (s : State) :
    Host.Outcome State Fault Refusal :=
  regOp p rd ill (fun c _ => f (c.g ra) (c.g rb)) s

/-- One register operand; rb must be 0. -/
def aluR (p : Nat) (rd ra rb : RegNo) (f : Word → Word) (s : State) : Host.Outcome State Fault Refusal :=
  regOp p rd (rb != 0) (fun c _ => f (c.g ra)) s

/-- A register and an immediate. -/
def aluRI (p : Nat) (rd ra : RegNo) (ill : Bool) (f : Word → Word) (s : State) : Host.Outcome State Fault Refusal :=
  regOp p rd ill (fun c _ => f (c.g ra)) s

/-- The encoding of a shift by immediate is legal (R59): imm16[11:6] is 0, and bit 5 of a W form is 0. -/
def shiftOk (wForm : Bool) (imm : BitVec 16) : Bool :=
  bits imm.toNat 6 6 == 0 && !(wForm && imm.getLsbD 5)

/-- A shift by the amount in imm16[5:0] (R59). -/
def shiftImm (p : Nat) (rd ra : RegNo) (imm : BitVec 16) (ill wForm : Bool) (f : Word → Nat → Word) (s : State) :
    Host.Outcome State Fault Refusal :=
  regOp p rd (ill || !shiftOk wForm imm) (fun c _ => f (c.g ra) (imm.toNat % 64)) s

/-- ADD (R58). -/
def execAdd (p : Nat) (rd ra rb : RegNo) (ill : Bool) (s : State) : Host.Outcome State Fault Refusal :=
  aluRR p rd ra rb ill (fun a b => a + b) s

/-- SUB (R58). -/
def execSub (p : Nat) (rd ra rb : RegNo) (s : State) : Host.Outcome State Fault Refusal :=
  aluRR p rd ra rb false (fun a b => a - b) s

/-- AND (R58). -/
def execAnd (p : Nat) (rd ra rb : RegNo) (s : State) : Host.Outcome State Fault Refusal :=
  aluRR p rd ra rb false (fun a b => a &&& b) s

/-- OR (R58). -/
def execOr (p : Nat) (rd ra rb : RegNo) (s : State) : Host.Outcome State Fault Refusal :=
  aluRR p rd ra rb false (fun a b => a ||| b) s

/-- XOR (R58). -/
def execXor (p : Nat) (rd ra rb : RegNo) (s : State) : Host.Outcome State Fault Refusal :=
  aluRR p rd ra rb false (fun a b => a ^^^ b) s

/-- ANDN (R58). -/
def execAndn (p : Nat) (rd ra rb : RegNo) (s : State) : Host.Outcome State Fault Refusal :=
  aluRR p rd ra rb false (fun a b => a &&& ~~~b) s

/-- ORN (R58). -/
def execOrn (p : Nat) (rd ra rb : RegNo) (s : State) : Host.Outcome State Fault Refusal :=
  aluRR p rd ra rb false (fun a b => a ||| ~~~b) s

/-- SLL (R58). -/
def execSll (p : Nat) (rd ra rb : RegNo) (s : State) : Host.Outcome State Fault Refusal :=
  aluRR p rd ra rb false (fun a b => a <<< sh6 b) s

/-- SRL (R58). -/
def execSrl (p : Nat) (rd ra rb : RegNo) (s : State) : Host.Outcome State Fault Refusal :=
  aluRR p rd ra rb false (fun a b => a >>> sh6 b) s

/-- SRA (R58). -/
def execSra (p : Nat) (rd ra rb : RegNo) (s : State) : Host.Outcome State Fault Refusal :=
  aluRR p rd ra rb false (fun a b => a.sshiftRight (sh6 b)) s

/-- ROR (R58). -/
def execRor (p : Nat) (rd ra rb : RegNo) (s : State) : Host.Outcome State Fault Refusal :=
  aluRR p rd ra rb false (fun a b => a.rotateRight (sh6 b)) s

/-- SLT (R58). -/
def execSlt (p : Nat) (rd ra rb : RegNo) (s : State) : Host.Outcome State Fault Refusal :=
  aluRR p rd ra rb false (fun a b => ofBool (a.slt b)) s

/-- SLTU (R58). -/
def execSltu (p : Nat) (rd ra rb : RegNo) (s : State) : Host.Outcome State Fault Refusal :=
  aluRR p rd ra rb false (fun a b => ofBool (a.ult b)) s

/-- MIN (R58). -/
def execMin (p : Nat) (rd ra rb : RegNo) (s : State) : Host.Outcome State Fault Refusal :=
  aluRR p rd ra rb false (fun a b => minS a b) s

/-- MAX (R58). -/
def execMax (p : Nat) (rd ra rb : RegNo) (s : State) : Host.Outcome State Fault Refusal :=
  aluRR p rd ra rb false (fun a b => maxS a b) s

/-- ADDW (R58). -/
def execAddw (p : Nat) (rd ra rb : RegNo) (s : State) : Host.Outcome State Fault Refusal :=
  aluRR p rd ra rb false (fun a b => sextW (a + b)) s

/-- SUBW (R58). -/
def execSubw (p : Nat) (rd ra rb : RegNo) (s : State) : Host.Outcome State Fault Refusal :=
  aluRR p rd ra rb false (fun a b => sextW (a - b)) s

/-- SLLW (R58). -/
def execSllw (p : Nat) (rd ra rb : RegNo) (s : State) : Host.Outcome State Fault Refusal :=
  aluRR p rd ra rb false (fun a b => sllW a (sh5 b)) s

/-- SRLW (R58). -/
def execSrlw (p : Nat) (rd ra rb : RegNo) (s : State) : Host.Outcome State Fault Refusal :=
  aluRR p rd ra rb false (fun a b => srlW a (sh5 b)) s

/-- SRAW (R58). -/
def execSraw (p : Nat) (rd ra rb : RegNo) (s : State) : Host.Outcome State Fault Refusal :=
  aluRR p rd ra rb false (fun a b => sraW a (sh5 b)) s

/-- CLZ (R58): rb must be 0. -/
def execClz (p : Nat) (rd ra rb : RegNo) (s : State) : Host.Outcome State Fault Refusal :=
  aluR p rd ra rb (fun a => BitVec.ofNat 64 (clz a)) s

/-- CTZ (R58): rb must be 0. -/
def execCtz (p : Nat) (rd ra rb : RegNo) (s : State) : Host.Outcome State Fault Refusal :=
  aluR p rd ra rb (fun a => BitVec.ofNat 64 (ctz a)) s

/-- POPC (R58): rb must be 0. -/
def execPopc (p : Nat) (rd ra rb : RegNo) (s : State) : Host.Outcome State Fault Refusal :=
  aluR p rd ra rb (fun a => BitVec.ofNat 64 (popc a)) s

/-- BSWAP (R58): rb must be 0. -/
def execBswap (p : Nat) (rd ra rb : RegNo) (s : State) : Host.Outcome State Fault Refusal :=
  aluR p rd ra rb (fun a => bswap a) s

/-- SEXTB (R58): rb must be 0. -/
def execSextb (p : Nat) (rd ra rb : RegNo) (s : State) : Host.Outcome State Fault Refusal :=
  aluR p rd ra rb (fun a => sextB a) s

/-- SEXTH (R58): rb must be 0. -/
def execSexth (p : Nat) (rd ra rb : RegNo) (s : State) : Host.Outcome State Fault Refusal :=
  aluR p rd ra rb (fun a => sextH a) s

/-- SEXTW (R58): rb must be 0. -/
def execSextw (p : Nat) (rd ra rb : RegNo) (s : State) : Host.Outcome State Fault Refusal :=
  aluR p rd ra rb (fun a => sextW a) s

/-- ADDI (R55). -/
def execAddi (p : Nat) (rd ra : RegNo) (imm : BitVec 16) (ill : Bool) (s : State) : Host.Outcome State Fault Refusal :=
  aluRI p rd ra ill (fun a => a + simm imm) s

/-- ANDI (R55). -/
def execAndi (p : Nat) (rd ra : RegNo) (imm : BitVec 16) (s : State) : Host.Outcome State Fault Refusal :=
  aluRI p rd ra false (fun a => a &&& zimm imm) s

/-- ORI (R55). -/
def execOri (p : Nat) (rd ra : RegNo) (imm : BitVec 16) (s : State) : Host.Outcome State Fault Refusal :=
  aluRI p rd ra false (fun a => a ||| zimm imm) s

/-- XORI (R55). -/
def execXori (p : Nat) (rd ra : RegNo) (imm : BitVec 16) (s : State) : Host.Outcome State Fault Refusal :=
  aluRI p rd ra false (fun a => a ^^^ zimm imm) s

/-- SLTI (R55). -/
def execSlti (p : Nat) (rd ra : RegNo) (imm : BitVec 16) (s : State) : Host.Outcome State Fault Refusal :=
  aluRI p rd ra false (fun a => ofBool (a.slt (simm imm))) s

/-- SLTIU (R55). -/
def execSltiu (p : Nat) (rd ra : RegNo) (imm : BitVec 16) (s : State) : Host.Outcome State Fault Refusal :=
  aluRI p rd ra false (fun a => ofBool (a.ult (simm imm))) s

/-- LUI (R55): ra must be 0. -/
def execLui (p : Nat) (rd ra : RegNo) (imm : BitVec 16) (s : State) : Host.Outcome State Fault Refusal :=
  regOp p rd (ra != 0) (fun _ _ => upper imm) s

/-- ADDPCI (R55): the address of the instruction plus the upper immediate; ra must be 0. -/
def execAddpci (p : Nat) (rd ra : RegNo) (imm : BitVec 16) (s : State) : Host.Outcome State Fault Refusal :=
  regOp p rd (ra != 0) (fun _ pc => pc + upper imm) s

/-- SLLI (R59). -/
def execSlli (p : Nat) (rd ra : RegNo) (imm : BitVec 16) (ill : Bool) (s : State) : Host.Outcome State Fault Refusal :=
  shiftImm p rd ra imm ill false (fun a n => a <<< n) s

/-- SRLI (R59). -/
def execSrli (p : Nat) (rd ra : RegNo) (imm : BitVec 16) (s : State) : Host.Outcome State Fault Refusal :=
  shiftImm p rd ra imm false false (fun a n => a >>> n) s

/-- SRAI (R59). -/
def execSrai (p : Nat) (rd ra : RegNo) (imm : BitVec 16) (s : State) : Host.Outcome State Fault Refusal :=
  shiftImm p rd ra imm false false (fun a n => a.sshiftRight n) s

/-- RORI (R59). -/
def execRori (p : Nat) (rd ra : RegNo) (imm : BitVec 16) (s : State) : Host.Outcome State Fault Refusal :=
  shiftImm p rd ra imm false false (fun a n => a.rotateRight n) s

/-- SLLIW (R59). -/
def execSlliw (p : Nat) (rd ra : RegNo) (imm : BitVec 16) (s : State) : Host.Outcome State Fault Refusal :=
  shiftImm p rd ra imm false true (fun a n => sllW a n) s

/-- SRLIW (R59). -/
def execSrliw (p : Nat) (rd ra : RegNo) (imm : BitVec 16) (s : State) : Host.Outcome State Fault Refusal :=
  shiftImm p rd ra imm false true (fun a n => srlW a n) s

/-- SRAIW (R59). -/
def execSraiw (p : Nat) (rd ra : RegNo) (imm : BitVec 16) (s : State) : Host.Outcome State Fault Refusal :=
  shiftImm p rd ra imm false true (fun a n => sraW a n) s

/-- MLO (R60). -/
def execMlo (p : Nat) (rd ra rb : RegNo) (ill : Bool) (s : State) : Host.Outcome State Fault Refusal :=
  aluRR p rd ra rb ill (fun a b => a * b) s

/-- MLOW (R60). -/
def execMlow (p : Nat) (rd ra rb : RegNo) (s : State) : Host.Outcome State Fault Refusal :=
  aluRR p rd ra rb false (fun a b => (w32 a * w32 b).signExtend 64) s

/-- MHUU (R60). -/
def execMhuu (p : Nat) (rd ra rb : RegNo) (s : State) : Host.Outcome State Fault Refusal :=
  aluRR p rd ra rb false (fun a b => mulHigh a.toNat b.toNat) s

/-- MHSS (R60). -/
def execMhss (p : Nat) (rd ra rb : RegNo) (s : State) : Host.Outcome State Fault Refusal :=
  aluRR p rd ra rb false (fun a b => mulHigh a.toInt b.toInt) s

/-- MHSU (R60). -/
def execMhsu (p : Nat) (rd ra rb : RegNo) (s : State) : Host.Outcome State Fault Refusal :=
  aluRR p rd ra rb false (fun a b => mulHigh a.toInt b.toNat) s

/-- DIV (R61, R62). -/
def execDiv (p : Nat) (rd ra rb : RegNo) (ill : Bool) (s : State) : Host.Outcome State Fault Refusal :=
  aluRR p rd ra rb ill (fun a b => quotS a b) s

/-- DIVU (R61, R62). -/
def execDivu (p : Nat) (rd ra rb : RegNo) (s : State) : Host.Outcome State Fault Refusal :=
  aluRR p rd ra rb false (fun a b => quotU a b) s

/-- REM (R61, R62). -/
def execRem (p : Nat) (rd ra rb : RegNo) (s : State) : Host.Outcome State Fault Refusal :=
  aluRR p rd ra rb false (fun a b => remS a b) s

/-- REMU (R61, R62). -/
def execRemu (p : Nat) (rd ra rb : RegNo) (s : State) : Host.Outcome State Fault Refusal :=
  aluRR p rd ra rb false (fun a b => remU a b) s

/-- DIVW (R61, R62). -/
def execDivw (p : Nat) (rd ra rb : RegNo) (s : State) : Host.Outcome State Fault Refusal :=
  aluRR p rd ra rb false (fun a b => (quotS (w32 a) (w32 b)).signExtend 64) s

/-- DIVUW (R61, R62). -/
def execDivuw (p : Nat) (rd ra rb : RegNo) (s : State) : Host.Outcome State Fault Refusal :=
  aluRR p rd ra rb false (fun a b => (quotU (w32 a) (w32 b)).signExtend 64) s

/-- REMW (R61, R62). -/
def execRemw (p : Nat) (rd ra rb : RegNo) (s : State) : Host.Outcome State Fault Refusal :=
  aluRR p rd ra rb false (fun a b => (remS (w32 a) (w32 b)).signExtend 64) s

/-- REMUW (R61, R62). -/
def execRemuw (p : Nat) (rd ra rb : RegNo) (s : State) : Host.Outcome State Fault Refusal :=
  aluRR p rd ra rb false (fun a b => (remU (w32 a) (w32 b)).signExtend 64) s

end Sys2Proof.Machine
end

