-- ==== Sys2Proof/Machine/LedgRows.lean ====
section
/-! DEFINITION. The Change Ledger at work: entries of writes that waited, the mirror (R549, R552). -/

namespace Sys2Proof.Machine

/-- A Device-Ordered write that waited for the Ledger is answered; the host hears whether it was performed (R466). -/
def State.ackWrite (s : State) (w : WriteReq) : State :=
  match w.ack with
  | none => s
  | some (a, tag) =>
    s.send { opc := if w.drop && a == 0x820 then .ncErr else .ncAck, pa := w.tgt.target, src := s.ncFrom w.tgt.target, dst := .agent a, req := a, size := 8, aux := tag }

/-- The oldest write that waits is entered and takes effect or is refused. -/
def State.ledgPop (s : State) : State :=
  match s.ledgQ with
  | [] => s
  | w :: q => ({ s with ledgQ := q, ledgSince := s.now }.enterWrite w).ackWrite w

/-- LEDGER_ENTRY (R549): the oldest write that has reached the Ledger. -/
def execLedgerEntry (s : State) : Host.Outcome State Fault Refusal :=
  if s.ledgRoom && s.ledgQ.head?.all (fun w => decide (w.at_ ≤ s.now)) then .next s.ledgPop else .next s

/-- LEDGER_MIRROR_COPY (R552): the WriteUnique of the next entry leaves. -/
def execLedgerMirrorCopy (s : State) : Host.Outcome State Fault Refusal :=
  let n := (s.rd rLedgMseq).toNat
  if s.fget rLedgCtl ledgCtl_MEN = 0 ∨ s.mirOut ∨ s.mirRef ∨ (s.rd rLedgHead).toNat ≤ n then .next s
  else
    let pa := s.fget rLedgCtl ledgCtl_MBASE * 2 ^ 26 + 64 * (n % 2 ^ 20)
    .next ({ s with mirOut := true }.send
      { opc := .writeUnique, pa := pa, src := 0x810, dst := .home (s.homeFrom (routerOf 0x810) pa), req := 0x810, world := true
        data := tget 0 s.ledg (n % 8192), bmask := BitVec.allOnes 64, vc3 := s.quiet true 0 })

/-- MIRROR_ABANDON (R552): the home refused a copy, or a logged write has waited 1 ms for its slot. -/
def execMirrorAbandon (s : State) : Host.Outcome State Fault Refusal :=
  let late := !s.ledgQ.isEmpty && !s.ledgRoom && decide (s.ledgSince + 200000 ≤ s.now)
  if s.mirRef || late then .next s.abandonMirror else .next s

end Sys2Proof.Machine
end

