-- ==== Sys2Proof/Machine/LoadStore.lean ====
section
/-! DEFINITION. Loads and stores: majors 0x10–0x1D (R64–R66), the store queue and forwarding (R125, R131) -/

namespace Sys2Proof.Machine

/-- What a load of `size` bytes writes into its g register. -/
def extend (size : Nat) (signed : Bool) (v : Line) : Word :=
  if signed then BitVec.ofInt 64 (if v.getLsbD (8 * size - 1) then (v.toNat : Int) - 2 ^ (8 * size) else v.toNat)
  else v.setWidth 64

/-- The result of a load reaches its register (R52, R64). -/
def loadTo (p : Nat) (fp : Bool) (rd : RegNo) (size : Nat) (signed : Bool) (v : Line) : InsnM Unit :=
  if fp then setF p rd (v.setWidth 128) else setG p rd (extend size signed v)

/-- A scalar load at a virtual address, from base register `ra` (R64–R66). One that partly overlaps the deciding store waits for
MERGED_LOAD_COMPLETE (R131). -/
def scalarLoad (x : Ctx) (fp : Bool) (rd ra : RegNo) (va size : Nat) (signed : Bool) (e : Upset) : InsnM Flow := do
  stallIf (← getCore x.p).mload.isSome
  let ps ← pieces x needLoad 2 va size (fp && size == 16)
  match (← getCore x.p).forward ps with
  | .value v =>
    loadTo x.p fp rd size signed v
    pure .seq
  | .miss =>
    let (v, _) ← readPieces x 2 e (some ra) 0 ps
    loadTo x.p fp rd size signed v
    pure .seq
  | .wait =>
    match ps with
    | [q] =>
      if q.mt = 0 ∧ place q.pa = .dram then
        modCore x.p (fun c => { c with mload := some { fp := fp, rd := rd, va := va, pa := q.pa, size := size, signed := signed } })
      stall
    | _ => stall

/-- An integer load: address ra + sext(imm16). -/
def intLoad (p : Nat) (rd ra : RegNo) (imm : BitVec 16) (size : Nat) (signed : Bool) (e : Upset) (ill : Bool) (s : State) :
    Host.Outcome State Fault Refusal :=
  runInsn p true .access (fun x => do
    illIf ill
    let a ← getG x.p ra
    scalarLoad x false rd ra (a + simm imm).toNat size signed e) s

/-- An integer store: the low bytes of the register in the rd field. -/
def intStore (p : Nat) (rd ra : RegNo) (imm : BitVec 16) (size : Nat) (ill : Bool) (s : State) :
    Host.Outcome State Fault Refusal :=
  runInsn p true .access (fun x => do
    illIf ill
    let a ← getG x.p ra
    let v ← getG x.p rd
    store x 3 (a + simm imm).toNat size (v.setWidth 512) false false
    pure .seq) s

/-- LDB (R64). -/
def execLdb (p : Nat) (rd ra : RegNo) (imm : BitVec 16) (e : Upset) (s : State) : Host.Outcome State Fault Refusal :=
  intLoad p rd ra imm 1 true e false s

/-- LDBU (R64). -/
def execLdbu (p : Nat) (rd ra : RegNo) (imm : BitVec 16) (e : Upset) (s : State) : Host.Outcome State Fault Refusal :=
  intLoad p rd ra imm 1 false e false s

/-- LDH (R64). -/
def execLdh (p : Nat) (rd ra : RegNo) (imm : BitVec 16) (e : Upset) (s : State) : Host.Outcome State Fault Refusal :=
  intLoad p rd ra imm 2 true e false s

/-- LDHU (R64). -/
def execLdhu (p : Nat) (rd ra : RegNo) (imm : BitVec 16) (e : Upset) (s : State) : Host.Outcome State Fault Refusal :=
  intLoad p rd ra imm 2 false e false s

/-- LDW (R64). -/
def execLdw (p : Nat) (rd ra : RegNo) (imm : BitVec 16) (e : Upset) (s : State) : Host.Outcome State Fault Refusal :=
  intLoad p rd ra imm 4 true e false s

/-- LDWU (R64). -/
def execLdwu (p : Nat) (rd ra : RegNo) (imm : BitVec 16) (e : Upset) (s : State) : Host.Outcome State Fault Refusal :=
  intLoad p rd ra imm 4 false e false s

/-- LDD (R64). -/
def execLdd (p : Nat) (rd ra : RegNo) (imm : BitVec 16) (e : Upset) (ill : Bool) (s : State) : Host.Outcome State Fault Refusal :=
  intLoad p rd ra imm 8 false e ill s

/-- STB (R64). -/
def execStb (p : Nat) (rd ra : RegNo) (imm : BitVec 16) (s : State) : Host.Outcome State Fault Refusal :=
  intStore p rd ra imm 1 false s

/-- STH (R64). -/
def execSth (p : Nat) (rd ra : RegNo) (imm : BitVec 16) (s : State) : Host.Outcome State Fault Refusal :=
  intStore p rd ra imm 2 false s

/-- STW (R64). -/
def execStw (p : Nat) (rd ra : RegNo) (imm : BitVec 16) (s : State) : Host.Outcome State Fault Refusal :=
  intStore p rd ra imm 4 false s

/-- STD (R64). -/
def execStd (p : Nat) (rd ra : RegNo) (imm : BitVec 16) (ill : Bool) (s : State) : Host.Outcome State Fault Refusal :=
  intStore p rd ra imm 8 ill s

/-- FLD (R66): ra + sext(imm14) × size; 16-byte accesses are aligned on every memory type. -/
def execFld (p : Nat) (fd ra : RegNo) (size : BitVec 2) (imm : BitVec 14) (e : Upset) (ill : Bool) (s : State) : Host.Outcome State Fault Refusal :=
  runInsn p true .access (fun x => do
    illIf ill
    let a ← getG x.p ra
    scalarLoad x true fd ra (a + fpOff imm (fpSize size)).toNat (fpSize size) false e) s

/-- FST (R66). -/
def execFst (p : Nat) (fd ra : RegNo) (size : BitVec 2) (imm : BitVec 14) (s : State) : Host.Outcome State Fault Refusal :=
  runInsn p true .access (fun x => do
    let a ← getG x.p ra
    let v ← getF x.p fd
    store x 3 (a + fpOff imm (fpSize size)).toNat (fpSize size) (v.setWidth 512) (fpSize size == 16) false
    pure .seq) s

/-- STORE_WRITE_L1D (R125, R246): entry `idx` of the store queue, counted from the oldest, is written, or asks for its
line. -/
def execStoreWriteL1d (p idx : Nat) (e : Upset) (s : State) : Host.Outcome State Fault Refusal :=
  if !isCore p then .fault .noSuchUnit
  else settle (drain p idx e) s

/-- MERGED_LOAD_COMPLETE (R131): once no store that the load overlaps is queued, the load reads L1D and retires. -/
def execMergedLoadComplete (p : Nat) (s : State) : Host.Outcome State Fault Refusal :=
  runInsn p true .access (fun x => do
    let c ← getCore x.p
    match c.mload with
    | none => stall
    | some m =>
      stallIf (c.deciding m.pa m.size).isSome
      let _line ← wbLine x false x.world x.dom m.va m.pa 2
      let v ← lineRead x .none m.va m.pa m.size 2
      modCore x.p (fun c => { c with mload := none })
      loadTo x.p m.fp m.rd m.size m.signed v
      pure .seq) s

end Sys2Proof.Machine
end

