-- ==== Sys2Proof/Machine/Memx.lean ====
section
/-! DEFINITION. Ordered, exclusive and atomic accesses: major 0x2C (R75–R78, R252, R253) -/

namespace Sys2Proof.Machine

/-- LDX, STX and the AMOs are legal on Normal-WB memory only, and raise MTYPE elsewhere (R76), in a remote Peat window too
(R229). -/
def wbOnly (x : Ctx) (q : Piece) : InsnM Unit := do
  let remote := match place q.pa with
    | .peat o _ => o != x.p
    | _ => false
  if q.mt = 0 && !remote then pure () else raise 0x04 q.va 0 4

/-- An STL of the core is on its way to its target. -/
def State.releaseOut (s : State) (p : Nat) : Bool :=
  s.net.any (fun m => m.opc == .ncWriteP && m.src == agentOf p && m.ord)

/-- Every STL is performed: an LDA follows it (R252). Nothing read before the acquire is used after it. -/
def acquire (p : Nat) : InsnM Unit := do
  let s ← get
  stallIf ((s.core p).sq.any (·.ord) || s.releaseOut p)
  modCore p (fun c => { c with early := [] })

/-- Obtains the datum of an exclusive or atomic access: a line of DRAM with write permission, or a line of the core's own Peat
window. Elsewhere the access aborts (R38, R473). -/
def exclusive (x : Ctx) (n : Need) (q : Piece) : InsnM Unit := do
  match place q.pa with
  | .peat _ _ => peatCheck x n q.va q.pa q.size 4
  | .dram =>
    if !(← get).dramOk q.pa then failAt x x.world x.dom q.pa n.w q.va 4 .unpop
    else
      let _line ← wbLine x true x.world x.dom q.va q.pa 4
  | .rom _ =>
    romCheck x.world q.pa q.va 4
    failAt x x.world x.dom q.pa n.w q.va 4 (.refused 1)
  | _ => failAt x x.world x.dom q.pa n.w q.va 4 .unpop

/-- The datum that an exclusive or atomic access reads. -/
def exRead (x : Ctx) (e : Upset) (q : Piece) : InsnM Line := do
  modCore x.p (fun c => { c with early := tdel c.early (lineOf q.pa) })
  lineRead x e q.va q.pa q.size 4

/-- Writes the datum of an exclusive or atomic access. -/
def exWrite (x : Ctx) (q : Piece) (v : Line) : InsnM Unit := modCore x.p (·.storeLine q.pa (lineOff q.pa) q.size v)

/-- The access of an STX or AMO leaves the core: from here on it completes before an interrupt (R114). -/
def begins (x : Ctx) : InsnM Unit := modCore x.p (fun c => { c with must := true })

/-- The one piece of an aligned access. -/
def onePiece (x : Ctx) (n : Need) (va size : Nat) : InsnM Piece := do
  match ← pieces x n 4 va size true with
  | q :: _ => pure q
  | [] => stall

/-- An AMO (R75, R76): one read-modify-write; rd receives the old value, zero-extended. -/
def amo (p : Nat) (rd ra rb : RegNo) (size : BitVec 2) (oacq orel : Bool) (resv : BitVec 2) (e : Upset) (ill : Bool)
    (f : Nat → Word → Word → Word → Word) (s : State) : Host.Outcome State Fault Refusal :=
  runInsn p true .access (fun x => do
    illIf (ill || resv != 0 || rd == ra || rd == rb)
    let z := memxSize size
    let va := (← getG x.p ra).toNat
    let b ← getG x.p rb
    let d ← getG x.p rd
    let q ← onePiece x needAmo va z
    wbOnly x q
    twinHold x.p
    if orel then drained x.p
    if oacq then acquire x.p
    lineOrdered x q.pa
    begins x
    exclusive x needAmo q
    let old ← exRead x e q
    let o := old.setWidth 64
    exWrite x q ((f z o b d).setWidth 512)
    setG x.p rd o
    pure .seq) s

/-- A value of `z` bytes as a signed number, sign-extended to 64 bits. -/
def sizedS (z : Nat) (v : Word) : Word := (v <<< (64 - 8 * z)).sshiftRight (64 - 8 * z)

/-- The low `z` bytes of a value. -/
def sizedU (z : Nat) (v : Word) : Word := (v <<< (64 - 8 * z)) >>> (64 - 8 * z)

/-- LDA (R75, R252): a load with acquire order, legal on every memory type. -/
def execLda (p : Nat) (rd ra _rb : RegNo) (size : BitVec 2) (oacq orel : Bool) (resv : BitVec 2) (e : Upset) (ill : Bool) (s : State) : Host.Outcome State Fault Refusal :=
  runInsn p true .access (fun x => do
    illIf (ill || resv != 0 || oacq || orel)
    let va := (← getG x.p ra).toNat
    acquire x.p
    let v ← load x 4 va (memxSize size) true e
    setG x.p rd (v.setWidth 64)
    pure .seq) s

/-- STL (R75, R252): a store with release order, legal on every memory type; rd must be 0. -/
def execStl (p : Nat) (rd ra rb : RegNo) (size : BitVec 2) (oacq orel : Bool) (resv : BitVec 2) (s : State) : Host.Outcome State Fault Refusal :=
  runInsn p true .access (fun x => do
    illIf (resv != 0 || oacq || orel || rd != 0)
    let va := (← getG x.p ra).toNat
    let v ← getG x.p rb
    store x 4 va (memxSize size) (v.setWidth 512) true true
    pure .seq) s

/-- The monitor is armed for a line, and the snoops of the line are deferred (R77, R78). While the deferral holds a snoop
already, its time does not start again. -/
def Core.armed (c : Core) (ln size : Nat) : Core :=
  { c with monitor := some (ln, size)
           defers := if c.deferred.any (fun m => lineOf m.pa == ln) then c.defers else tput c.defers ln 64 }

/-- The deferrals whose time has run out end (R78). -/
def State.endExpired (s : State) (p : Nat) : State :=
  (((s.core p).defers.filter (fun e => e.2 == 0)).map (·.1)).foldl (fun a ln => a.endDefer p ln) s

/-- LDX (R77): loads, obtains write permission and arms the monitor; the deferral of R78 starts. -/
def execLdx (p : Nat) (rd ra _rb : RegNo) (size : BitVec 2) (oacq orel : Bool) (resv : BitVec 2) (e : Upset) (s : State) : Host.Outcome State Fault Refusal :=
  runInsn p true .access (fun x => do
    illIf (resv != 0 || orel)
    let va := (← getG x.p ra).toNat
    let q ← onePiece x needLoad va (memxSize size)
    wbOnly x q
    twinHold x.p
    if oacq then acquire x.p
    lineDrained x q.pa
    exclusive x needLoad q
    let v ← exRead x e q
    modCore x.p (·.armed (lineOf q.pa) q.size)
    setG x.p rd (v.setWidth 64)
    pure .seq) s

/-- STX (R77): stores when the monitor holds for the line and size; writes 0 or 1 to rd; disarms the monitor. -/
def execStx (p : Nat) (rd ra rb : RegNo) (size : BitVec 2) (oacq orel : Bool) (resv : BitVec 2) (e : Upset) (s : State) : Host.Outcome State Fault Refusal :=
  runInsn p true .access (fun x => do
    illIf (resv != 0 || oacq || rd == ra || rd == rb)
    let va := (← getG x.p ra).toNat
    let b ← getG x.p rb
    let q ← onePiece x needStore va (memxSize size)
    wbOnly x q
    twinHold x.p
    if orel then drained x.p
    lineOrdered x q.pa
    modify (·.endExpired x.p)
    let ok := (← getCore x.p).monitor == some (lineOf q.pa, q.size)
    if ok then
      begins x
      exclusive x needStore q
      let _old ← exRead x e q
      exWrite x q (b.setWidth 512)
    else pure ()
    disarm x.p
    setG x.p rd (if ok then 0 else 1)
    pure .seq) s

/-- ATSWP (R75). -/
def execAtswp (p : Nat) (rd ra rb : RegNo) (size : BitVec 2) (oacq orel : Bool) (resv : BitVec 2) (e : Upset) (s : State) : Host.Outcome State Fault Refusal :=
  amo p rd ra rb size oacq orel resv e false (fun _ _ b _ => b) s

/-- ATADD (R75). -/
def execAtadd (p : Nat) (rd ra rb : RegNo) (size : BitVec 2) (oacq orel : Bool) (resv : BitVec 2) (e : Upset) (ill : Bool) (s : State) : Host.Outcome State Fault Refusal :=
  amo p rd ra rb size oacq orel resv e ill (fun _ o b _ => o + b) s

/-- ATCLR (R75). -/
def execAtclr (p : Nat) (rd ra rb : RegNo) (size : BitVec 2) (oacq orel : Bool) (resv : BitVec 2) (e : Upset) (s : State) : Host.Outcome State Fault Refusal :=
  amo p rd ra rb size oacq orel resv e false (fun _ o b _ => o &&& ~~~b) s

/-- ATSET (R75). -/
def execAtset (p : Nat) (rd ra rb : RegNo) (size : BitVec 2) (oacq orel : Bool) (resv : BitVec 2) (e : Upset) (s : State) : Host.Outcome State Fault Refusal :=
  amo p rd ra rb size oacq orel resv e false (fun _ o b _ => o ||| b) s

/-- ATFLP (R75). -/
def execAtflp (p : Nat) (rd ra rb : RegNo) (size : BitVec 2) (oacq orel : Bool) (resv : BitVec 2) (e : Upset) (s : State) : Host.Outcome State Fault Refusal :=
  amo p rd ra rb size oacq orel resv e false (fun _ o b _ => o ^^^ b) s

/-- ATSMAX (R75). -/
def execAtsmax (p : Nat) (rd ra rb : RegNo) (size : BitVec 2) (oacq orel : Bool) (resv : BitVec 2) (e : Upset) (s : State) : Host.Outcome State Fault Refusal :=
  amo p rd ra rb size oacq orel resv e false (fun z o b _ => maxS (sizedS z o) (sizedS z b)) s

/-- ATSMIN (R75). -/
def execAtsmin (p : Nat) (rd ra rb : RegNo) (size : BitVec 2) (oacq orel : Bool) (resv : BitVec 2) (e : Upset) (s : State) : Host.Outcome State Fault Refusal :=
  amo p rd ra rb size oacq orel resv e false (fun z o b _ => minS (sizedS z o) (sizedS z b)) s

/-- ATUMAX (R75). -/
def execAtumax (p : Nat) (rd ra rb : RegNo) (size : BitVec 2) (oacq orel : Bool) (resv : BitVec 2) (e : Upset) (s : State) : Host.Outcome State Fault Refusal :=
  amo p rd ra rb size oacq orel resv e false (fun z o b _ => if (sizedU z o).ult (sizedU z b) then b else o) s

/-- ATUMIN (R75). -/
def execAtumin (p : Nat) (rd ra rb : RegNo) (size : BitVec 2) (oacq orel : Bool) (resv : BitVec 2) (e : Upset) (s : State) : Host.Outcome State Fault Refusal :=
  amo p rd ra rb size oacq orel resv e false (fun z o b _ => if (sizedU z b).ult (sizedU z o) then b else o) s

/-- ATCAS (R75). -/
def execAtcas (p : Nat) (rd ra rb : RegNo) (size : BitVec 2) (oacq orel : Bool) (resv : BitVec 2) (e : Upset) (s : State) : Host.Outcome State Fault Refusal :=
  amo p rd ra rb size oacq orel resv e false (fun z o b d => if sizedU z o = sizedU z d then b else o) s

/-- SNOOP_DEFER_EXPIRY (R78): the deferrals that have lasted 64 core cycles end, and the snoops that they held are served in
order. -/
def execSnoopDeferExpiry (p : Nat) (s : State) : Host.Outcome State Fault Refusal :=
  if !isCore p then .fault .noSuchUnit
  else .next (s.endExpired p)

end Sys2Proof.Machine
end

