-- ==== Sys2Proof/Machine/Nc.lean ====
section
/-! DEFINITION. Uncached requests at their targets and the answers to them (R229, R246, R255, R305, R337), the interface
pages (R175–R179). -/

namespace Sys2Proof.Machine

/-- The requester that an agent ID names (R25). -/
def agentOfNo (id : Nat) : Agent :=
  match coreOfAgent id with
  | some p => .core p
  | none =>
    if id = 0x810 then .sbc
    else if id = 0x820 then .host
    else if 0x830 ≤ id ∧ id < 0x840 then .rp (id - 0x830)
    else if id = 0x840 then .fx false
    else if id = 0x841 then .fx true
    else .jtag

/-- The agent of a message as it asked. -/
def Msg.acc (m : Msg) : Acc := ⟨agentOfNo m.src, m.world, m.dom, m.level⟩

/-- A request fails. A posted write has no answer: the checks before it was sent passed, and what has changed since reaches
its core as a late XABT (log entry 14). -/
def State.ncNo (s : State) (m : Msg) (status : Nat) : State :=
  if m.opc = .ncWriteP then
    match coreOfAgent m.src with
    | some p => s.modCore p (fun c => { c with lateAbort := some (m.aux2, if status = 2 then 0 else 1) })
    | none => s.ncFail m status
  else s.ncFail m status

/-- The value of a request as a word. -/
def Msg.word (m : Msg) : Word := m.data.setWidth 64

/-- A request that its gatekeeper refuses (R336). -/
def State.ncRefused (s : State) (inst reason : Nat) (m : Msg) : State :=
  (s.gateFault inst m.spec (m.opc != .ncRead) m.world m.dom m.src reason m.pa).ncNo m 1

/-- The entries that a channel keeps for VC3 requests of a kind, 16 for reads and 16 for writes, are taken (R313). -/
def State.vc3Full (s : State) (k : Nat) (write : Bool) : Bool :=
  decide (16 ≤ ((tget {} s.chans k).queue.filter (fun r => r.vc3 && r.write == write)).length)

/-- DRAM: the verdict of the channel's gatekeeper, then the channel's queue (R337), or Retry to a VC3 request that finds no
entry (R313). -/
def State.ncDram (s : State) (m : Msg) : State :=
  let write := m.opc != .ncRead
  if !s.dramOk m.pa then (s.reportUnless m.spec (s.decoder m.pa) .uc).ncNo m 2
  else
    match s.verdict (s.dramGate m.pa) m.world m.dom (!write) write m.pa m.size with
    | some r => s.ncRefused (s.dramGate m.pa) r m
    | none =>
      if m.vc3 && s.vc3Full (s.serving m.pa) write then
        s.send { m with opc := .retry, orig := m.opc, src := s.ncFrom m.pa, dst := .agent m.src }
      else
      let o := lineOff m.pa
      s.chanPush { pa := m.pa, write := write, dom := some m.dom, reserved := false, vc3 := m.vc3
                   data := m.data <<< (8 * o), bmask := BitVec.ofNat 64 ((2 ^ m.size - 1) * 2 ^ o)
                   poison := if write && m.poison != 0 then poison4 (unitsOf o m.size) else 0
                   who := if m.opc = .ncWriteP then .nobody else .nc m }

/-- A Peat line that a write has reached, poisoned where the write's data is (R263). -/
def PeatLine.take (l : PeatLine) (m : Msg) : PeatLine :=
  let o := lineOff m.pa
  let x := l.write o m.size m.data
  if m.poison = 0 then x else { x with poison := x.poison ||| unitsOf o m.size }

/-- The owner's L1D copy of a Peat line gives way to a remote access (R229): a dirty one supplies a read, and is written back
and invalidated before a write. -/
def State.peatYield (s : State) (q : Nat) (write : Bool) (pa : Nat) : State :=
  let dirty := match (s.core q).l1dEnt pa with
    | some e => e.dirty
    | none => false
  let s := s.readFlaws q (if dirty then 1 else 2) pa
  if write then s.modCore q (fun c =>
    let c := c.l1dClean pa
    { c with l1d := c.l1d.filter (fun e => e.2.line != lineOf pa) })
  else s

/-- The Peat store of core `q` (R229). -/
def State.ncPeat (s : State) (q : Nat) (m : Msg) : State :=
  let write := m.opc != .ncRead
  match s.peatErr q m.world m.dom (!write) write m.pa m.size with
  | some .unpop => (s.report (s.decoder m.pa) .uc).ncNo m 2
  | some (.refused r) => s.ncRefused (peatGate q) r m
  | some _ => s.ncNo m 1
  | none =>
    let s := s.peatYield q write m.pa
    let c := s.core q
    if write then (s.setCore q (c.setPeatLine m.pa ((c.peatLine m.pa).take m))).ncDone m
    else
      let d := match c.l1dEnt m.pa with
        | some e => if e.dirty then c.held m.pa else ((c.peatLine m.pa).data, (c.peatLine m.pa).poison)
        | none => ((c.peatLine m.pa).data, (c.peatLine m.pa).poison)
      s.ncGive m (lineGet d.1 (lineOff m.pa) m.size) (poisoned d.2 (lineOff m.pa) m.size)

/-- The Peat way of a window offset is being converted: the access waits (R230). -/
def Core.wayConverting (c : Core) (off : Nat) : Bool := c.converting && decide (c.peatKeep ≤ off / 0x10000)

/-- A write with poisoned data changes no register (log entry 74): it is dropped in the manner of R12. -/
def State.ncSpoilt (s : State) (m : Msg) : State := s.cfgDrop.ncDone m

/-- The configuration space. The host hears that an access was not performed (R466): the error answer tells the Supervisor
Port. -/
def State.ncCfg (s : State) (off : Nat) (m : Msg) : State :=
  if m.opc = .ncRead then
    let x := s.cfgRead m.acc off m.size
    if x.err ≠ 0 then x.s.ncFail m x.err
    else if x.dropped && m.src == 0x820 then x.s.ncFail m 1
    else x.s.ncGive m (x.val.setWidth 512) false
  else
    let x := s.cfgWrite m.acc off m.size m.word (if m.opc = .ncWriteO then some (m.src, m.aux) else none)
    if x.err ≠ 0 then x.s.ncNo m x.err
    else if x.later then x.s
    else if x.dropped && m.src == 0x820 then x.s.ncFail m 1
    else x.s.ncDone m

/-- The boot ROM: reads under gatekeeper 34; writes are dropped. -/
def State.ncRom (s : State) (off : Nat) (m : Msg) : State :=
  let write := m.opc != .ncRead
  if !m.world then (s.report (3040 + 34) .uc).ncNo m 2
  else
    match s.verdict 34 m.world m.dom (!write) write m.pa m.size with
    | some r => s.ncRefused 34 r m
    | none =>
      if write then s.ncDone m
      else s.ncGive m ((List.range m.size).foldl (fun a i => lineSet a i 1 ((romByte (off + i)).setWidth 512)) 0) false

/-- A request reaches its target; `none` while a root port has no tag for it, or a Peat way is being converted. -/
def State.ncServe (s : State) (m : Msg) : Option State :=
  match place m.pa with
  | .dram => some (s.ncDram m)
  | .peat q off => if (s.core q).wayConverting off then none else some (s.ncPeat q m)
  | .rp j o => s.rpServe j o m
  | .cfg off => some (if m.opc != .ncRead && m.poison != 0 then s.ncSpoilt m else s.ncCfg off m)
  | .bell fn off =>
    if m.opc = .ncRead then some (s.ncGive m 0 false)
    else if m.poison != 0 then some (s.ncSpoilt m)
    else some ((s.bell m.world m.dom fn off m.size m.word.toNat).ncDone m)
  | .rom off => some (s.ncRom off m)
  | .none => some ((s.report (s.decoder m.pa) .uc).ncNo m 2)

/-- Serves the oldest message on the mesh that satisfies `f`. -/
def State.ncDeliver (s : State) (f : Msg → Bool) : State :=
  match s.recv (fun m => f m && decide (m.dst = .target)) with
  | none => s
  | some (m, s') => (s'.ncServe m).getD s

/-- A row of R305's requests. -/
def ncRow (o : Opc) (a pa : Nat) (s : State) : Host.Outcome State Fault Refusal :=
  if agentIdOk a then .next (s.ncDeliver (fun m => m.opc == o && m.src == a && m.pa == pa)) else .fault .noSuchUnit

/-- NC_READ (R305). With none on its way, a Normal-NC load of the core that is not its oldest instruction sends one (R128). -/
def execNcRead (a pa : Nat) (s : State) : Host.Outcome State Fault Refusal :=
  ncRow .ncRead a pa (if s.net.any (fun m => m.opc == .ncRead && m.src == a && m.pa == pa) then s else s.aheadNc a pa)
/-- NC_WRITE_P (R305). -/
def execNcWriteP (a pa : Nat) (s : State) : Host.Outcome State Fault Refusal := ncRow .ncWriteP a pa s
/-- NC_WRITE_O (R305). -/
def execNcWriteO (a pa : Nat) (s : State) : Host.Outcome State Fault Refusal := ncRow .ncWriteO a pa s

/-- REMOTE_PEAT_ACCESS (R229): the oldest request of an agent for a Peat address. -/
def execRemotePeatAccess (src pa : Nat) (s : State) : Host.Outcome State Fault Refusal :=
  if !agentIdOk src then .fault .noSuchUnit
  else .next (s.ncDeliver (fun m => m.src == src && m.pa == pa && m.opc.vc == 0 && (match place m.pa with
    | .peat _ _ => true
    | _ => false)))

/-! Answers. -/

/-- An answer reaches a core: it belongs to the access that waits if it carries its number. -/
def Core.answer (c : Core) (m : Msg) : Core :=
  match c.wait with
  | none => c
  | some w =>
    if w.out && !w.done && w.tag == m.aux then
      { c with wait := some { w with done := true, data := m.data, poison := m.poison != 0, err := m.status } }
    else c

/-- A row of R305's answers. -/
def ncAnsRow (o : Opc) (a : Nat) (s : State) : Host.Outcome State Fault Refusal :=
  if !agentIdOk a then .fault .noSuchUnit
  else
    match s.recv (fun m => m.opc == o && decide (m.dst = .agent a)) with
    | none => .next s
    | some (m, s') =>
      match coreOfAgent a with
      | some p => .next (s'.modCore p (·.answer m))
      | none =>
        if a = 0x850 then .next (s'.dbgAnswer m.aux (fun _ => if m.poison = 0 ∧ m.opc ≠ .ncErr then some m.data else none))
        else .next (s'.ioPeerDone m.aux (m.opc == .ncErr) m.data (m.poison != 0))

/-- NC_DATA (R305). -/
def execNcData (a : Nat) (s : State) : Host.Outcome State Fault Refusal := ncAnsRow .ncData a s
/-- NC_ACK (R305). -/
def execNcAck (a : Nat) (s : State) : Host.Outcome State Fault Refusal := ncAnsRow .ncAck a s
/-- NC_ERR (R305): the exception is raised by the access that waits. -/
def execNcErr (a : Nat) (s : State) : Host.Outcome State Fault Refusal := ncAnsRow .ncErr a s

/-! Interface pages (R175–R179). -/

/-- The offset of a page's register in the configuration space. -/
def pageOff (pk : PageKind) (o : Nat) : Nat :=
  let k := match pk with
    | .openL1 => 0
    | .openL2 => 1
    | .sealedL1 => 2
    | .sealedL3 => 3
  blkNum .idist * 0x8000000 + 0x10000 + k * 0x1000 + o

/-- IDIST_ACK (R177): the read of core `p` that is on its way, or one that it makes now. -/
def execIdistAck (p : Nat) (page : PageKind) (s : State) : Host.Outcome State Fault Refusal :=
  if !isCore p then .fault .noSuchUnit
  else
    let pa := cfgBase + pageOff page 8
    let mine := fun (m : Msg) => m.opc == .ncRead && m.src == agentOf p && m.pa == pa
    if s.net.any mine then .next (s.ncDeliver mine)
    else .next (s.cfgRead (s.accOf (.core p)) (pageOff page 8) 8).s

/-- A write of core `p` to its interface page. -/
def pageRow (p : Nat) (page : PageKind) (o : Nat) (v : Word) (s : State) : Host.Outcome State Fault Refusal :=
  if isCore p then .next (s.cfgWrite (s.accOf (.core p)) (pageOff page o) 8 v).s else .fault .noSuchUnit

/-- IDIST_EOI (R177). -/
def execIdistEoi (p : Nat) (page : PageKind) (v : Word) (s : State) : Host.Outcome State Fault Refusal := pageRow p page 0x10 v s
/-- IDIST_SGI (R179). -/
def execIdistSgi (p : Nat) (page : PageKind) (v : Word) (s : State) : Host.Outcome State Fault Refusal := pageRow p page 0x28 v s

end Sys2Proof.Machine
end

