-- ==== Sys2Proof/Machine/Priv.lean ====
section
/-! DEFINITION. Gates, monitor calls and returns: major 0x3A and GATEMARK (R99–R106, R153, R162–R167, R354–R359). -/

namespace Sys2Proof.Machine

/-- Runs `m`, and turns its exception into another operation; a wait stays a wait. -/
def orElse {α : Type} (m : InsnM α) (f : InsnM α) : InsnM α := fun s =>
  match m s with
  | .ok a s' => .ok a s'
  | .error .stall s' => .error .stall s'
  | .error (.exc _) s' => f s'

/-- The context after every earlier MTC has taken effect (R134). -/
def synced (x : Ctx) : InsnM Ctx := do
  syncContext x.p
  return { x with eff := (← getCore x.p).arch.cr }

/-- The four doublewords at an address, read as loads one after another; `bad` is what an exception of one becomes. With
them the number of uncached reads. -/
def readFour (x : Ctx) (a : Nat) (bad : InsnM (Word × Nat)) : InsnM ((Nat × Nat × Nat × Nat) × Nat) := do
  let (d0, n) ← orElse (readDword x 0 a) bad
  let (d1, n) ← orElse (readDword x n (a + 8)) bad
  let (d2, n) ← orElse (readDword x n (a + 16)) bad
  let (d3, n) ← orElse (readDword x n (a + 24)) bad
  pure ((d0.toNat, d1.toNat, d2.toNat, d3.toNat), n)

/-! GCALL and GRET. -/

/-- A gate entry (R163). -/
structure GateEnt where
  d0 : Nat
  sp : Nat
  d2 : Nat
  d3 : Nat
  deriving DecidableEq, Repr

def GateEnt.tlevel (e : GateEnt) : Nat := bits e.d0 48 2
def GateEnt.acnt (e : GateEnt) : Nat := bits e.d0 52 4
def GateEnt.target (e : GateEnt) : Nat := bits e.d0 2 46 * 4
/-- Check k of an entry. -/
def GateEnt.check (e : GateEnt) (k : Nat) : Nat := bits e.d2 (16 * k) 16

/-- The entry is valid (R163). A reserved access encoding of a check in use makes it invalid (log entry 24). -/
def GateEnt.valid (e : GateEnt) : Bool :=
  bits e.d0 0 1 == 1 && bits e.d0 1 1 == 0 && bits e.d0 50 2 == 0 && bits e.d0 56 8 == 0 &&
  bits e.d3 32 32 == 0 && decide (e.acnt ≤ 8) && decide (e.tlevel ≤ 1) && (e.sp == 0 || e.sp % 32 == 0) &&
  (List.range 4).all (fun k => bits (e.check k) 12 4 == 0 && (bits (e.check k) 0 5 == 0 || bits (e.check k) 10 2 != 0))

/-- The field that counts the gate calls outstanding into a level (R151). -/
def gdl (l : Nat) : Fld := if l = 0 then estat_GDL0 else estat_GDL1

/-- The gate fault (R166). -/
def gfault {α : Type} (info eaddr acc : Nat) : InsnM α := raise 0x0F eaddr info acc

/-- Probes the pages of a range from page `a`: each must translate with the access asked for (R165). -/
def probePages (x : Ctx) (n : Need) (k : Nat) : Nat → Nat → InsnM Unit
  | 0, _ => pure ()
  | c + 1, a => do
    let _page ← orElse (translate x x.world x.level false n a 8) (gfault (4 + k * 16) a 8)
    probePages x n k c (a / 4096 * 4096 + 4096)

/-- Check k of a gate entry (R165). -/
def gateProbe (x : Ctx) (e : GateEnt) (k : Nat) : InsnM Unit := do
  let c := e.check k
  if bits c 0 5 = 0 then pure ()
  else
    let a := (← getG x.p (BitVec.ofNat 5 (bits c 0 5))).toNat
    let l := (← getG x.p (BitVec.ofNat 5 (bits c 5 5))).toNat
    if l = 0 then pure ()
    else if l > bits e.d3 0 32 ∨ a + l > 2 ^ 48 then gfault (4 + k * 16) a 8
    else
      let n : Need := ⟨c.testBit 10, c.testBit 11, false⟩
      probePages x n k ((a + l - 1) / 4096 - a / 4096 + 1) a

/-- What GCALL does to the registers once every check has passed (R164 steps 8 and 9), its frame at `fr`. -/
def Core.gateEnter (c : Core) (x : Ctx) (e : GateEnt) (fr : Nat) : Core :=
  let tl := e.tlevel
  let key := lvKey x.world 1 3
  let c := (List.range 8).foldl (fun c i => if e.acnt ≤ i then c.setG (BitVec.ofNat 5 (i + 1)) 0 else c) c
  let c := c.setCrFld key (gdl tl) (c.crFld key (gdl tl) + 1)
  { c with arch := { c.arch with sp := tput c.arch.sp (x.world, tl) (BitVec.ofNat 64 fr), level := tl } }

/-- GCALL (R100, R162–R166). A frame address that is not 32-byte aligned, which an entry with SP 0 makes possible, is a frame
that cannot be stored: GFAULT with `INFO` 5, where R164 and R166 do not say (log entry 66). -/
def execGcall (p : Nat) (imm : BitVec 16) (resv : BitVec 4) (s : State) : Host.Outcome State Fault Refusal :=
  runInsn p false .access (fun x => do
    illIf (resv != 0 || decide (x.level ≥ 2))
    twinHold p
    let x ← synced x
    let gtb := x.cr ⟨x.world, 0x101#12⟩
    let g := imm.toNat
    if fld gtb gtb_EN = 0 ∨ g > fld gtb gtb_LAST then gfault 0 0 0
    let ea := fld gtb gtb_BASE * 32 + 32 * g
    let ((d0, d1, d2, d3), n) ← readFour x ea (gfault 2 ea 2)
    let e : GateEnt := ⟨d0, d1, d2, d3⟩
    if !e.valid || e.tlevel < x.level then gfault 1 ea 0
    let tl := e.tlevel
    let key := lvKey x.world 1 3
    if (← getCore p).crFld key (gdl tl) = 255 then gfault 3 0 0
    gateProbe x e 0
    gateProbe x e 1
    gateProbe x e 2
    gateProbe x e 3
    let c ← getCore p
    let top := if e.sp = 0 then (tget 0 c.arch.sp (x.world, tl)).toNat else e.sp
    let fr := (top + 2 ^ 64 - 32) % 2 ^ 64
    let bad : InsnM Unit := gfault 5 fr 9
    if fr % 32 ≠ 0 then bad
    let info := BitVec.ofNat 64 (x.level + b2n x.world * 4 + g * 2 ^ 16)
    let frame : Line := (x.pc + 4).setWidth 512 ||| (c.g 31#5).setWidth 512 <<< 64 ||| info.setWidth 512 <<< 128
    orElse (store { x with level := tl } 9 fr 32 frame true false n) bad
    disarmOnly p
    modCore p (·.gateEnter x e fr)
    pure (.jump (BitVec.ofNat 64 e.target))) s

/-- The illegal-return exception of GRET (R141). -/
def iret {α : Type} : InsnM α := raise 0x0E 0 1

/-- GRET (R101, R167). -/
def execGret (p : Nat) (imm : BitVec 16) (resv : BitVec 4) (s : State) : Host.Outcome State Fault Refusal :=
  runInsn p false .access (fun x => do
    illIf (resv != 0 || imm != 0 || decide (x.level ≥ 2))
    let x ← synced x
    let key := lvKey x.world 1 3
    let n := (← getCore p).crFld key (gdl x.level)
    if n = 0 then iret
    let a := (← getG p 31#5).toNat
    let ((d0, d1, d2, d3), _) ← readFour x a iret
    let l := bits d2 0 2
    if bits d2 3 13 ≠ 0 ∨ bits d2 32 32 ≠ 0 ∨ d3 ≠ 0 ∨ l > x.level ∨ bits d2 2 1 ≠ b2n x.world then iret
    disarmOnly p
    modCore p (fun c =>
      let c := (c.setG 31#5 (BitVec.ofNat 64 a + 32)).setCrFld key (gdl x.level) (n - 1)
      { c.endShield with arch := { c.arch with sp := tput c.arch.sp (x.world, l) (BitVec.ofNat 64 d1), level := l } })
    pure (.jump (BitVec.ofNat 64 d0))) s

/-! KCALL and ERET. -/

/-- KCALL (R102): it retires, and the entry to L3 is its effect. A legal KCALL counts in `INSTRET`: R121 says that it retires,
while R140 and R141 put it among the synchronous exceptions, which do not count (log entry 67). -/
def execKcall (p : Nat) (imm : BitVec 16) (resv : BitVec 4) (isIll : Bool) (s : State) :
    Host.Outcome State Fault Refusal :=
  runInsn p false .idle (fun x => do
    illIf (isIll || resv != 0 || x.level == 3)
    privIf (x.level == 0)
    twinHold p
    let lead := (← get).leads p
    syncContext p
    modCore p (·.retired x.level lead)
    enter p { level := 3, cause := 0x10, epc := x.pc + 4, info := imm.toNat }
    pure .part) s

/-- A request that core `p` issued under the sealed world has no answer yet (R358 step 2). -/
def State.sealedOut (s : State) (p : Nat) : Bool :=
  let c := s.core p
  c.lines.any (fun e => e.2.world && (e.2.st.moving || e.2.way.isNone)) ||
  s.net.any (fun m => m.world && (m.src == agentOf p || decide (m.dst = .agent (agentOf p))) &&
    (m.opc == .ncRead || m.opc == .ncWriteP || m.opc == .ncWriteO || m.opc == .ncData || m.opc == .ncAck || m.opc == .ncErr ||
      m.opc == .retry)) ||
  s.resend.any (fun e => e.1.src == agentOf p && e.1.world) ||
  s.chans.any (fun c => c.2.queue.any (fun r => match r.who with
    | .nc m => m.src == agentOf p && m.world
    | _ => false)) ||
  s.rpOut.any (fun e => match e.2.msg with
    | some m => m.src == agentOf p && m.world
    | none => false) ||
  (c.range.world && !c.range.out.isEmpty)

/-- Every sealed-tagged line of L1I and L1D is written back and taken out (R358 step 3). -/
def Core.dropSealedL1 (c : Core) : Core :=
  let c := (c.l1d.filter (fun e => e.2.world)).foldl (fun a e => a.l1dClean e.2.line) c
  { c with l1i := c.l1i.filter (fun e => !e.2.world), l1d := c.l1d.filter (fun e => !e.2.world) }

/-- The drain of an ERET at L3 to the open world (R358 steps 1–4). -/
def drainSealed (p : Nat) : InsnM Unit := do
  let s ← get
  let c := s.core p
  if !c.draining then
    stallIf (c.sq.any (fun e => e.world) || s.sealedOut p)
    modCore p (fun c => { c.dropSealedL1 with draining := true })
  modify (fun s => s.evictAll p (((s.core p).lines.filter (fun e => e.2.world && e.2.st == .S)).map (·.1)))
  modify (fun s => s.evictAll p (((s.core p).lines.filter (fun e => e.2.world && e.2.way.isSome)).map (·.1)))
  stallIf ((← getCore p).lines.any (fun e => e.2.world && e.2.way.isSome))

/-- The registers after ERET from level `l` to `tl` in world `tw` (R103, R153). -/
def Core.eretRegs (c : Core) (x : Ctx) (tl : Nat) (tw : Bool) : Core :=
  let key := lvKey x.world x.level 3
  let es := c.crv key
  let c := if fld es estat_NMI = 1 then { c with nmiAct := false } else c
  let es := setFld (setFld es estat_IE (fld es estat_PIE)) estat_NMI 0
  let c := (c.setCr key es).endShield
  let c := if tw = x.world then c else c.worldSwitch
  { c with arch := { c.arch with level := tl, world := tw }, draining := false }

/-- ERET (R103, R153, R358). -/
def execEret (p : Nat) (imm : BitVec 16) (resv : BitVec 4) (s : State) : Host.Outcome State Fault Refusal :=
  runInsn p false .drain (fun x => do
    illIf (resv != 0 || imm != 0)
    privIf (x.level == 0)
    let c ← getCore p
    let es := c.crv (lvKey x.world x.level 3)
    let tl := fld es estat_PLEVEL
    let tw := fld es estat_PWORLD == 1
    let top := c.crFld ⟨tw, 0x120#12⟩ ceiling_MAX
    if tl > x.level ∨ (tw ≠ x.world ∧ x.level ≠ 3) ∨ (tw = false ∧ tl = 3) ∨ (tw = true ∧ tl = 2) ∨ tl > top then
      raise 0x0E 0 0
    if x.world && !tw then twinHold p
    syncContext p
    if x.world && !tw then drainSealed p
    disarmOnly p
    let epc := (← getCore p).crv (lvKey x.world x.level 2)
    modCore p (·.eretRegs x tl tw)
    pure (.jump epc)) s

/-! GATE and GATEMARK. -/

/-- The word of a GATEMARK (R106). -/
def gateMark : Nat := 0xEC5AA5C3

/-- The physical page lies in an enabled gateway range (R354). -/
def Ctx.gateway (x : Ctx) (pa : Nat) : Bool :=
  (x.cr ⟨true, 0x315#12⟩).getLsbD 0 &&
  (List.range 4).any (fun i =>
    let b := x.cr ⟨true, BitVec.ofNat 12 (0x318 + 2 * i)⟩
    let l := x.cr ⟨true, BitVec.ofNat 12 (0x319 + 2 * i)⟩
    fld b kgwb_EN == 1 && decide (fld b kgwb_BASE ≤ pa / 4096) && decide (pa / 4096 ≤ fld l kgwl_LIMIT))

/-- The word before a GATE, read through the translation of its fetch as a load of the core's domain (R104, R354). -/
def readMark (x : Ctx) (q : Xl) : InsnM Unit := do
  let (d, _) ← loadPieces x 2 .none none 0 [⟨x.pc.toNat - 4, q.pa - 4, q.mt, 0, 4⟩]
  illIf (d.toNat != gateMark)

/-- GATE (R104, R105, R354, R355); `isIll` stands for the reserved sub values. -/
def execGate (p : Nat) (imm : BitVec 16) (resv : BitVec 4) (isIll : Bool) (s : State) :
    Host.Outcome State Fault Refusal :=
  runInsn p false .access (fun x => do
    illIf (isIll || resv != 0 || imm != 0 || x.pc.toNat % 4096 == 0)
    let q ← translate x x.world x.level true ⟨false, false, true⟩ x.pc.toNat 1
    if x.world then
      readMark x q
      pure .seq
    else
      illIf (decide (x.level ≥ 2) || !x.gateway q.pa)
      readMark x q
      twinHold p
      syncContext p
      disarmOnly p
      modCore p (fun c => { c.worldSwitch with arch := { c.arch with world := true } })
      pure (.jump (x.pc + 4))) s

/-- GATEMARK (R106); `isIll` stands for every other word of its major. -/
def execGatemark (p : Nat) (isIll : Bool) (s : State) : Host.Outcome State Fault Refusal :=
  runInsn p true .idle (fun _ => do
    illIf isIll
    pure .seq) s

end Sys2Proof.Machine
end

