-- ==== Sys2Proof/Machine/Simd.lean ====
section
/-! DEFINITION. 128-bit SIMD: major 0x31 (R87) -/

namespace Sys2Proof.Machine

/-- Lane `i` of width `w`. -/
def lane (v : BitVec 128) (w i : Nat) : Nat := bits v.toNat (w * i) w

/-- A register from its lanes, lowest first. -/
def fromLanes (w : Nat) (l : List Nat) : BitVec 128 :=
  BitVec.ofNat 128 (l.foldr (fun x a => a * 2 ^ w + x % 2 ^ w) 0)

def lanes (v : BitVec 128) (w : Nat) : List Nat := (List.range (128 / w)).map (lane v w)

/-- The lane width that the lane field selects. -/
def laneW (z : BitVec 2) : Nat := 8 * 2 ^ z.toNat

/-- A signed lane value. -/
def laneS (w x : Nat) : Int := if x < 2 ^ (w - 1) then x else (x : Int) - 2 ^ w
/-- The lane that holds an integer modulo 2^w. -/
def laneOf (w : Nat) (v : Int) : Nat := (v % 2 ^ w).toNat
def ones (w : Nat) (b : Bool) : Nat := if b then 2 ^ w - 1 else 0

/-- An integer operation lane by lane. -/
def simd (p : Nat) (fd fa fb : RegNo) (z : BitVec 2) (ill : Bool) (f : Nat → Nat → Nat → Nat) (s : State) :
    Host.Outcome State Fault Refusal :=
  runInsn p true .idle (fun x => do
    illIf ill
    let w := laneW z
    let a ← getF x.p fa
    let b ← getF x.p fb
    setF x.p fd (fromLanes w (List.zipWith (f w) (lanes a w) (lanes b w)))
    pure .seq) s

/-- A bitwise operation on 128 bits; the lane field must be 0b00. -/
def simdBits (p : Nat) (fd fa fb : RegNo) (z : BitVec 2) (f : BitVec 128 → BitVec 128 → BitVec 128) (s : State) :
    Host.Outcome State Fault Refusal :=
  runInsn p true .idle (fun x => do
    illIf (z != 0)
    let a ← getF x.p fa
    let b ← getF x.p fb
    setF x.p fd (f a b)
    pure .seq) s

/-- A floating-point operation lane by lane; 8-bit lanes are illegal. -/
def simdFp (p : Nat) (fd fa fb : RegNo) (z : BitVec 2) (f : Fmt → Nat → Nat → Nat → Nat × FpFlags) (s : State) :
    Host.Outcome State Fault Refusal :=
  runInsn p true .idle (fun x => do
    illIf (z == 0)
    let w := laneW z
    let c ← getCore x.p
    let r := List.zipWith (f (fmtOf (z.toNat - 1)) c.rm) (lanes (c.fr fa) w) (lanes (c.fr fb) w)
    modCore x.p (·.raiseFlags ((r.map (·.2)).foldl FpFlags.join {}))
    setF x.p fd (fromLanes w (r.map (·.1)))
    pure .seq) s

/-- A permutation of lanes: the lanes of both operands in, the lanes of the result out. -/
def simdPerm (p : Nat) (fd fa fb : RegNo) (z : BitVec 2) (f : List Nat → List Nat → List Nat) (s : State) :
    Host.Outcome State Fault Refusal :=
  runInsn p true .idle (fun x => do
    let w := laneW z
    let a ← getF x.p fa
    let b ← getF x.p fb
    setF x.p fd (fromLanes w (f (lanes a w) (lanes b w)))
    pure .seq) s

/-- Interleaves two lists. -/
def zipLanes (a b : List Nat) : List Nat := (List.zipWith (fun x y => [x, y]) a b).flatten
/-- The lanes at even (`r` = 0) or odd (`r` = 1) places. -/
def everyOther (r : Nat) (l : List Nat) : List Nat :=
  (List.range (l.length / 2)).map (fun i => l.getD (2 * i + r) 0)

/-- VADD (R87). -/
def execVadd (p : Nat) (fd fa fb : RegNo) (lane : BitVec 2) (ill : Bool) (s : State) : Host.Outcome State Fault Refusal :=
  simd p fd fa fb lane ill (fun _ a b => a + b) s

/-- VSUB (R87). -/
def execVsub (p : Nat) (fd fa fb : RegNo) (lane : BitVec 2) (s : State) : Host.Outcome State Fault Refusal :=
  simd p fd fa fb lane false (fun w a b => a + (2 ^ w - b)) s

/-- VMUL (R87). -/
def execVmul (p : Nat) (fd fa fb : RegNo) (lane : BitVec 2) (s : State) : Host.Outcome State Fault Refusal :=
  simd p fd fa fb lane false (fun _ a b => a * b) s

/-- VMINS (R87). -/
def execVmins (p : Nat) (fd fa fb : RegNo) (lane : BitVec 2) (s : State) : Host.Outcome State Fault Refusal :=
  simd p fd fa fb lane false (fun w a b => if laneS w a < laneS w b then a else b) s

/-- VMINU (R87). -/
def execVminu (p : Nat) (fd fa fb : RegNo) (lane : BitVec 2) (s : State) : Host.Outcome State Fault Refusal :=
  simd p fd fa fb lane false (fun _ a b => min a b) s

/-- VMAXS (R87). -/
def execVmaxs (p : Nat) (fd fa fb : RegNo) (lane : BitVec 2) (s : State) : Host.Outcome State Fault Refusal :=
  simd p fd fa fb lane false (fun w a b => if laneS w a < laneS w b then b else a) s

/-- VMAXU (R87). -/
def execVmaxu (p : Nat) (fd fa fb : RegNo) (lane : BitVec 2) (s : State) : Host.Outcome State Fault Refusal :=
  simd p fd fa fb lane false (fun _ a b => max a b) s

/-- VSLL (R87). -/
def execVsll (p : Nat) (fd fa fb : RegNo) (lane : BitVec 2) (s : State) : Host.Outcome State Fault Refusal :=
  simd p fd fa fb lane false (fun w a b => a * 2 ^ (b % w)) s

/-- VSRL (R87). -/
def execVsrl (p : Nat) (fd fa fb : RegNo) (lane : BitVec 2) (s : State) : Host.Outcome State Fault Refusal :=
  simd p fd fa fb lane false (fun w a b => a / 2 ^ (b % w)) s

/-- VSRA (R87). -/
def execVsra (p : Nat) (fd fa fb : RegNo) (lane : BitVec 2) (s : State) : Host.Outcome State Fault Refusal :=
  simd p fd fa fb lane false (fun w a b => laneOf w (laneS w a / 2 ^ (b % w))) s

/-- VADDSS (R87). -/
def execVaddss (p : Nat) (fd fa fb : RegNo) (lane : BitVec 2) (s : State) : Host.Outcome State Fault Refusal :=
  simd p fd fa fb lane false (fun w a b => laneOf w (max (-(2 ^ (w - 1))) (min (2 ^ (w - 1) - 1) (laneS w a + laneS w b)))) s

/-- VADDUS (R87). -/
def execVaddus (p : Nat) (fd fa fb : RegNo) (lane : BitVec 2) (s : State) : Host.Outcome State Fault Refusal :=
  simd p fd fa fb lane false (fun w a b => min (2 ^ w - 1) (a + b)) s

/-- VCEQ (R87). -/
def execVceq (p : Nat) (fd fa fb : RegNo) (lane : BitVec 2) (s : State) : Host.Outcome State Fault Refusal :=
  simd p fd fa fb lane false (fun w a b => ones w (a == b)) s

/-- VCGTS (R87). -/
def execVcgts (p : Nat) (fd fa fb : RegNo) (lane : BitVec 2) (s : State) : Host.Outcome State Fault Refusal :=
  simd p fd fa fb lane false (fun w a b => ones w (decide (laneS w b < laneS w a))) s

/-- VCGTU (R87). -/
def execVcgtu (p : Nat) (fd fa fb : RegNo) (lane : BitVec 2) (s : State) : Host.Outcome State Fault Refusal :=
  simd p fd fa fb lane false (fun w a b => ones w (decide (b < a))) s

/-- VAND (R87). -/
def execVand (p : Nat) (fd fa fb : RegNo) (lane : BitVec 2) (s : State) : Host.Outcome State Fault Refusal :=
  simdBits p fd fa fb lane (fun a b => a &&& b) s

/-- VOR (R87). -/
def execVor (p : Nat) (fd fa fb : RegNo) (lane : BitVec 2) (s : State) : Host.Outcome State Fault Refusal :=
  simdBits p fd fa fb lane (fun a b => a ||| b) s

/-- VXOR (R87). -/
def execVxor (p : Nat) (fd fa fb : RegNo) (lane : BitVec 2) (s : State) : Host.Outcome State Fault Refusal :=
  simdBits p fd fa fb lane (fun a b => a ^^^ b) s

/-- VANDN (R87). The rule says no more than that it is bitwise; the model inverts the operand of fb (log entry 68). -/
def execVandn (p : Nat) (fd fa fb : RegNo) (lane : BitVec 2) (s : State) : Host.Outcome State Fault Refusal :=
  simdBits p fd fa fb lane (fun a b => a &&& ~~~b) s

/-- VFADD (R87, R85). -/
def execVfadd (p : Nat) (fd fa fb : RegNo) (lane : BitVec 2) (s : State) : Host.Outcome State Fault Refusal :=
  simdFp p fd fa fb lane fpAdd s

/-- VFSUB (R87, R85). -/
def execVfsub (p : Nat) (fd fa fb : RegNo) (lane : BitVec 2) (s : State) : Host.Outcome State Fault Refusal :=
  simdFp p fd fa fb lane fpSub s

/-- VFMUL (R87, R85). -/
def execVfmul (p : Nat) (fd fa fb : RegNo) (lane : BitVec 2) (s : State) : Host.Outcome State Fault Refusal :=
  simdFp p fd fa fb lane fpMul s

/-- VFDIV (R87, R85). -/
def execVfdiv (p : Nat) (fd fa fb : RegNo) (lane : BitVec 2) (s : State) : Host.Outcome State Fault Refusal :=
  simdFp p fd fa fb lane fpDiv s

/-- VFMIN (R87, R85). -/
def execVfmin (p : Nat) (fd fa fb : RegNo) (lane : BitVec 2) (s : State) : Host.Outcome State Fault Refusal :=
  simdFp p fd fa fb lane (fun f _ a b => fpMinMax f false a b) s

/-- VFMAX (R87, R85). -/
def execVfmax (p : Nat) (fd fa fb : RegNo) (lane : BitVec 2) (s : State) : Host.Outcome State Fault Refusal :=
  simdFp p fd fa fb lane (fun f _ a b => fpMinMax f true a b) s

/-- VFCEQ (R87, R85): a quiet comparison, as FCMPEQ of R86; R87 does not say so of the vector form (log entry 71). -/
def execVfceq (p : Nat) (fd fa fb : RegNo) (lane : BitVec 2) (s : State) : Host.Outcome State Fault Refusal :=
  simdFp p fd fa fb lane (fun f _ a b =>
    let r := fpCmp f false relEq a b
    (ones f.width r.1, r.2)) s

/-- VFCLT (R87, R85): a signalling comparison, as FCMPLT of R86; R87 does not say so of the vector form (log entry 71). -/
def execVfclt (p : Nat) (fd fa fb : RegNo) (lane : BitVec 2) (s : State) : Host.Outcome State Fault Refusal :=
  simdFp p fd fa fb lane (fun f _ a b =>
    let r := fpCmp f true relLt a b
    (ones f.width r.1, r.2)) s

/-- VZIPL (R87): the low halves interleaved, fa first. -/
def execVzipl (p : Nat) (fd fa fb : RegNo) (lane : BitVec 2) (s : State) : Host.Outcome State Fault Refusal :=
  simdPerm p fd fa fb lane (fun a b => zipLanes (a.take (a.length / 2)) (b.take (b.length / 2))) s

/-- VZIPH (R87): the high halves interleaved, fa first. -/
def execVziph (p : Nat) (fd fa fb : RegNo) (lane : BitVec 2) (s : State) : Host.Outcome State Fault Refusal :=
  simdPerm p fd fa fb lane (fun a b => zipLanes (a.drop (a.length / 2)) (b.drop (b.length / 2))) s

/-- VUZPE (R87): the even lanes of fa, then those of fb. -/
def execVuzpe (p : Nat) (fd fa fb : RegNo) (lane : BitVec 2) (s : State) : Host.Outcome State Fault Refusal :=
  simdPerm p fd fa fb lane (fun a b => everyOther 0 a ++ everyOther 0 b) s

/-- VUZPO (R87): the odd lanes of fa, then those of fb. -/
def execVuzpo (p : Nat) (fd fa fb : RegNo) (lane : BitVec 2) (s : State) : Host.Outcome State Fault Refusal :=
  simdPerm p fd fa fb lane (fun a b => everyOther 1 a ++ everyOther 1 b) s

/-- VTBL (R87): an index of 16 or more gives 0; lane must be 0b00. -/
def execVtbl (p : Nat) (fd fa fb : RegNo) (lane : BitVec 2) (s : State) : Host.Outcome State Fault Refusal :=
  runInsn p true .idle (fun x => do
    illIf (lane != 0)
    let a := lanes (← getF x.p fa) 8
    let b := lanes (← getF x.p fb) 8
    setF x.p fd (fromLanes 8 (b.map (fun i => a.getD i 0)))
    pure .seq) s

/-- VDUPG (R87): the g register of the fa field in every lane. -/
def execVdupg (p : Nat) (fd fa _fb : RegNo) (lane : BitVec 2) (s : State) : Host.Outcome State Fault Refusal :=
  runInsn p true .idle (fun x => do
    let w := laneW lane
    let g ← getG x.p fa
    setF x.p fd (fromLanes w (List.replicate (128 / w) g.toNat))
    pure .seq) s

/-- VMOVGL (R87): the fa lane numbered by the fb field, zero-extended. -/
def execVmovgl (p : Nat) (fd fa fb : RegNo) (lane : BitVec 2) (s : State) : Host.Outcome State Fault Refusal :=
  runInsn p true .idle (fun x => do
    let w := laneW lane
    illIf (fb.toNat ≥ 128 / w)
    setG x.p fd (BitVec.ofNat 64 (bits (← getF x.p fa).toNat (w * fb.toNat) w))
    pure .seq) s

/-- VINSG (R87): the lane numbered by the fb field from a g register; the other lanes are kept. -/
def execVinsg (p : Nat) (fd fa fb : RegNo) (lane : BitVec 2) (s : State) : Host.Outcome State Fault Refusal :=
  runInsn p true .idle (fun x => do
    let w := laneW lane
    illIf (fb.toNat ≥ 128 / w)
    let g ← getG x.p fa
    setF x.p fd (BitVec.ofNat 128 (setBits (← getF x.p fd).toNat (w * fb.toNat) w g.toNat))
    pure .seq) s

end Sys2Proof.Machine
end

