-- ==== Sys2Proof/Machine/SpIn.lean ====
section
/-! DEFINITION. What the host asks of the Supervisor Port: configuration, BAR0, the inbound windows, the Expansion ROM
(R457–R469, R486). A request of more than 64 bytes is offered as several (log entry 42). -/

namespace Sys2Proof.Machine

/-! Windows (R461). -/

/-- A request that the function itself answers takes its turn behind the earlier writes of the port (R259, R260). -/
def State.spAsk (s : State) (r : SpTlp) : State := s.ioAside 0x820 272 (spPosted r) r.size (.spLocal r)

/-- The window that holds a request whole. -/
def State.winOf (s : State) (off size : Nat) : Option Nat :=
  (List.range 16).find? (fun w =>
    let c := s.winCfg w
    winEn c && decide (winBase c ≤ off ∧ off + size ≤ winBase c + winSize c))

/-- A memory request to BAR2. -/
def State.spBar2 (s : State) (r : SpTlp) : State :=
  match s.winOf r.off r.size with
  | none => (s.finc (rSp .spWstat) spWstat_URCNT).spAsk { r with kind := .other }
  | some w =>
    let a := fld (s.winTgt w) spWinTgt_TGT * 4096 + (r.off - winBase (s.winCfg w))
    (lineParts a r.size).foldl (fun t x =>
      t.spIssue { agent := 0x820, stream := 256 + w, iova := a + x.1, size := x.2, write := r.write
                  data := lineGet r.data x.1 x.2, poison := r.poisoned, use := .spIn, after := x.1 != 0 }) s

/-! Requests. -/

/-- A request is handled (R460). -/
def State.spServe (s : State) (r0 : SpTlp) : State :=
  let r := { r0 with size := min r0.size 64 }
  if r.kind = .bar2 && !spForeign r && s.spClaims r then s.spBar2 r else s.spAsk r

/-- A request received before a reset of the host side is handled, and what it would complete is discarded (R465). -/
def State.spServeVoid (s : State) (r : SpTlp) : State :=
  let t := (s.spServe r).muted s
  { t with io := t.io.map (fun x => if s.ioSeq ≤ x.id then { x with drop := true } else x) }

/-- A request arrives: behind a commit boundary it waits (R463). -/
def State.spArrive (s : State) (r : SpTlp) : State :=
  if s.spPerst || s.fget (rSp .spStat) spStat_LINK == 0 then s
  else if s.fget (rSp .spWctl) spWctl_BUSY == 1 then { s with spWait := s.spWait ++ [r] }
  else s.spServe r

/-- SP_INBOUND_REQUEST (R460). -/
def execSpInboundRequest (r : SpTlp) (s : State) : Host.Outcome State Fault Refusal := .next (s.spArrive r)

/-- The shadows become active (R463). -/
def State.winActivate (s : State) : State :=
  { s with spAct := (List.range 16).foldl (fun a w => tput (tput a (w, 0) (s.rd (rWinCfg w))) (w, 1) (s.rd (rWinTgt w))) s.spAct }

/-- WINDOW_COMMIT_DONE (R463): no request of the old windows is left; the requests that waited are handled in order. -/
def execWindowCommitDone (s : State) : Host.Outcome State Fault Refusal :=
  if s.fget (rSp .spWctl) spWctl_BUSY = 0 ∨ s.io.any (fun r => r.agent == 0x820 && !r.done) then .next s
  else
    let q := s.spWait
    let n := s.spVoid
    let s : State := { (s.winActivate.fset (rSp .spWctl) spWctl_BUSY 0) with spWait := [], spVoid := 0 }
    .next ((q.drop n).foldl State.spServe ((q.take n).foldl State.spServeVoid s))

/-- HOST_DOORBELL (R468): a 4-byte write of `SP_HDB`. -/
def execHostDoorbell (v : Word) (s : State) : Host.Outcome State Fault Refusal :=
  .next (s.spArrive { kind := .bar0, write := true, off := 0x08, size := 4, data := v.setWidth 512 })

/-- HOST_CONFIG_ACCESS (R466): the host writes `SP_HCFGADDR`, then accesses `SP_HCFGDATA`. -/
def execHostConfigAccess (write : Bool) (size off : Nat) (v : Word) (s : State) : Host.Outcome State Fault Refusal :=
  let s := s.spArrive { kind := .bar0, write := true, off := 0x20, size := 8, data := BitVec.ofNat 512 (off % 2 ^ 32) }
  .next (s.spArrive { kind := .bar0, write := write, off := 0x28, size := size, data := v.setWidth 512 })

/-- EXPANSION_ROM_READ (R469): the 8-byte unit that holds an offset. -/
def execExpansionRomRead (off : Nat) (s : State) : Host.Outcome State Fault Refusal :=
  .next (s.spArrive { kind := .rom, write := false, off := off / 8 * 8, size := 8 })

end Sys2Proof.Machine
end

