-- ==== Sys2Proof/Machine/System.lean ====
section
/-! DEFINITION. System instructions: major 0x38 (R93–R98), and the shield's end (R157, R158). -/

namespace Sys2Proof.Machine

/-- The fields that a form without operands requires to be 0 (R93). -/
def sysZero (imm : BitVec 16) (resv : BitVec 4) : InsnM Unit := illIf (imm != 0 || resv != 0)

/-- FENCE (R94, R251). Loads are performed when they execute, or were read early: a fence with a bit for later loads discards
what they have read. The SL bit waits until every store is performed; the SS bit puts a barrier into the store queue. Neither
ends while a lost store is unrecorded (R264). `isIll` stands for the reserved sub values. -/
def execFence (p : Nat) (imm : BitVec 16) (resv : BitVec 4) (isIll : Bool) (s : State) :
    Host.Outcome State Fault Refusal :=
  runInsn p true .idle (fun x => do
    illIf (isIll || resv != 0 || decide (imm.toNat ≥ 16) || imm == 0)
    if imm.getLsbD 3 || imm.getLsbD 1 then modCore p (fun c => { c with early := [] })
    if imm.getLsbD 1 then drained p
    else if imm.getLsbD 0 then
      recorded p
      let st ← get
      if !(st.core p).sq.isEmpty || st.postedOut p then
        sqRoom x 1
        modCore p (fun c => { c with sq := c.sq ++ [{ va := 0, pa := 0, size := 0, data := 0, world := x.world, dom := x.dom,
                                                      nc := false, ord := false }] })
    pure .seq) s

/-- CSYNC (R95, R134). -/
def execCsync (p : Nat) (imm : BitVec 16) (resv : BitVec 4) (s : State) : Host.Outcome State Fault Refusal :=
  runInsn p false .idle (fun _ => do
    sysZero imm resv
    syncContext p
    pure .seq) s

/-- ISYNC (R95, R134): as CSYNC; the model fetches each instruction when it executes, so nothing fetched is held. -/
def execIsync (p : Nat) (imm : BitVec 16) (resv : BitVec 4) (s : State) : Host.Outcome State Fault Refusal :=
  runInsn p false .idle (fun _ => do
    sysZero imm resv
    syncContext p
    pure .seq) s

/-- CLREX (R77, R78). -/
def execClrex (p : Nat) (imm : BitVec 16) (resv : BitVec 4) (s : State) : Host.Outcome State Fault Refusal :=
  runInsn p false .idle (fun _ => do
    sysZero imm resv
    disarm p
    pure .seq) s

/-- The core has something that ends a WFI (R96): an interrupt that it would take now, or an NMI. -/
def State.wakes (s : State) (p : Nat) : Bool :=
  (s.intNow p).isSome || ((s.core p).nmiLatch && !(s.core p).nmiAct)

/-- WFI (R96). -/
def execWfi (p : Nat) (imm : BitVec 16) (resv : BitVec 4) (s : State) : Host.Outcome State Fault Refusal :=
  runInsn p false .wfi (fun x => do
    sysZero imm resv
    privIf (x.level < 1)
    twinHold p
    if (← get).wakes p then
      modCore p (fun c => { c with wfi := false })
      pure .seq
    else
      modCore p (fun c => { c with wfi := true })
      stall) s

/-- BRK (R97). -/
def execBrk (p : Nat) (imm : BitVec 16) (resv : BitVec 4) (s : State) : Host.Outcome State Fault Refusal :=
  runInsn p false .idle (fun _ => do
    illIf (resv != 0)
    raise 0x0D 0 imm.toNat) s

/-- `SHMAX` of the level and world at which an instruction executes (R156). -/
def State.shmaxOf (s : State) (x : Ctx) : Nat := fld (s.crRead x.p (lvKey x.world x.level 6)) shmax_MAX

/-- SHIELD (R98, R156–R158). -/
def execShield (p : Nat) (imm : BitVec 16) (resv : BitVec 4) (s : State) : Host.Outcome State Fault Refusal :=
  runInsn p false .idle (fun x => do
    illIf (resv != 0)
    privIf (x.level < 1)
    let m := (← get).shmaxOf x
    let n := min imm.toNat m
    if n = 0 then modCore p (·.endShield)
    else modCore p (fun c => { c with shOn := true, shield := n, shRec := m })
    pure .seq) s

/-- SHIELD_EXPIRY (R157): the count has run down and the shield ends. -/
def execShieldExpiry (p : Nat) (s : State) : Host.Outcome State Fault Refusal :=
  if !isCore p then .fault .noSuchUnit
  else
    let c := s.core p
    if c.shOn && c.shield == 0 then .next (s.setCore p c.endShield) else .next s

/-- SHIELD_DEFER_LIMIT (R158): an interrupt that the shield defers has been eligible for the recorded `SHMAX` cycles. -/
def execShieldDeferLimit (p : Nat) (s : State) : Host.Outcome State Fault Refusal :=
  if !isCore p then .fault .noSuchUnit
  else
    let c := s.core p
    if c.shOn && c.shDefs.any (fun e => decide (c.shRec ≤ e.2)) then .next (s.setCore p c.endShield) else .next s

end Sys2Proof.Machine
end

