-- ==== Sys2Proof/Machine/Dispatch.lean ====
section
/-! DEFINITION. One arm per command: its meaning, or a rejection by name. -/

namespace Sys2Proof.Machine

def exec (i : Instr) (s : State) : Host.Outcome State Fault Refusal :=
  match i with
  | .registerWrite who off size v => Sys2Proof.Machine.execRegisterWrite who off size v s
  | .lcnmapWrite who n v => Sys2Proof.Machine.execLcnmapWrite who n v s
  | .tiledivWrite who k v => Sys2Proof.Machine.execTiledivWrite who k v s
  | .tileClockSwitch k => Sys2Proof.Machine.execTileClockSwitch k s
  | .ctadjWrite who v => Sys2Proof.Machine.execCtadjWrite who v s
  | .ctstepWrite who half v => Sys2Proof.Machine.execCtstepWrite who half v s
  | .pllLock => Sys2Proof.Machine.execPllLock s
  | .pllLossOfLock => Sys2Proof.Machine.execPllLossOfLock s
  | .add p rd ra rb ill => Sys2Proof.Machine.execAdd p rd ra rb ill s
  | .sub p rd ra rb => Sys2Proof.Machine.execSub p rd ra rb s
  | .and p rd ra rb => Sys2Proof.Machine.execAnd p rd ra rb s
  | .or p rd ra rb => Sys2Proof.Machine.execOr p rd ra rb s
  | .xor p rd ra rb => Sys2Proof.Machine.execXor p rd ra rb s
  | .andn p rd ra rb => Sys2Proof.Machine.execAndn p rd ra rb s
  | .orn p rd ra rb => Sys2Proof.Machine.execOrn p rd ra rb s
  | .sll p rd ra rb => Sys2Proof.Machine.execSll p rd ra rb s
  | .srl p rd ra rb => Sys2Proof.Machine.execSrl p rd ra rb s
  | .sra p rd ra rb => Sys2Proof.Machine.execSra p rd ra rb s
  | .ror p rd ra rb => Sys2Proof.Machine.execRor p rd ra rb s
  | .slt p rd ra rb => Sys2Proof.Machine.execSlt p rd ra rb s
  | .sltu p rd ra rb => Sys2Proof.Machine.execSltu p rd ra rb s
  | .min p rd ra rb => Sys2Proof.Machine.execMin p rd ra rb s
  | .max p rd ra rb => Sys2Proof.Machine.execMax p rd ra rb s
  | .addw p rd ra rb => Sys2Proof.Machine.execAddw p rd ra rb s
  | .subw p rd ra rb => Sys2Proof.Machine.execSubw p rd ra rb s
  | .sllw p rd ra rb => Sys2Proof.Machine.execSllw p rd ra rb s
  | .srlw p rd ra rb => Sys2Proof.Machine.execSrlw p rd ra rb s
  | .sraw p rd ra rb => Sys2Proof.Machine.execSraw p rd ra rb s
  | .clz p rd ra rb => Sys2Proof.Machine.execClz p rd ra rb s
  | .ctz p rd ra rb => Sys2Proof.Machine.execCtz p rd ra rb s
  | .popc p rd ra rb => Sys2Proof.Machine.execPopc p rd ra rb s
  | .bswap p rd ra rb => Sys2Proof.Machine.execBswap p rd ra rb s
  | .sextb p rd ra rb => Sys2Proof.Machine.execSextb p rd ra rb s
  | .sexth p rd ra rb => Sys2Proof.Machine.execSexth p rd ra rb s
  | .sextw p rd ra rb => Sys2Proof.Machine.execSextw p rd ra rb s
  | .addi p rd ra imm ill => Sys2Proof.Machine.execAddi p rd ra imm ill s
  | .andi p rd ra imm => Sys2Proof.Machine.execAndi p rd ra imm s
  | .ori p rd ra imm => Sys2Proof.Machine.execOri p rd ra imm s
  | .xori p rd ra imm => Sys2Proof.Machine.execXori p rd ra imm s
  | .slti p rd ra imm => Sys2Proof.Machine.execSlti p rd ra imm s
  | .sltiu p rd ra imm => Sys2Proof.Machine.execSltiu p rd ra imm s
  | .lui p rd ra imm => Sys2Proof.Machine.execLui p rd ra imm s
  | .addpci p rd ra imm => Sys2Proof.Machine.execAddpci p rd ra imm s
  | .slli p rd ra imm ill => Sys2Proof.Machine.execSlli p rd ra imm ill s
  | .srli p rd ra imm => Sys2Proof.Machine.execSrli p rd ra imm s
  | .srai p rd ra imm => Sys2Proof.Machine.execSrai p rd ra imm s
  | .rori p rd ra imm => Sys2Proof.Machine.execRori p rd ra imm s
  | .slliw p rd ra imm => Sys2Proof.Machine.execSlliw p rd ra imm s
  | .srliw p rd ra imm => Sys2Proof.Machine.execSrliw p rd ra imm s
  | .sraiw p rd ra imm => Sys2Proof.Machine.execSraiw p rd ra imm s
  | .mlo p rd ra rb ill => Sys2Proof.Machine.execMlo p rd ra rb ill s
  | .mlow p rd ra rb => Sys2Proof.Machine.execMlow p rd ra rb s
  | .mhuu p rd ra rb => Sys2Proof.Machine.execMhuu p rd ra rb s
  | .mhss p rd ra rb => Sys2Proof.Machine.execMhss p rd ra rb s
  | .mhsu p rd ra rb => Sys2Proof.Machine.execMhsu p rd ra rb s
  | .div p rd ra rb ill => Sys2Proof.Machine.execDiv p rd ra rb ill s
  | .divu p rd ra rb => Sys2Proof.Machine.execDivu p rd ra rb s
  | .rem p rd ra rb => Sys2Proof.Machine.execRem p rd ra rb s
  | .remu p rd ra rb => Sys2Proof.Machine.execRemu p rd ra rb s
  | .divw p rd ra rb => Sys2Proof.Machine.execDivw p rd ra rb s
  | .divuw p rd ra rb => Sys2Proof.Machine.execDivuw p rd ra rb s
  | .remw p rd ra rb => Sys2Proof.Machine.execRemw p rd ra rb s
  | .remuw p rd ra rb => Sys2Proof.Machine.execRemuw p rd ra rb s
  | .ldb p rd ra imm e => Sys2Proof.Machine.execLdb p rd ra imm e s
  | .ldbu p rd ra imm e => Sys2Proof.Machine.execLdbu p rd ra imm e s
  | .ldh p rd ra imm e => Sys2Proof.Machine.execLdh p rd ra imm e s
  | .ldhu p rd ra imm e => Sys2Proof.Machine.execLdhu p rd ra imm e s
  | .ldw p rd ra imm e => Sys2Proof.Machine.execLdw p rd ra imm e s
  | .ldwu p rd ra imm e => Sys2Proof.Machine.execLdwu p rd ra imm e s
  | .ldd p rd ra imm e ill => Sys2Proof.Machine.execLdd p rd ra imm e ill s
  | .stb p rd ra imm => Sys2Proof.Machine.execStb p rd ra imm s
  | .sth p rd ra imm => Sys2Proof.Machine.execSth p rd ra imm s
  | .stw p rd ra imm => Sys2Proof.Machine.execStw p rd ra imm s
  | .std p rd ra imm ill => Sys2Proof.Machine.execStd p rd ra imm ill s
  | .fld p fd ra size imm e ill => Sys2Proof.Machine.execFld p fd ra size imm e ill s
  | .fst p fd ra size imm => Sys2Proof.Machine.execFst p fd ra size imm s
  | .beq p ra rb t a disp ill => Sys2Proof.Machine.execBeq p ra rb t a disp ill s
  | .bne p ra rb t a disp => Sys2Proof.Machine.execBne p ra rb t a disp s
  | .blt p ra rb t a disp => Sys2Proof.Machine.execBlt p ra rb t a disp s
  | .bge p ra rb t a disp => Sys2Proof.Machine.execBge p ra rb t a disp s
  | .bltu p ra rb t a disp => Sys2Proof.Machine.execBltu p ra rb t a disp s
  | .bgeu p ra rb t a disp => Sys2Proof.Machine.execBgeu p ra rb t a disp s
  | .j p a disp ill => Sys2Proof.Machine.execJ p a disp ill s
  | .jal p a disp => Sys2Proof.Machine.execJal p a disp s
  | .jr p rd ra rb a ill => Sys2Proof.Machine.execJr p rd ra rb a ill s
  | .jalr p rd ra rb a => Sys2Proof.Machine.execJalr p rd ra rb a s
  | .ret p rd ra rb a => Sys2Proof.Machine.execRet p rd ra rb a s
  | .lda p rd ra rb size oacq orel resv e ill => Sys2Proof.Machine.execLda p rd ra rb size oacq orel resv e ill s
  | .stl p rd ra rb size oacq orel resv => Sys2Proof.Machine.execStl p rd ra rb size oacq orel resv s
  | .ldx p rd ra rb size oacq orel resv e => Sys2Proof.Machine.execLdx p rd ra rb size oacq orel resv e s
  | .stx p rd ra rb size oacq orel resv e => Sys2Proof.Machine.execStx p rd ra rb size oacq orel resv e s
  | .atswp p rd ra rb size oacq orel resv e => Sys2Proof.Machine.execAtswp p rd ra rb size oacq orel resv e s
  | .atadd p rd ra rb size oacq orel resv e ill => Sys2Proof.Machine.execAtadd p rd ra rb size oacq orel resv e ill s
  | .atclr p rd ra rb size oacq orel resv e => Sys2Proof.Machine.execAtclr p rd ra rb size oacq orel resv e s
  | .atset p rd ra rb size oacq orel resv e => Sys2Proof.Machine.execAtset p rd ra rb size oacq orel resv e s
  | .atflp p rd ra rb size oacq orel resv e => Sys2Proof.Machine.execAtflp p rd ra rb size oacq orel resv e s
  | .atsmax p rd ra rb size oacq orel resv e => Sys2Proof.Machine.execAtsmax p rd ra rb size oacq orel resv e s
  | .atsmin p rd ra rb size oacq orel resv e => Sys2Proof.Machine.execAtsmin p rd ra rb size oacq orel resv e s
  | .atumax p rd ra rb size oacq orel resv e => Sys2Proof.Machine.execAtumax p rd ra rb size oacq orel resv e s
  | .atumin p rd ra rb size oacq orel resv e => Sys2Proof.Machine.execAtumin p rd ra rb size oacq orel resv e s
  | .atcas p rd ra rb size oacq orel resv e => Sys2Proof.Machine.execAtcas p rd ra rb size oacq orel resv e s
  | .bcopy p rd ra rb e ill => Sys2Proof.Machine.execBcopy p rd ra rb e ill s
  | .bfill p rd ra rb => Sys2Proof.Machine.execBfill p rd ra rb s
  | .dcleanP p rd ra rb => Sys2Proof.Machine.execDcleanP p rd ra rb s
  | .dinvP p rd ra rb => Sys2Proof.Machine.execDinvP p rd ra rb s
  | .dclinvP p rd ra rb => Sys2Proof.Machine.execDclinvP p rd ra rb s
  | .dcleanM p rd ra rb => Sys2Proof.Machine.execDcleanM p rd ra rb s
  | .dinvM p rd ra rb => Sys2Proof.Machine.execDinvM p rd ra rb s
  | .dclinvM p rd ra rb => Sys2Proof.Machine.execDclinvM p rd ra rb s
  | .dzero p rd ra rb ill => Sys2Proof.Machine.execDzero p rd ra rb ill s
  | .prefr p rd ra rb => Sys2Proof.Machine.execPrefr p rd ra rb s
  | .prefw p rd ra rb => Sys2Proof.Machine.execPrefw p rd ra rb s
  | .rcleanP p rd ra rb => Sys2Proof.Machine.execRcleanP p rd ra rb s
  | .rinvP p rd ra rb => Sys2Proof.Machine.execRinvP p rd ra rb s
  | .rclinvP p rd ra rb => Sys2Proof.Machine.execRclinvP p rd ra rb s
  | .rcleanM p rd ra rb => Sys2Proof.Machine.execRcleanM p rd ra rb s
  | .rinvM p rd ra rb => Sys2Proof.Machine.execRinvM p rd ra rb s
  | .rclinvM p rd ra rb => Sys2Proof.Machine.execRclinvM p rd ra rb s
  | .rstat p rd ra rb => Sys2Proof.Machine.execRstat p rd ra rb s
  | .rabort p rd ra rb => Sys2Proof.Machine.execRabort p rd ra rb s
  | .rangeEngineLine p => Sys2Proof.Machine.execRangeEngineLine p s
  | .tlbiva p rd ra rb bc ill => Sys2Proof.Machine.execTlbiva p rd ra rb bc ill s
  | .tlbivaa p rd ra rb bc => Sys2Proof.Machine.execTlbivaa p rd ra rb bc s
  | .tlbiasid p rd ra rb bc => Sys2Proof.Machine.execTlbiasid p rd ra rb bc s
  | .tlbivmall p rd ra rb bc => Sys2Proof.Machine.execTlbivmall p rd ra rb bc s
  | .tlbivmid p rd ra rb bc => Sys2Proof.Machine.execTlbivmid p rd ra rb bc s
  | .tlbihva p rd ra rb bc => Sys2Proof.Machine.execTlbihva p rd ra rb bc s
  | .tlbihall p rd ra rb bc => Sys2Proof.Machine.execTlbihall p rd ra rb bc s
  | .tlbiworld p rd ra rb bc => Sys2Proof.Machine.execTlbiworld p rd ra rb bc s
  | .tlbsync p rd ra rb bc => Sys2Proof.Machine.execTlbsync p rd ra rb bc s
  | .fadd p fd fa fb prec ill => Sys2Proof.Machine.execFadd p fd fa fb prec ill s
  | .fsub p fd fa fb prec => Sys2Proof.Machine.execFsub p fd fa fb prec s
  | .fmul p fd fa fb prec => Sys2Proof.Machine.execFmul p fd fa fb prec s
  | .fdiv p fd fa fb prec => Sys2Proof.Machine.execFdiv p fd fa fb prec s
  | .fsqrt p fd fa fb prec => Sys2Proof.Machine.execFsqrt p fd fa fb prec s
  | .fmin p fd fa fb prec => Sys2Proof.Machine.execFmin p fd fa fb prec s
  | .fmax p fd fa fb prec => Sys2Proof.Machine.execFmax p fd fa fb prec s
  | .fneg p fd fa fb prec => Sys2Proof.Machine.execFneg p fd fa fb prec s
  | .fabs p fd fa fb prec => Sys2Proof.Machine.execFabs p fd fa fb prec s
  | .fcpys p fd fa fb prec => Sys2Proof.Machine.execFcpys p fd fa fb prec s
  | .fcmpeq p fd fa fb prec => Sys2Proof.Machine.execFcmpeq p fd fa fb prec s
  | .fcmplt p fd fa fb prec => Sys2Proof.Machine.execFcmplt p fd fa fb prec s
  | .fcmple p fd fa fb prec => Sys2Proof.Machine.execFcmple p fd fa fb prec s
  | .fkind p fd fa fb prec => Sys2Proof.Machine.execFkind p fd fa fb prec s
  | .fcmpun p fd fa fb prec => Sys2Proof.Machine.execFcmpun p fd fa fb prec s
  | .fcvtf p fd fa fb prec => Sys2Proof.Machine.execFcvtf p fd fa fb prec s
  | .fcvtgs p fd fa fb prec => Sys2Proof.Machine.execFcvtgs p fd fa fb prec s
  | .fcvtgu p fd fa fb prec => Sys2Proof.Machine.execFcvtgu p fd fa fb prec s
  | .fcvtfs p fd fa fb prec => Sys2Proof.Machine.execFcvtfs p fd fa fb prec s
  | .fcvtfu p fd fa fb prec => Sys2Proof.Machine.execFcvtfu p fd fa fb prec s
  | .fmvgf p fd fa fb prec => Sys2Proof.Machine.execFmvgf p fd fa fb prec s
  | .fmvfg p fd fa fb prec => Sys2Proof.Machine.execFmvfg p fd fa fb prec s
  | .fmadd p fd fa fb fc prec resv ill => Sys2Proof.Machine.execFmadd p fd fa fb fc prec resv ill s
  | .fmsub p fd fa fb fc prec resv => Sys2Proof.Machine.execFmsub p fd fa fb fc prec resv s
  | .fnmsub p fd fa fb fc prec resv => Sys2Proof.Machine.execFnmsub p fd fa fb fc prec resv s
  | .fnmadd p fd fa fb fc prec resv => Sys2Proof.Machine.execFnmadd p fd fa fb fc prec resv s
  | .vadd p fd fa fb lane ill => Sys2Proof.Machine.execVadd p fd fa fb lane ill s
  | .vsub p fd fa fb lane => Sys2Proof.Machine.execVsub p fd fa fb lane s
  | .vmul p fd fa fb lane => Sys2Proof.Machine.execVmul p fd fa fb lane s
  | .vmins p fd fa fb lane => Sys2Proof.Machine.execVmins p fd fa fb lane s
  | .vminu p fd fa fb lane => Sys2Proof.Machine.execVminu p fd fa fb lane s
  | .vmaxs p fd fa fb lane => Sys2Proof.Machine.execVmaxs p fd fa fb lane s
  | .vmaxu p fd fa fb lane => Sys2Proof.Machine.execVmaxu p fd fa fb lane s
  | .vsll p fd fa fb lane => Sys2Proof.Machine.execVsll p fd fa fb lane s
  | .vsrl p fd fa fb lane => Sys2Proof.Machine.execVsrl p fd fa fb lane s
  | .vsra p fd fa fb lane => Sys2Proof.Machine.execVsra p fd fa fb lane s
  | .vaddss p fd fa fb lane => Sys2Proof.Machine.execVaddss p fd fa fb lane s
  | .vaddus p fd fa fb lane => Sys2Proof.Machine.execVaddus p fd fa fb lane s
  | .vand p fd fa fb lane => Sys2Proof.Machine.execVand p fd fa fb lane s
  | .vor p fd fa fb lane => Sys2Proof.Machine.execVor p fd fa fb lane s
  | .vxor p fd fa fb lane => Sys2Proof.Machine.execVxor p fd fa fb lane s
  | .vandn p fd fa fb lane => Sys2Proof.Machine.execVandn p fd fa fb lane s
  | .vceq p fd fa fb lane => Sys2Proof.Machine.execVceq p fd fa fb lane s
  | .vcgts p fd fa fb lane => Sys2Proof.Machine.execVcgts p fd fa fb lane s
  | .vcgtu p fd fa fb lane => Sys2Proof.Machine.execVcgtu p fd fa fb lane s
  | .vfadd p fd fa fb lane => Sys2Proof.Machine.execVfadd p fd fa fb lane s
  | .vfsub p fd fa fb lane => Sys2Proof.Machine.execVfsub p fd fa fb lane s
  | .vfmul p fd fa fb lane => Sys2Proof.Machine.execVfmul p fd fa fb lane s
  | .vfdiv p fd fa fb lane => Sys2Proof.Machine.execVfdiv p fd fa fb lane s
  | .vfmin p fd fa fb lane => Sys2Proof.Machine.execVfmin p fd fa fb lane s
  | .vfmax p fd fa fb lane => Sys2Proof.Machine.execVfmax p fd fa fb lane s
  | .vfceq p fd fa fb lane => Sys2Proof.Machine.execVfceq p fd fa fb lane s
  | .vfclt p fd fa fb lane => Sys2Proof.Machine.execVfclt p fd fa fb lane s
  | .vzipl p fd fa fb lane => Sys2Proof.Machine.execVzipl p fd fa fb lane s
  | .vziph p fd fa fb lane => Sys2Proof.Machine.execVziph p fd fa fb lane s
  | .vuzpe p fd fa fb lane => Sys2Proof.Machine.execVuzpe p fd fa fb lane s
  | .vuzpo p fd fa fb lane => Sys2Proof.Machine.execVuzpo p fd fa fb lane s
  | .vtbl p fd fa fb lane => Sys2Proof.Machine.execVtbl p fd fa fb lane s
  | .vdupg p fd fa fb lane => Sys2Proof.Machine.execVdupg p fd fa fb lane s
  | .vmovgl p fd fa fb lane => Sys2Proof.Machine.execVmovgl p fd fa fb lane s
  | .vinsg p fd fa fb lane => Sys2Proof.Machine.execVinsg p fd fa fb lane s
  | .fence p imm resv ill => Sys2Proof.Machine.execFence p imm resv ill s
  | .csync p imm resv => Sys2Proof.Machine.execCsync p imm resv s
  | .isync p imm resv => Sys2Proof.Machine.execIsync p imm resv s
  | .clrex p imm resv => Sys2Proof.Machine.execClrex p imm resv s
  | .wfi p imm resv => Sys2Proof.Machine.execWfi p imm resv s
  | .brk p imm resv => Sys2Proof.Machine.execBrk p imm resv s
  | .shield p imm resv => Sys2Proof.Machine.execShield p imm resv s
  | .shieldExpiry p => Sys2Proof.Machine.execShieldExpiry p s
  | .shieldDeferLimit p => Sys2Proof.Machine.execShieldDeferLimit p s
  | .mfc p rd ra crn ill => Sys2Proof.Machine.execMfc p rd ra crn ill s
  | .mtc p rd ra crn => Sys2Proof.Machine.execMtc p rd ra crn s
  | .mfco p rd ra crn => Sys2Proof.Machine.execMfco p rd ra crn s
  | .mtco p rd ra crn => Sys2Proof.Machine.execMtco p rd ra crn s
  | .peatcfgWrite p ra openCopy => Sys2Proof.Machine.execPeatcfgWrite p ra openCopy s
  | .specctlPflush p ra => Sys2Proof.Machine.execSpecctlPflush p ra s
  | .gcall p imm resv => Sys2Proof.Machine.execGcall p imm resv s
  | .gret p imm resv => Sys2Proof.Machine.execGret p imm resv s
  | .kcall p imm resv ill => Sys2Proof.Machine.execKcall p imm resv ill s
  | .eret p imm resv => Sys2Proof.Machine.execEret p imm resv s
  | .gate p imm resv ill => Sys2Proof.Machine.execGate p imm resv ill s
  | .gatemark p ill => Sys2Proof.Machine.execGatemark p ill s
  | .mispredictRedirect p => Sys2Proof.Machine.execMispredictRedirect p s
  | .speculativeReissue p line => Sys2Proof.Machine.execSpeculativeReissue p line s
  | .storeWriteL1d p idx e => Sys2Proof.Machine.execStoreWriteL1d p idx e s
  | .mergedLoadComplete p => Sys2Proof.Machine.execMergedLoadComplete p s
  | .snoopDeferExpiry p => Sys2Proof.Machine.execSnoopDeferExpiry p s
  | .interruptEntry p => Sys2Proof.Machine.execInterruptEntry p s
  | .nmiEvent p => Sys2Proof.Machine.execNmiEvent p s
  | .nmiEntry p => Sys2Proof.Machine.execNmiEntry p s
  | .nmiactClear p ra crn => Sys2Proof.Machine.execNmiactClear p ra crn s
  | .tableWalk p fetch va write => Sys2Proof.Machine.execTableWalk p fetch va write s
  | .l2Fill p line e => Sys2Proof.Machine.execL2Fill p line e s
  | .cinderRecall p line => Sys2Proof.Machine.execCinderRecall p line s
  | .remotePeatAccess src pa => Sys2Proof.Machine.execRemotePeatAccess src pa s
  | .homeTransactionStart sn pa dirErr llcErr => Sys2Proof.Machine.execHomeTransactionStart sn pa dirErr llcErr s
  | .getS a pa spec => Sys2Proof.Machine.execGetS a pa spec s
  | .getM a pa spec => Sys2Proof.Machine.execGetM a pa spec s
  | .upg a pa => Sys2Proof.Machine.execUpg a pa s
  | .readOnce a pa => Sys2Proof.Machine.execReadOnce a pa s
  | .writeUnique a pa => Sys2Proof.Machine.execWriteUnique a pa s
  | .writePtl a pa => Sys2Proof.Machine.execWritePtl a pa s
  | .putM a pa => Sys2Proof.Machine.execPutM a pa s
  | .putO a pa => Sys2Proof.Machine.execPutO a pa s
  | .putE a pa => Sys2Proof.Machine.execPutE a pa s
  | .cmoReq a pa => Sys2Proof.Machine.execCmoReq a pa s
  | .fwdGetS a pa e => Sys2Proof.Machine.execFwdGetS a pa e s
  | .fwdGetM a pa => Sys2Proof.Machine.execFwdGetM a pa s
  | .fwdReadOnce a pa => Sys2Proof.Machine.execFwdReadOnce a pa s
  | .inv a pa => Sys2Proof.Machine.execInv a pa s
  | .snpClean a pa => Sys2Proof.Machine.execSnpClean a pa s
  | .snpCleanInv a pa e => Sys2Proof.Machine.execSnpCleanInv a pa e s
  | .snpDiscard a pa => Sys2Proof.Machine.execSnpDiscard a pa s
  | .data a pa => Sys2Proof.Machine.execData a pa s
  | .roData a pa => Sys2Proof.Machine.execRoData a pa s
  | .ackCount a pa => Sys2Proof.Machine.execAckCount a pa s
  | .invAck a pa => Sys2Proof.Machine.execInvAck a pa s
  | .snpData sn pa => Sys2Proof.Machine.execSnpData sn pa s
  | .snpAck sn pa => Sys2Proof.Machine.execSnpAck sn pa s
  | .fwdMiss sn pa => Sys2Proof.Machine.execFwdMiss sn pa s
  | .unblock sn pa => Sys2Proof.Machine.execUnblock sn pa s
  | .putAck a pa => Sys2Proof.Machine.execPutAck a pa s
  | .stalePutAck a pa => Sys2Proof.Machine.execStalePutAck a pa s
  | .wrAck a pa => Sys2Proof.Machine.execWrAck a pa s
  | .cmoAck a pa => Sys2Proof.Machine.execCmoAck a pa s
  | .refuse a pa => Sys2Proof.Machine.execRefuse a pa s
  | .ncRead a pa => Sys2Proof.Machine.execNcRead a pa s
  | .ncWriteP a pa => Sys2Proof.Machine.execNcWriteP a pa s
  | .ncWriteO a pa => Sys2Proof.Machine.execNcWriteO a pa s
  | .ncData a => Sys2Proof.Machine.execNcData a s
  | .ncAck a => Sys2Proof.Machine.execNcAck a s
  | .ncErr a => Sys2Proof.Machine.execNcErr a s
  | .retry a => Sys2Proof.Machine.execRetry a s
  | .vc3Resend a pa => Sys2Proof.Machine.execVc3Resend a pa s
  | .tlbOp a => Sys2Proof.Machine.execTlbOp a s
  | .tlbAck a => Sys2Proof.Machine.execTlbAck a s
  | .intDeliver tgt => Sys2Proof.Machine.execIntDeliver tgt s
  | .redir a pa => Sys2Proof.Machine.execRedir a pa s
  | .bktXfer b => Sys2Proof.Machine.execBktXfer b s
  | .bktUpd b tn => Sys2Proof.Machine.execBktUpd b tn s
  | .bktAck b => Sys2Proof.Machine.execBktAck b s
  | .bucketMove who b v => Sys2Proof.Machine.execBucketMove who b v s
  | .bucketCopyStart b => Sys2Proof.Machine.execBucketCopyStart b s
  | .slCtlRetire who sn v => Sys2Proof.Machine.execSlCtlRetire who sn v s
  | .urgencyRaise tn input vc lane => Sys2Proof.Machine.execUrgencyRaise tn input vc lane s
  | .slotTableUpdate tn => Sys2Proof.Machine.execSlotTableUpdate tn s
  | .flitEccError tn o kind => Sys2Proof.Machine.execFlitEccError tn o kind s
  | .linkDownWrite who tn o v => Sys2Proof.Machine.execLinkDownWrite who tn o v s
  | .linkRetrain tn o pass => Sys2Proof.Machine.execLinkRetrain tn o pass s
  | .epochSwap who v => Sys2Proof.Machine.execEpochSwap who v s
  | .epochDrain0Done => Sys2Proof.Machine.execEpochDrain0Done s
  | .epochDrain1Done => Sys2Proof.Machine.execEpochDrain1Done s
  | .epochReleaseDone => Sys2Proof.Machine.execEpochReleaseDone s
  | .portDrain who tn q => Sys2Proof.Machine.execPortDrain who tn q s
  | .portDrainAck tn q => Sys2Proof.Machine.execPortDrainAck tn q s
  | .portFence who tn q => Sys2Proof.Machine.execPortFence who tn q s
  | .portOpen who tn q => Sys2Proof.Machine.execPortOpen who tn q s
  | .sliceSelfTestDone sn pass => Sys2Proof.Machine.execSliceSelfTestDone sn pass s
  | .channelServe k err => Sys2Proof.Machine.execChannelServe k err s
  | .bwWindowStart k => Sys2Proof.Machine.execBwWindowStart k s
  | .patrolScrubRead k err => Sys2Proof.Machine.execPatrolScrubRead k err s
  | .spareCopyStart who k v => Sys2Proof.Machine.execSpareCopyStart who k v s
  | .spareCopyDone k => Sys2Proof.Machine.execSpareCopyDone k s
  | .channelFail k => Sys2Proof.Machine.execChannelFail k s
  | .channelFailover who k => Sys2Proof.Machine.execChannelFailover who k s
  | .rejoin who k => Sys2Proof.Machine.execRejoin who k s
  | .resilverDone k => Sys2Proof.Machine.execResilverDone k s
  | .ilvLock who v => Sys2Proof.Machine.execIlvLock who v s
  | .gatekeeperCommit who k => Sys2Proof.Machine.execGatekeeperCommit who k s
  | .gatekeeperCommitDone k => Sys2Proof.Machine.execGatekeeperCommitDone k s
  | .generate who n => Sys2Proof.Machine.execGenerate who n s
  | .keyValid n => Sys2Proof.Machine.execKeyValid n s
  | .erase who n => Sys2Proof.Machine.execErase who n s
  | .interruptSourceEvent intid level => Sys2Proof.Machine.execInterruptSourceEvent intid level s
  | .idistSrcCfgWrite who intid v => Sys2Proof.Machine.execIdistSrcCfgWrite who intid v s
  | .idistTgtCfgWrite who t v => Sys2Proof.Machine.execIdistTgtCfgWrite who t v s
  | .setpend who intid => Sys2Proof.Machine.execSetpend who intid s
  | .clrpend who intid => Sys2Proof.Machine.execClrpend who intid s
  | .idistAck p page => Sys2Proof.Machine.execIdistAck p page s
  | .idistEoi p page v => Sys2Proof.Machine.execIdistEoi p page v s
  | .idistSgi p page v => Sys2Proof.Machine.execIdistSgi p page v s
  | .ctTimerFire t page => Sys2Proof.Machine.execCtTimerFire t page s
  | .iotuRequest stream iova write data => Sys2Proof.Machine.execIotuRequest stream iova write data s
  | .iotuCtxInv who c v => Sys2Proof.Machine.execIotuCtxInv who c v s
  | .iotuCtxCfgWrite who c v => Sys2Proof.Machine.execIotuCtxCfgWrite who c v s
  | .iotuInvComplete c => Sys2Proof.Machine.execIotuInvComplete c s
  | .claimChange who idx v => Sys2Proof.Machine.execClaimChange who idx v s
  | .debugAccess req => Sys2Proof.Machine.execDebugAccess req s
  | .debugSample p => Sys2Proof.Machine.execDebugSample p s
  | .debugHaltRequest p => Sys2Proof.Machine.execDebugHaltRequest p s
  | .debugHalt p => Sys2Proof.Machine.execDebugHalt p s
  | .twinForm who k => Sys2Proof.Machine.execTwinForm who k s
  | .twinDissolve who k => Sys2Proof.Machine.execTwinDissolve who k s
  | .groupAgreed k n => Sys2Proof.Machine.execGroupAgreed k n s
  | .twinMismatch k kind => Sys2Proof.Machine.execTwinMismatch k kind s
  | .replayEnd k => Sys2Proof.Machine.execReplayEnd k s
  | .frameReceive port bytes fcsOk => Sys2Proof.Machine.execFrameReceive port bytes fcsOk s
  | .classifierLookup port => Sys2Proof.Machine.execClassifierLookup port s
  | .linkStateChange port up => Sys2Proof.Machine.execLinkStateChange port up s
  | .portFailover who port => Sys2Proof.Machine.execPortFailover who port s
  | .autoFailover port => Sys2Proof.Machine.execAutoFailover port s
  | .portRestore who port => Sys2Proof.Machine.execPortRestore who port s
  | .restoreSwitch port => Sys2Proof.Machine.execRestoreSwitch port s
  | .queueEnable who q => Sys2Proof.Machine.execQueueEnable who q s
  | .queueStop who q => Sys2Proof.Machine.execQueueStop who q s
  | .queueDrainDone q => Sys2Proof.Machine.execQueueDrainDone q s
  | .descriptorDoorbell who fn j v => Sys2Proof.Machine.execDescriptorDoorbell who fn j v s
  | .completionDoorbell who fn j v => Sys2Proof.Machine.execCompletionDoorbell who fn j v s
  | .descriptorFetch q => Sys2Proof.Machine.execDescriptorFetch q s
  | .txDataRead q => Sys2Proof.Machine.execTxDataRead q s
  | .frameReady q => Sys2Proof.Machine.execFrameReady q s
  | .frameStart port => Sys2Proof.Machine.execFrameStart port s
  | .launchDeadline q => Sys2Proof.Machine.execLaunchDeadline q s
  | .completionWrite q => Sys2Proof.Machine.execCompletionWrite q s
  | .gclCommit who port => Sys2Proof.Machine.execGclCommit who port s
  | .gclActivate port => Sys2Proof.Machine.execGclActivate port s
  | .gateChange port => Sys2Proof.Machine.execGateChange port s
  | .preemptVerify port ok => Sys2Proof.Machine.execPreemptVerify port ok s
  | .safeFrameRepeat port => Sys2Proof.Machine.execSafeFrameRepeat port s
  | .fnCfgWrite who n v => Sys2Proof.Machine.execFnCfgWrite who n v s
  | .functionEnable who n => Sys2Proof.Machine.execFunctionEnable who n s
  | .functionEnabled n => Sys2Proof.Machine.execFunctionEnabled n s
  | .functionDisable who n => Sys2Proof.Machine.execFunctionDisable who n s
  | .functionReset who n => Sys2Proof.Machine.execFunctionReset who n s
  | .functionDisabled n => Sys2Proof.Machine.execFunctionDisabled n s
  | .functionStuck n => Sys2Proof.Machine.execFunctionStuck n s
  | .spInboundRequest r => Sys2Proof.Machine.execSpInboundRequest r s
  | .windowCommit who => Sys2Proof.Machine.execWindowCommit who s
  | .windowCommitDone => Sys2Proof.Machine.execWindowCommitDone s
  | .spLinkReset kind => Sys2Proof.Machine.execSpLinkReset kind s
  | .spPerst level => Sys2Proof.Machine.execSpPerst level s
  | .hostDoorbell v => Sys2Proof.Machine.execHostDoorbell v s
  | .hintSet who v => Sys2Proof.Machine.execHintSet who v s
  | .hostConfigAccess write size off v => Sys2Proof.Machine.execHostConfigAccess write size off v s
  | .expansionRomRead off => Sys2Proof.Machine.execExpansionRomRead off s
  | .rpOutboundRequest k => Sys2Proof.Machine.execRpOutboundRequest k s
  | .rpCompletion k tag status data => Sys2Proof.Machine.execRpCompletion k tag status data s
  | .completionTimeout k => Sys2Proof.Machine.execCompletionTimeout k s
  | .rpInboundRequest k r => Sys2Proof.Machine.execRpInboundRequest k r s
  | .presenceChange k present => Sys2Proof.Machine.execPresenceChange k present s
  | .attentionButton k => Sys2Proof.Machine.execAttentionButton k s
  | .slotControlWrite who k v => Sys2Proof.Machine.execSlotControlWrite who k v s
  | .surpriseDown k => Sys2Proof.Machine.execSurpriseDown k s
  | .dpcTrigger k => Sys2Proof.Machine.execDpcTrigger k s
  | .containmentClear who k => Sys2Proof.Machine.execContainmentClear who k s
  | .firebreakEvent src cls detail => Sys2Proof.Machine.execFirebreakEvent src cls detail s
  | .watchExpiry w => Sys2Proof.Machine.execWatchExpiry w s
  | .watchAck who w v => Sys2Proof.Machine.execWatchAck who w v s
  | .pinRelease who v => Sys2Proof.Machine.execPinRelease who v s
  | .pinMinEnd => Sys2Proof.Machine.execPinMinEnd s
  | .safeRequest who => Sys2Proof.Machine.execSafeRequest who s
  | .safeNsafeAssert => Sys2Proof.Machine.execSafeNsafeAssert s
  | .safeSelfRefresh k => Sys2Proof.Machine.execSafeSelfRefresh k s
  | .backgroundVoteCheck off m0 m1 m2 => Sys2Proof.Machine.execBackgroundVoteCheck off m0 m1 m2 s
  | .park who c => Sys2Proof.Machine.execPark who c s
  | .parkDone c => Sys2Proof.Machine.execParkDone c s
  | .resume who c => Sys2Proof.Machine.execResume who c s
  | .start who c => Sys2Proof.Machine.execStart who c s
  | .bist who c => Sys2Proof.Machine.execBist who c s
  | .bistDone c pass => Sys2Proof.Machine.execBistDone c pass s
  | .poweron who c => Sys2Proof.Machine.execPoweron who c s
  | .poweroff who c => Sys2Proof.Machine.execPoweroff who c s
  | .powerOnReset => Sys2Proof.Machine.execPowerOnReset s
  | .supplyReset => Sys2Proof.Machine.execSupplyReset s
  | .islandReset => Sys2Proof.Machine.execIslandReset s
  | .chipReset => Sys2Proof.Machine.execChipReset s
  | .resetEffect => Sys2Proof.Machine.execResetEffect s
  | .bootSequence b => Sys2Proof.Machine.execBootSequence b s
  | .mapcore c => Sys2Proof.Machine.execMapcore c s
  | .twin c => Sys2Proof.Machine.execTwin c s
  | .quietd0 c => Sys2Proof.Machine.execQuietd0 c s
  | .reset c => Sys2Proof.Machine.execReset c s
  | .safe c => Sys2Proof.Machine.execSafe c s
  | .stage c => Sys2Proof.Machine.execStage c s
  | .activate c => Sys2Proof.Machine.execActivate c s
  | .confirm c => Sys2Proof.Machine.execConfirm c s
  | .dbgreq c => Sys2Proof.Machine.execDbgreq c s
  | .svnraise c => Sys2Proof.Machine.execSvnraise c s
  | .kilnConfirm who v => Sys2Proof.Machine.execKilnConfirm who v s
  | .sbcRstChip who => Sys2Proof.Machine.execSbcRstChip who s
  | .sbcRstIsland who => Sys2Proof.Machine.execSbcRstIsland who s
  | .jtagDebugRequest bytes => Sys2Proof.Machine.execJtagDebugRequest bytes s
  | .ledgerEntry => Sys2Proof.Machine.execLedgerEntry s
  | .ledgerMirrorCopy => Sys2Proof.Machine.execLedgerMirrorCopy s
  | .mirrorAbandon => Sys2Proof.Machine.execMirrorAbandon s
  | .ashRecordEvent => Sys2Proof.Machine.execAshRecordEvent s
  | .ashFreeze who => Sys2Proof.Machine.execAshFreeze who s
  | .ashUnfreeze who => Sys2Proof.Machine.execAshUnfreeze who s
  | .ashTriggerFreeze => Sys2Proof.Machine.execAshTriggerFreeze s
  | .softwareEvent who v => Sys2Proof.Machine.execSoftwareEvent who v s
  | .powerFailWarning => Sys2Proof.Machine.execPowerFailWarning s
  | .flushDone => Sys2Proof.Machine.execFlushDone s
  | .setvWrite who r v => Sys2Proof.Machine.execSetvWrite who r v s
  | .railOn who r => Sys2Proof.Machine.execRailOn who r s
  | .railOff who r => Sys2Proof.Machine.execRailOff who r s
  | .railSample r mv ma => Sys2Proof.Machine.execRailSample r mv ma s
  | .tempSample n temp => Sys2Proof.Machine.execTempSample n temp s
  | .pmbusAlert => Sys2Proof.Machine.execPmbusAlert s
  | .fieldRefclkLoss east => Sys2Proof.Machine.execFieldRefclkLoss east s
  | .rpLinkUp k => Sys2Proof.Machine.execRpLinkUp k s
  | .spLinkUp width speed => Sys2Proof.Machine.execSpLinkUp width speed s
  | .channelRetrain k pass => Sys2Proof.Machine.execChannelRetrain k pass s

end Sys2Proof.Machine
end

