-- ==== Sys2Proof/Safety.lean ====
section
/-! DEFINITION. The terms in which claims speak of a run: when a core's next instruction is fetched and may act, the state
after it retires, and the canonical form of DRAM. -/

namespace Sys2Proof.Machine

/-- Core `p` can execute, neither the NMI nor an interrupt comes first (R142), nothing of an earlier offer is left over, no
late abort waits, and the fetch of the instruction at its program counter succeeds: what the instruction sees, and the state
after the fetch. -/
def fetched (p : Nat) (s : State) : Option (Ctx × State) :=
  if isCore p then
    match ready p s with
    | some (x, s1) =>
      if s.due p = false ∧ (s1.core p).busy = .idle ∧ (s1.core p).lateAbort = none then
        match fetchCheck x s1 with
        | .ok _ s2 => some (x, s2)
        | .error _ _ => none
      else none
    | none => none
  else none

/-- The state after an instruction that changes its core by `f` and then retires by `flow` (R68, R138). -/
def State.after (s : State) (x : Ctx) (f : Core → Core) (flow : Flow) : State :=
  s.modCore x.p (fun c => (f c).finish x (s.leads x.p) flow)

/-- The instruction raises a synchronous exception, which its core takes (R140–R146). -/
def State.takes (s : State) (x : Ctx) (e : Exc) : Host.Outcome State Fault Refusal := settle (takeExc x e) s

/-- The instruction is illegal (R56). -/
def State.illegal (s : State) (x : Ctx) : Host.Outcome State Fault Refusal := s.takes x { cause := 0x00 }

/-- The address of a data access hits one TLB entry that grants it (R192, R200): physical address and memory type. -/
def State.granted (s : State) (x : Ctx) (n : Need) (va pa mt : Nat) : Prop :=
  va < 2 ^ 48 ∧ ∃ t, (s.core x.p).tlbHits false (regimeOf x x.world x.level) va = [t] ∧ permit t x.level n = none ∧
    t.out va = pa ∧ t.mt = mt

/-- The core holds a line of populated DRAM in its L2 and L1D for the world and domain of the access (R218), no refusal of it
is outstanding (R290), no storage error waits in its caches (R586), and nothing of it has been read ahead (R249). -/
def State.heldFor (s : State) (x : Ctx) (pa : Nat) (l : PLine) : Prop :=
  place pa = .dram ∧ s.dramOk pa = true ∧ (s.core x.p).line pa = some l ∧ l.world = x.world ∧ l.dom = x.dom ∧
    l.way.isSome = true ∧ (s.core x.p).refused.contains (lineOf pa) = false ∧ (s.core x.p).l1dHit x.world x.dom pa = true ∧
    (s.core x.p).flaws = [] ∧ tfind (s.core x.p).early (lineOf pa) = none

/-- The core after a hit on a line: what it had noted or read of the line ahead of the access is dropped (R127, R248). -/
def Core.touched (c : Core) (pa : Nat) : Core :=
  { c with specRefused := c.specRefused.erase (lineOf pa), early := tdel c.early (lineOf pa) }

/-- No queued store touches the bytes. -/
def State.noStoreTo (s : State) (p pa size : Nat) : Prop := ∀ e ∈ (s.core p).sq, e.overlaps pa size = false

/-- The mesh takes every message as it is: no port is fenced (R319), and no link was down when its tables became active
(R317). -/
def State.meshCalm (s : State) : Prop := s.anyFence = false ∧ s.linkOld = []

/-- The state with a message on the mesh, injected where the epoch allows it (R316). -/
def State.posted (s : State) (m : Msg) : State :=
  { s with net := s.net ++ [{ m with atR := none, urg := 0, at15 := 0, waits := false, inj := s.mayInject m }] }

/-- No delay slot is pending at core `p`. -/
def State.noSlot (s : State) (p : Nat) : Prop := (s.core p).arch.slot = none

/-- DRAM stands in its canonical form. -/
def State.memCanonical (s : State) : Prop := Memory.wf s.mem = true

/-- The core of an instruction that may not stand in a delay slot (R71): branches, jumps, BLK, CMO, TLBM, every SYS form but
FENCE, every PRIV form. -/
def barredCore : Instr → Option Nat
  | .beq q _ _ _ _ _ _ => some q
  | .bne q _ _ _ _ _ => some q
  | .blt q _ _ _ _ _ => some q
  | .bge q _ _ _ _ _ => some q
  | .bltu q _ _ _ _ _ => some q
  | .bgeu q _ _ _ _ _ => some q
  | .j q _ _ _ => some q
  | .jal q _ _ => some q
  | .jr q _ _ _ _ _ => some q
  | .jalr q _ _ _ _ => some q
  | .ret q _ _ _ _ => some q
  | .bcopy q _ _ _ _ _ => some q
  | .bfill q _ _ _ => some q
  | .dcleanP q _ _ _ => some q
  | .dinvP q _ _ _ => some q
  | .dclinvP q _ _ _ => some q
  | .dcleanM q _ _ _ => some q
  | .dinvM q _ _ _ => some q
  | .dclinvM q _ _ _ => some q
  | .dzero q _ _ _ _ => some q
  | .prefr q _ _ _ => some q
  | .prefw q _ _ _ => some q
  | .rcleanP q _ _ _ => some q
  | .rinvP q _ _ _ => some q
  | .rclinvP q _ _ _ => some q
  | .rcleanM q _ _ _ => some q
  | .rinvM q _ _ _ => some q
  | .rclinvM q _ _ _ => some q
  | .rstat q _ _ _ => some q
  | .rabort q _ _ _ => some q
  | .tlbiva q _ _ _ _ _ => some q
  | .tlbivaa q _ _ _ _ => some q
  | .tlbiasid q _ _ _ _ => some q
  | .tlbivmall q _ _ _ _ => some q
  | .tlbivmid q _ _ _ _ => some q
  | .tlbihva q _ _ _ _ => some q
  | .tlbihall q _ _ _ _ => some q
  | .tlbiworld q _ _ _ _ => some q
  | .tlbsync q _ _ _ _ => some q
  | .csync q _ _ => some q
  | .isync q _ _ => some q
  | .clrex q _ _ => some q
  | .wfi q _ _ => some q
  | .brk q _ _ => some q
  | .shield q _ _ => some q
  | .gcall q _ _ => some q
  | .gret q _ _ => some q
  | .kcall q _ _ _ => some q
  | .eret q _ _ => some q
  | .gate q _ _ _ => some q
  | _ => none

/-- The core whose next instruction the command is; none for every other command. -/
def insnCore : Instr → Option Nat
  | .add q _ _ _ _ => some q
  | .sub q _ _ _ => some q
  | .and q _ _ _ => some q
  | .or q _ _ _ => some q
  | .xor q _ _ _ => some q
  | .andn q _ _ _ => some q
  | .orn q _ _ _ => some q
  | .sll q _ _ _ => some q
  | .srl q _ _ _ => some q
  | .sra q _ _ _ => some q
  | .ror q _ _ _ => some q
  | .slt q _ _ _ => some q
  | .sltu q _ _ _ => some q
  | .min q _ _ _ => some q
  | .max q _ _ _ => some q
  | .addw q _ _ _ => some q
  | .subw q _ _ _ => some q
  | .sllw q _ _ _ => some q
  | .srlw q _ _ _ => some q
  | .sraw q _ _ _ => some q
  | .clz q _ _ _ => some q
  | .ctz q _ _ _ => some q
  | .popc q _ _ _ => some q
  | .bswap q _ _ _ => some q
  | .sextb q _ _ _ => some q
  | .sexth q _ _ _ => some q
  | .sextw q _ _ _ => some q
  | .addi q _ _ _ _ => some q
  | .andi q _ _ _ => some q
  | .ori q _ _ _ => some q
  | .xori q _ _ _ => some q
  | .slti q _ _ _ => some q
  | .sltiu q _ _ _ => some q
  | .lui q _ _ _ => some q
  | .addpci q _ _ _ => some q
  | .slli q _ _ _ _ => some q
  | .srli q _ _ _ => some q
  | .srai q _ _ _ => some q
  | .rori q _ _ _ => some q
  | .slliw q _ _ _ => some q
  | .srliw q _ _ _ => some q
  | .sraiw q _ _ _ => some q
  | .mlo q _ _ _ _ => some q
  | .mlow q _ _ _ => some q
  | .mhuu q _ _ _ => some q
  | .mhss q _ _ _ => some q
  | .mhsu q _ _ _ => some q
  | .div q _ _ _ _ => some q
  | .divu q _ _ _ => some q
  | .rem q _ _ _ => some q
  | .remu q _ _ _ => some q
  | .divw q _ _ _ => some q
  | .divuw q _ _ _ => some q
  | .remw q _ _ _ => some q
  | .remuw q _ _ _ => some q
  | .ldb q _ _ _ _ => some q
  | .ldbu q _ _ _ _ => some q
  | .ldh q _ _ _ _ => some q
  | .ldhu q _ _ _ _ => some q
  | .ldw q _ _ _ _ => some q
  | .ldwu q _ _ _ _ => some q
  | .ldd q _ _ _ _ _ => some q
  | .stb q _ _ _ => some q
  | .sth q _ _ _ => some q
  | .stw q _ _ _ => some q
  | .std q _ _ _ _ => some q
  | .fld q _ _ _ _ _ _ => some q
  | .fst q _ _ _ _ => some q
  | .beq q _ _ _ _ _ _ => some q
  | .bne q _ _ _ _ _ => some q
  | .blt q _ _ _ _ _ => some q
  | .bge q _ _ _ _ _ => some q
  | .bltu q _ _ _ _ _ => some q
  | .bgeu q _ _ _ _ _ => some q
  | .j q _ _ _ => some q
  | .jal q _ _ => some q
  | .jr q _ _ _ _ _ => some q
  | .jalr q _ _ _ _ => some q
  | .ret q _ _ _ _ => some q
  | .lda q _ _ _ _ _ _ _ _ _ => some q
  | .stl q _ _ _ _ _ _ _ => some q
  | .ldx q _ _ _ _ _ _ _ _ => some q
  | .stx q _ _ _ _ _ _ _ _ => some q
  | .atswp q _ _ _ _ _ _ _ _ => some q
  | .atadd q _ _ _ _ _ _ _ _ _ => some q
  | .atclr q _ _ _ _ _ _ _ _ => some q
  | .atset q _ _ _ _ _ _ _ _ => some q
  | .atflp q _ _ _ _ _ _ _ _ => some q
  | .atsmax q _ _ _ _ _ _ _ _ => some q
  | .atsmin q _ _ _ _ _ _ _ _ => some q
  | .atumax q _ _ _ _ _ _ _ _ => some q
  | .atumin q _ _ _ _ _ _ _ _ => some q
  | .atcas q _ _ _ _ _ _ _ _ => some q
  | .bcopy q _ _ _ _ _ => some q
  | .bfill q _ _ _ => some q
  | .dcleanP q _ _ _ => some q
  | .dinvP q _ _ _ => some q
  | .dclinvP q _ _ _ => some q
  | .dcleanM q _ _ _ => some q
  | .dinvM q _ _ _ => some q
  | .dclinvM q _ _ _ => some q
  | .dzero q _ _ _ _ => some q
  | .prefr q _ _ _ => some q
  | .prefw q _ _ _ => some q
  | .rcleanP q _ _ _ => some q
  | .rinvP q _ _ _ => some q
  | .rclinvP q _ _ _ => some q
  | .rcleanM q _ _ _ => some q
  | .rinvM q _ _ _ => some q
  | .rclinvM q _ _ _ => some q
  | .rstat q _ _ _ => some q
  | .rabort q _ _ _ => some q
  | .tlbiva q _ _ _ _ _ => some q
  | .tlbivaa q _ _ _ _ => some q
  | .tlbiasid q _ _ _ _ => some q
  | .tlbivmall q _ _ _ _ => some q
  | .tlbivmid q _ _ _ _ => some q
  | .tlbihva q _ _ _ _ => some q
  | .tlbihall q _ _ _ _ => some q
  | .tlbiworld q _ _ _ _ => some q
  | .tlbsync q _ _ _ _ => some q
  | .fadd q _ _ _ _ _ => some q
  | .fsub q _ _ _ _ => some q
  | .fmul q _ _ _ _ => some q
  | .fdiv q _ _ _ _ => some q
  | .fsqrt q _ _ _ _ => some q
  | .fmin q _ _ _ _ => some q
  | .fmax q _ _ _ _ => some q
  | .fneg q _ _ _ _ => some q
  | .fabs q _ _ _ _ => some q
  | .fcpys q _ _ _ _ => some q
  | .fcmpeq q _ _ _ _ => some q
  | .fcmplt q _ _ _ _ => some q
  | .fcmple q _ _ _ _ => some q
  | .fkind q _ _ _ _ => some q
  | .fcmpun q _ _ _ _ => some q
  | .fcvtf q _ _ _ _ => some q
  | .fcvtgs q _ _ _ _ => some q
  | .fcvtgu q _ _ _ _ => some q
  | .fcvtfs q _ _ _ _ => some q
  | .fcvtfu q _ _ _ _ => some q
  | .fmvgf q _ _ _ _ => some q
  | .fmvfg q _ _ _ _ => some q
  | .fmadd q _ _ _ _ _ _ _ => some q
  | .fmsub q _ _ _ _ _ _ => some q
  | .fnmsub q _ _ _ _ _ _ => some q
  | .fnmadd q _ _ _ _ _ _ => some q
  | .vadd q _ _ _ _ _ => some q
  | .vsub q _ _ _ _ => some q
  | .vmul q _ _ _ _ => some q
  | .vmins q _ _ _ _ => some q
  | .vminu q _ _ _ _ => some q
  | .vmaxs q _ _ _ _ => some q
  | .vmaxu q _ _ _ _ => some q
  | .vsll q _ _ _ _ => some q
  | .vsrl q _ _ _ _ => some q
  | .vsra q _ _ _ _ => some q
  | .vaddss q _ _ _ _ => some q
  | .vaddus q _ _ _ _ => some q
  | .vand q _ _ _ _ => some q
  | .vor q _ _ _ _ => some q
  | .vxor q _ _ _ _ => some q
  | .vandn q _ _ _ _ => some q
  | .vceq q _ _ _ _ => some q
  | .vcgts q _ _ _ _ => some q
  | .vcgtu q _ _ _ _ => some q
  | .vfadd q _ _ _ _ => some q
  | .vfsub q _ _ _ _ => some q
  | .vfmul q _ _ _ _ => some q
  | .vfdiv q _ _ _ _ => some q
  | .vfmin q _ _ _ _ => some q
  | .vfmax q _ _ _ _ => some q
  | .vfceq q _ _ _ _ => some q
  | .vfclt q _ _ _ _ => some q
  | .vzipl q _ _ _ _ => some q
  | .vziph q _ _ _ _ => some q
  | .vuzpe q _ _ _ _ => some q
  | .vuzpo q _ _ _ _ => some q
  | .vtbl q _ _ _ _ => some q
  | .vdupg q _ _ _ _ => some q
  | .vmovgl q _ _ _ _ => some q
  | .vinsg q _ _ _ _ => some q
  | .fence q _ _ _ => some q
  | .csync q _ _ => some q
  | .isync q _ _ => some q
  | .clrex q _ _ => some q
  | .wfi q _ _ => some q
  | .brk q _ _ => some q
  | .shield q _ _ => some q
  | .mfc q _ _ _ _ => some q
  | .mtc q _ _ _ => some q
  | .mfco q _ _ _ => some q
  | .mtco q _ _ _ => some q
  | .peatcfgWrite q _ _ => some q
  | .specctlPflush q _ => some q
  | .gcall q _ _ => some q
  | .gret q _ _ => some q
  | .kcall q _ _ _ => some q
  | .eret q _ _ => some q
  | .gate q _ _ _ => some q
  | .gatemark q _ => some q
  | .mergedLoadComplete q => some q
  | .nmiactClear q _ _ => some q
  | _ => none

/-! Messages. -/

/-- The messages meet the descriptions, one each, in order. -/
def allMeet : List (Msg → Prop) → List Msg → Prop
  | [], [] => True
  | f :: fs, m :: ms => f m ∧ allMeet fs ms
  | _, _ => False

/-- From `s` to `t`, messages of these descriptions and no others went onto the mesh, behind those already there. -/
def State.sends (s t : State) (fs : List (Msg → Prop)) : Prop := ∃ ms, t.net = s.net ++ ms ∧ allMeet fs ms

/-- The message is of an opcode, for a line, to a node. -/
def Msg.isTo (k : Msg) (o : Opc) (pa : Nat) (d : Node) : Prop := k.opc = o ∧ k.pa = pa ∧ k.dst = d

/-- The row of the table that delivers a VC0 coherence request. -/
def reqRowOf (o : Opc) (a pa : Nat) : Option Instr :=
  match o with
  | .getS => some (.getS a pa false)
  | .getM => some (.getM a pa false)
  | .upg => some (.upg a pa)
  | .readOnce => some (.readOnce a pa)
  | .writeUnique => some (.writeUnique a pa)
  | .writePtl => some (.writePtl a pa)
  | .putM => some (.putM a pa)
  | .putO => some (.putO a pa)
  | .putE => some (.putE a pa)
  | .cmoReq => some (.cmoReq a pa)
  | _ => none

/-- The command delivers the request `m` to the home at slice `sn`, out of the mesh, and no more urgent one comes first (R314);
`s1` is the state without it. -/
def State.brings (s : State) (c : Instr) (sn : Nat) (m : Msg) (s1 : State) : Prop :=
  reqRowOf m.opc m.src m.pa = some c ∧ agentIdOk m.src = true ∧ lineOf m.pa = m.pa ∧ m.dst = .home sn ∧
    s.recv (fun k => k.opc == m.opc && k.src == m.src && k.pa == m.pa) = some (m, s1) ∧ s1.urgentFirst m = true

/-- The command offers the request `m` to the home at slice `sn`: it delivers it with no older one of its line queued, or
takes it from the home queue. -/
def State.offers (s : State) (c : Instr) (sn : Nat) (m : Msg) (s1 : State) : Prop :=
  (s.brings c sn m s1 ∧ (tget [] s.hq sn).any (fun k => k.pa == m.pa) = false) ∨
  (c = .homeTransactionStart sn m.pa .none .none ∧ sn < 256 ∧ lineOf m.pa = m.pa ∧
    (tget [] s.hq sn).find? (fun k => k.pa == m.pa) = some m ∧ s1 = { s with hq := tput s.hq sn ((tget [] s.hq sn).erase m) })

/-- The bucket of the line is at slice `sn` and does not move, and no transaction holds the line. -/
def State.homeClear (s : State) (sn pa : Nat) : Prop :=
  s.fget ⟨.slBkt, bucketOf pa, 0⟩ slBkt_SN = sn ∧ s.fget ⟨.slBkt, bucketOf pa, 0⟩ slBkt_STATE = 0 ∧ s.lineHeld sn pa = false

/-- The gatekeeper passes the request (R279). -/
def State.homeGrants (s : State) (m : Msg) : Prop :=
  s.dramOk m.pa = true ∧ s.verdict (s.dramGate m.pa) m.world m.dom (needs m).1 (needs m).2 m.pa 64 = none

/-- A transaction for the line is open at the slice: what it waits for, and the directory entry that takes effect when it
closes. -/
def State.opened (s : State) (sn : Nat) (m : Msg) (ph : TPhase) (after : Option DirEnt) : Prop :=
  ∃ x, tfind s.txns (sn, m.pa) = some x ∧ x.msg = m ∧ x.phase = ph ∧ x.after = after

/-- A message waits at agent `a`: the oldest of its opcode and line for it. -/
def State.waitsAt (s : State) (o : Opc) (a : Nat) (m : Msg) (s1 : State) : Prop :=
  m.opc = o ∧ lineOf m.pa = m.pa ∧ s.recv (fun k => k.opc == o && decide (k.dst = .agent a) && k.pa == m.pa) = some (m, s1)

/-! Configuration registers. -/

/-- The agent has every right to the register, in its global part or through bank 0 (R44, R49), the Ledger takes an entry now
(R549), and the hardware has set no bit of the register in the present cycle (R7). -/
def State.mayWrite (s : State) (who : Agent) (r : Reg) : Prop :=
  agentOk who = true ∧ s.ledgFree = true ∧ tget 0 s.setNow r = 0 ∧ ∃ pl, placeOfReg r = some pl ∧
    match pl.win with
    | none => globalRights (s.accOf who) r = some allFields
    | some (k, i) => (s.accOf who).owns 0 = true ∧ s.selStatus pl.blk 0 k i = 0 ∧
      tget 0 s.setNow ⟨.sel, blkNum pl.blk, 0⟩ = 0

/-- The bits of a register that the hardware has set in the present cycle are W1C bits (R7). -/
def State.onlyW1cSet (s : State) (r : Reg) : Prop :=
  ∀ f ∈ fields r.name, f.ty ≠ .w1c → fld (tget 0 s.setNow r) f = 0

/-- Firebreak holds an event of the source and class that it has not yet taken (R489). -/
def State.reported (s : State) (src : Nat) (cls : FbClass) : Prop := ∃ e ∈ s.fbq, e.src = src ∧ e.cls = cls

/-- Registers without an effect of their own: a write sets their fields by the Type codes alone (R6). -/
def plainRegs : List RegName :=
  [.clkPll, .pwrTherm, .coreEntry, .idistTgtStat, .iotuSte, .slHqcfg, .meshStat, .mcScrub, .mcTiming, .mgRgnBase,
   .mgRgnLimit, .mgRgnDom, .fxQbvBase, .fxQbvCycle, .fxQbvEnt, .fxQDbase, .fxQCbase, .fxQHdr, .spCtl, .rpMsiaddr, .fbPinmin,
   .ledgStat, .ashStat, .sbcClaimStat, .sbcCaparg, .sbcCapval]

/-- The block takes a write of such a register now: a port's while its lane is not lent (R406), a queue's in `QDISABLED`
(R412). -/
def State.plainNow (s : State) (r : Reg) : Bool :=
  if r.name ∈ [.fxQbvBase, .fxQbvCycle, .fxQbvEnt] then s.portState r.i != 2
  else if r.name ∈ [.fxQDbase, .fxQCbase, .fxQHdr] then s.qState r.i == 0
  else true

end Sys2Proof.Machine
end

