-- ==== Sys2Proof/Certificates/Slice0/Obligations.lean ====
section
/-! DEFINITION. The statements for the provers. -/

open Sys2Proof Sys2Proof.Machine

/-! Integer instructions (R55, R58–R62). -/

/-- R58: the register forms of major 0x01. A reserved func value, and a non-zero rb of the forms that need 0, is illegal. -/
def Obligations.AluRegisterResults : Prop :=
  ∀ (p : Nat) (rd ra rb : RegNo) (s s2 : State) (x : Ctx), fetched p s = some (x, s2) →
    let a : Word := (s2.core p).g ra
    let b : Word := (s2.core p).g rb
    let gets : Word → Host.Outcome State Fault Refusal := fun v => .next (s2.after x (fun c => c.setG rd v) .seq)
    exec (.add p rd ra rb false) s = gets (a + b) ∧
    exec (.sub p rd ra rb) s = gets (a - b) ∧
    exec (.and p rd ra rb) s = gets (a &&& b) ∧
    exec (.or p rd ra rb) s = gets (a ||| b) ∧
    exec (.xor p rd ra rb) s = gets (a ^^^ b) ∧
    exec (.andn p rd ra rb) s = gets (a &&& ~~~b) ∧
    exec (.orn p rd ra rb) s = gets (a ||| ~~~b) ∧
    exec (.sll p rd ra rb) s = gets (a <<< (b.toNat % 64)) ∧
    exec (.srl p rd ra rb) s = gets (a >>> (b.toNat % 64)) ∧
    exec (.sra p rd ra rb) s = gets (a.sshiftRight (b.toNat % 64)) ∧
    exec (.ror p rd ra rb) s = gets (a.rotateRight (b.toNat % 64)) ∧
    exec (.slt p rd ra rb) s = gets (if a.toInt < b.toInt then 1 else 0) ∧
    exec (.sltu p rd ra rb) s = gets (if a.toNat < b.toNat then 1 else 0) ∧
    exec (.min p rd ra rb) s = gets (if a.toInt ≤ b.toInt then a else b) ∧
    exec (.max p rd ra rb) s = gets (if a.toInt ≤ b.toInt then b else a) ∧
    exec (.addw p rd ra rb) s = gets (((a + b).setWidth 32).signExtend 64) ∧
    exec (.subw p rd ra rb) s = gets (((a - b).setWidth 32).signExtend 64) ∧
    exec (.sllw p rd ra rb) s = gets ((a.setWidth 32 <<< (b.toNat % 32)).signExtend 64) ∧
    exec (.srlw p rd ra rb) s = gets ((a.setWidth 32 >>> (b.toNat % 32)).signExtend 64) ∧
    exec (.sraw p rd ra rb) s = gets (((a.setWidth 32).sshiftRight (b.toNat % 32)).signExtend 64) ∧
    (∃ n, exec (.clz p rd ra 0) s = gets (BitVec.ofNat 64 n) ∧ n ≤ 64 ∧
      (∀ i, 64 - n ≤ i → i < 64 → a.getLsbD i = false) ∧ (n < 64 → a.getLsbD (63 - n) = true)) ∧
    (∃ n, exec (.ctz p rd ra 0) s = gets (BitVec.ofNat 64 n) ∧ n ≤ 64 ∧
      (∀ i, i < n → a.getLsbD i = false) ∧ (n < 64 → a.getLsbD n = true)) ∧
    exec (.popc p rd ra 0) s = gets (BitVec.ofNat 64 ((List.range 64).countP (fun i => a.getLsbD i))) ∧
    (∃ v : Word, exec (.bswap p rd ra 0) s = gets v ∧
      ∀ i, i < 8 → v.extractLsb' (8 * i) 8 = a.extractLsb' (8 * (7 - i)) 8) ∧
    exec (.sextb p rd ra 0) s = gets ((a.setWidth 8).signExtend 64) ∧
    exec (.sexth p rd ra 0) s = gets ((a.setWidth 16).signExtend 64) ∧
    exec (.sextw p rd ra 0) s = gets ((a.setWidth 32).signExtend 64) ∧
    exec (.add p rd ra rb true) s = s2.illegal x ∧
    (rb ≠ 0 →
      exec (.clz p rd ra rb) s = s2.illegal x ∧ exec (.ctz p rd ra rb) s = s2.illegal x ∧
      exec (.popc p rd ra rb) s = s2.illegal x ∧ exec (.bswap p rd ra rb) s = s2.illegal x ∧
      exec (.sextb p rd ra rb) s = s2.illegal x ∧ exec (.sexth p rd ra rb) s = s2.illegal x ∧
      exec (.sextw p rd ra rb) s = s2.illegal x)

/-- R55, R59: the immediate forms of majors 0x02–0x09, and the shifts by immediate. -/
def Obligations.ImmediateResults : Prop :=
  ∀ (p : Nat) (rd ra : RegNo) (imm : BitVec 16) (s s2 : State) (x : Ctx), fetched p s = some (x, s2) →
    let a : Word := (s2.core p).g ra
    let n : Nat := imm.toNat % 64
    let gets : Word → Host.Outcome State Fault Refusal := fun v => .next (s2.after x (fun c => c.setG rd v) .seq)
    exec (.addi p rd ra imm false) s = gets (a + imm.signExtend 64) ∧
    exec (.andi p rd ra imm) s = gets (a &&& imm.setWidth 64) ∧
    exec (.ori p rd ra imm) s = gets (a ||| imm.setWidth 64) ∧
    exec (.xori p rd ra imm) s = gets (a ^^^ imm.setWidth 64) ∧
    exec (.slti p rd ra imm) s = gets (if a.toInt < imm.toInt then 1 else 0) ∧
    exec (.sltiu p rd ra imm) s = gets (if a.toNat < (imm.signExtend 64).toNat then 1 else 0) ∧
    exec (.lui p rd 0 imm) s = gets (imm.signExtend 64 <<< 16) ∧
    exec (.addpci p rd 0 imm) s = gets (x.pc + imm.signExtend 64 <<< 16) ∧
    (ra ≠ 0 → exec (.lui p rd ra imm) s = s2.illegal x ∧ exec (.addpci p rd ra imm) s = s2.illegal x) ∧
    (imm.toNat / 64 % 64 = 0 →
      exec (.slli p rd ra imm false) s = gets (a <<< n) ∧
      exec (.srli p rd ra imm) s = gets (a >>> n) ∧
      exec (.srai p rd ra imm) s = gets (a.sshiftRight n) ∧
      exec (.rori p rd ra imm) s = gets (a.rotateRight n) ∧
      (n < 32 →
        exec (.slliw p rd ra imm) s = gets ((a.setWidth 32 <<< n).signExtend 64) ∧
        exec (.srliw p rd ra imm) s = gets ((a.setWidth 32 >>> n).signExtend 64) ∧
        exec (.sraiw p rd ra imm) s = gets (((a.setWidth 32).sshiftRight n).signExtend 64))) ∧
    (imm.toNat / 64 % 64 ≠ 0 →
      exec (.slli p rd ra imm false) s = s2.illegal x ∧ exec (.srli p rd ra imm) s = s2.illegal x ∧
      exec (.srai p rd ra imm) s = s2.illegal x ∧ exec (.rori p rd ra imm) s = s2.illegal x) ∧
    (imm.toNat / 64 % 64 ≠ 0 ∨ 32 ≤ n →
      exec (.slliw p rd ra imm) s = s2.illegal x ∧ exec (.srliw p rd ra imm) s = s2.illegal x ∧
      exec (.sraiw p rd ra imm) s = s2.illegal x) ∧
    exec (.slli p rd ra imm true) s = s2.illegal x

/-- R60–R62: multiply, divide and remainder, with a zero divisor and with the most negative value over −1. -/
def Obligations.MultiplyDivideResults : Prop :=
  ∀ (p : Nat) (rd ra rb : RegNo) (s s2 : State) (x : Ctx), fetched p s = some (x, s2) →
    let a : Word := (s2.core p).g ra
    let b : Word := (s2.core p).g rb
    let a32 : BitVec 32 := a.setWidth 32
    let b32 : BitVec 32 := b.setWidth 32
    let gets : Word → Host.Outcome State Fault Refusal := fun v => .next (s2.after x (fun c => c.setG rd v) .seq)
    exec (.mlo p rd ra rb false) s = gets (a * b) ∧
    exec (.mlow p rd ra rb) s = gets ((a32 * b32).signExtend 64) ∧
    exec (.mhuu p rd ra rb) s = gets ((a.setWidth 128 * b.setWidth 128).extractLsb' 64 64) ∧
    exec (.mhss p rd ra rb) s = gets ((a.signExtend 128 * b.signExtend 128).extractLsb' 64 64) ∧
    exec (.mhsu p rd ra rb) s = gets ((a.signExtend 128 * b.setWidth 128).extractLsb' 64 64) ∧
    (b ≠ 0 →
      exec (.div p rd ra rb false) s = gets (BitVec.ofInt 64 (a.toInt.tdiv b.toInt)) ∧
      exec (.rem p rd ra rb) s = gets (BitVec.ofInt 64 (a.toInt.tmod b.toInt)) ∧
      exec (.divu p rd ra rb) s = gets (BitVec.ofNat 64 (a.toNat / b.toNat)) ∧
      exec (.remu p rd ra rb) s = gets (BitVec.ofNat 64 (a.toNat % b.toNat))) ∧
    (b32 ≠ 0 →
      exec (.divw p rd ra rb) s = gets ((BitVec.ofInt 32 (a32.toInt.tdiv b32.toInt)).signExtend 64) ∧
      exec (.remw p rd ra rb) s = gets ((BitVec.ofInt 32 (a32.toInt.tmod b32.toInt)).signExtend 64) ∧
      exec (.divuw p rd ra rb) s = gets ((BitVec.ofNat 32 (a32.toNat / b32.toNat)).signExtend 64) ∧
      exec (.remuw p rd ra rb) s = gets ((BitVec.ofNat 32 (a32.toNat % b32.toNat)).signExtend 64)) ∧
    (b = 0 →
      exec (.div p rd ra rb false) s = gets (if a.toInt < 0 then BitVec.intMin 64 else BitVec.intMax 64) ∧
      exec (.rem p rd ra rb) s = gets a ∧
      exec (.divu p rd ra rb) s = gets (BitVec.allOnes 64) ∧
      exec (.remu p rd ra rb) s = gets a) ∧
    (b32 = 0 →
      exec (.divw p rd ra rb) s =
        gets ((if a32.toInt < 0 then BitVec.intMin 32 else BitVec.intMax 32).signExtend 64) ∧
      exec (.remw p rd ra rb) s = gets (a32.signExtend 64) ∧
      exec (.divuw p rd ra rb) s = gets (BitVec.allOnes 64) ∧
      exec (.remuw p rd ra rb) s = gets (a32.signExtend 64)) ∧
    (a = BitVec.intMin 64 → b = BitVec.allOnes 64 →
      exec (.div p rd ra rb false) s = gets a ∧ exec (.rem p rd ra rb) s = gets 0) ∧
    (a32 = BitVec.intMin 32 → b32 = BitVec.allOnes 32 →
      exec (.divw p rd ra rb) s = gets (a32.signExtend 64) ∧ exec (.remw p rd ra rb) s = gets 0) ∧
    exec (.mlo p rd ra rb true) s = s2.illegal x ∧
    exec (.div p rd ra rb true) s = s2.illegal x

/-! Control transfer (R53, R67–R71, R119). -/

/-- R67, R68, R70: the conditional branches: comparison, target, annulled slot; T decides only whether fetch restarts. -/
def Obligations.BranchResults : Prop :=
  ∀ (p : Nat) (ra rb : RegNo) (t a : Bool) (disp : BitVec 14) (s s2 : State) (x : Ctx),
    fetched p s = some (x, s2) → s2.noSlot p →
    let u : Word := (s2.core p).g ra
    let v : Word := (s2.core p).g rb
    let goes : Bool → Host.Outcome State Fault Refusal := fun taken =>
      .next (s2.after x (fun c => { c with redirect := taken != t })
        (if taken then .branch (x.pc + disp.signExtend 64 * 4) none none (s2.core p).ras
         else if a then .annul else .branch (x.pc + 8) none none (s2.core p).ras))
    exec (.beq p ra rb t a disp false) s = goes (decide (u = v)) ∧
    exec (.bne p ra rb t a disp) s = goes (decide (u ≠ v)) ∧
    exec (.blt p ra rb t a disp) s = goes (decide (u.toInt < v.toInt)) ∧
    exec (.bge p ra rb t a disp) s = goes (decide (v.toInt ≤ u.toInt)) ∧
    exec (.bltu p ra rb t a disp) s = goes (decide (u.toNat < v.toNat)) ∧
    exec (.bgeu p ra rb t a disp) s = goes (decide (v.toNat ≤ u.toNat)) ∧
    exec (.beq p ra rb t a disp true) s = s2.illegal x

/-- R53, R67, R69, R119: the jumps, their targets, their link registers, the return-address stack; a misaligned target; a
reserved A bit, a non-zero rb, JALR with rd = ra. That the predictors change nothing of the architectural state is stated
with each jump; JALR with rd = g30 leaves the target buffer alone by the model's choice (log entry 65). -/
def Obligations.JumpResults : Prop :=
  ∀ (p : Nat) (rd ra rb : RegNo) (disp : BitVec 25) (s s2 : State) (x : Ctx),
    fetched p s = some (x, s2) → s2.noSlot p →
    let c : Core := s2.core p
    let t : Word := c.g ra
    exec (.j p false disp false) s =
      .next (s2.after x (fun c => { c with redirect := false }) (.branch (x.pc + disp.signExtend 64 * 4) none none c.ras)) ∧
    exec (.jal p false disp) s =
      .next (s2.after x (fun c => { c with redirect := false, ras := ((x.pc + 8) :: c.ras).take 16 })
        (.branch (x.pc + disp.signExtend 64 * 4) (some 30) none c.ras)) ∧
    (t.toNat % 4 = 0 →
      (∃ w b, exec (.jr p rd ra 0 false false) s =
        .next (s2.after x (fun c => { c with redirect := w }) (.branch t none b c.ras))) ∧
      (rd ≠ ra → rd ≠ 30 → ∃ w b, exec (.jalr p rd ra 0 false) s =
        .next (s2.after x (fun c => { c with redirect := w }) (.branch t (some rd) b c.ras))) ∧
      (ra ≠ 30 → exec (.jalr p 30 ra 0 false) s =
        .next (s2.after x (fun c => { c with redirect := false, ras := ((x.pc + 8) :: c.ras).take 16 })
          (.branch t (some 30) none c.ras))) ∧
      (∃ r, exec (.ret p rd ra 0 false) s =
        .next (s2.after x (fun c => { c with redirect := r, ras := c.ras.tail }) (.branch t none none c.ras)))) ∧
    (t.toNat % 4 ≠ 0 →
      exec (.jr p rd ra 0 false false) s = s2.takes x { cause := 0x02, eaddr := t.toNat } ∧
      (rd ≠ ra → exec (.jalr p rd ra 0 false) s = s2.takes x { cause := 0x02, eaddr := t.toNat }) ∧
      exec (.ret p rd ra 0 false) s = s2.takes x { cause := 0x02, eaddr := t.toNat }) ∧
    exec (.j p true disp false) s = s2.illegal x ∧ exec (.jal p true disp) s = s2.illegal x ∧
    exec (.jr p rd ra rb true false) s = s2.illegal x ∧ exec (.jalr p rd ra rb true) s = s2.illegal x ∧
    exec (.ret p rd ra rb true) s = s2.illegal x ∧ exec (.jalr p ra ra rb false) s = s2.illegal x ∧
    (rb ≠ 0 → exec (.jr p rd ra rb false false) s = s2.illegal x ∧ exec (.jalr p rd ra rb false) s = s2.illegal x ∧
      exec (.ret p rd ra rb false) s = s2.illegal x)

/-- R71: an instruction that may not stand in a delay slot is illegal there: branches, jumps, BLK, CMO, TLBM, every SYS form
but FENCE, every PRIV form. -/
def Obligations.IllegalInDelaySlot : Prop :=
  ∀ (p : Nat) (i : Instr) (s s2 : State) (x : Ctx), fetched p s = some (x, s2) → ¬ s2.noSlot p →
    barredCore i = some p → exec i s = s2.illegal x

/-- R68, R138: what retirement does with the program counter, the delay slot, the link register and INSTRET. -/
def Obligations.RetirementFlow : Prop :=
  ∀ (c : Core) (x : Ctx) (twin : Bool) (t : Word) (r : RegNo) (b : Option (Nat × TgtEnt)) (st : List Word),
    (c.arch.slot = none → (c.finish x twin .seq).arch = { c.arch with pc := x.pc + 4, instret := c.arch.instret + 1 }) ∧
    (∀ sl, c.arch.slot = some sl →
      (c.finish x twin .seq).arch = { c.arch with pc := sl.target, slot := none, instret := c.arch.instret + 1 }) ∧
    (c.arch.slot = none → (c.finish x twin .annul).arch = { c.arch with pc := x.pc + 8, instret := c.arch.instret + 1 }) ∧
    (c.finish x twin (.jump t)).arch = { c.arch with pc := t, slot := none, instret := c.arch.instret + 1 } ∧
    (c.finish x twin (.branch t none b st)).arch =
      { c.arch with pc := x.pc + 4, instret := c.arch.instret + 1, slot := some ⟨x.pc, t, none, b, st⟩ } ∧
    (c.finish x twin (.branch t (some r) b st)).arch =
      { c.arch.gset r (x.pc + 8) with
        pc := x.pc + 4, instret := c.arch.instret + 1, slot := some ⟨x.pc, t, some (r, c.g r), b, st⟩ }

/-! Exceptions and returns (R102, R103, R140–R153). -/

/-- R140, R145, R146: what taking a synchronous exception leaves: `EPC`, `ESTAT`, `EADDR` of the level entered, level, world,
monitor, shield, and the other registers. R144, R145, R147: where an entry goes: to the handler that the vector names; into
`VECHALT` when the vector fails, or when a synchronous exception is taken at a level where nothing has retired since the last
entry (one mark for both worlds of a level: log entry 64). While the read of the vector waits for its line, the entry stays
open, and the core's next command goes on with it. -/
def Obligations.ExceptionEntryAndVector : Prop :=
  (∀ (x : Ctx) (e : Exc) (s s1 : State), s.leads x.p = false → syncContext x.p s = .ok () s1 →
     let c : Core := s1.core x.p
     let lv : Nat := takenAt x e.cause
     let w : Bool := c.arch.world || decide (lv = 3)
     let ret : Word := match (s.core x.p).arch.slot with
       | some sl => sl.brPc
       | none => x.pc
     ∃ t, s.takes x e = .next t ∧
       let d : Core := t.core x.p
       let es : Word := d.crv (lvKey w lv 3)
       d.arch.level = lv ∧ d.arch.world = w ∧ d.arch.slot = none ∧ d.monitor = none ∧ d.shOn = false ∧
       fld (d.crv (lvKey w lv 2)) epc_PC = bits ret.toNat 2 46 ∧
       fld (d.crv (lvKey w lv 4)) eaddr_ADDR = bits e.eaddr 0 48 ∧
       fld es estat_CAUSE = bits e.cause 0 6 ∧ fld es estat_PLEVEL = bits c.arch.level 0 2 ∧
       fld es estat_PWORLD = b2n c.arch.world ∧ fld es estat_PIE = fld (c.crv (lvKey w lv 3)) estat_IE ∧
       fld es estat_IE = 0 ∧ fld es estat_DS = b2n (s.core x.p).arch.slot.isSome ∧
       fld es estat_NMI = b2n (decide (e.cause = 0x21)) ∧ fld es estat_INFO = bits e.info 0 16 ∧
       fld es estat_ACC = bits e.acc 0 4 ∧
       (∀ r, d.fr r = c.fr r) ∧
       ((s.core x.p).arch.slot = none → ∀ r, r ≠ 31 → d.g r = c.g r) ∧
       (∀ k, k ≠ lvKey w lv 2 → k ≠ lvKey w lv 3 → k ≠ lvKey w lv 4 → e.ipa = none → d.crv k = c.crv k)) ∧
  (∀ (x : Ctx) (e : Exc) (s s1 : State), s.leads x.p = false → syncContext x.p s = .ok () s1 →
     (s.core x.p).run = .running →
     let lv : Nat := takenAt x e.cause
     ((s.core x.p).fresh.contains lv = true →
       ∃ t, s.takes x e = .next t ∧ (t.core x.p).run = .vechalt ∧ (t.core x.p).executes = false ∧
         ∃ ev ∈ t.fbq, ev.src = haltSrc x.p ∧ ev.cls = .uc) ∧
     ((s.core x.p).fresh.contains lv = false →
       ∃ t v, s.takes x e = .next t ∧ (v.core x.p).arch.level = lv ∧ (v.core x.p).arch.entering = some (lv, e.cause) ∧
         (∀ a v', readVector x.p lv e.cause v = .ok (some a) v' →
           (t.core x.p).arch.pc = a ∧ (t.core x.p).run = .running ∧ (t.core x.p).arch.entering = none) ∧
         (∀ v', readVector x.p lv e.cause v = .ok none v' →
           (t.core x.p).run = .vechalt ∧ ∃ ev ∈ t.fbq, ev.src = haltSrc x.p ∧ ev.cls = .uc) ∧
         (∀ st v', readVector x.p lv e.cause v = .error st v' → t = v' ∧ (t.core x.p).arch.entering = some (lv, e.cause))) ∧
     (∀ (i : Instr) (u : State), insnCore i = some x.p → isCore x.p = true → u.vectoring x.p = true →
       exec i u = settle (takeVector x.p) u))

/-- R102: KCALL from open L1 and L2 and sealed L1 enters the Kiln, with the address after it in `EPC` of L3 and the caller
and the service number in `ESTAT` of L3; at L0 it raises PRIV, at L3 ILL. -/
def Obligations.KcallResults : Prop :=
  ∀ (p : Nat) (imm : BitVec 16) (s s2 s3 : State) (x : Ctx), fetched p s = some (x, s2) → s2.noSlot p →
    s2.leads p = false → syncContext p s2 = .ok () s3 →
    (x.level = 1 ∨ x.level = 2 →
      ∃ t, exec (.kcall p imm 0 false) s = .next t ∧
        let d : Core := t.core p
        let es : Word := d.crv ⟨true, 0x303#12⟩
        d.arch.level = 3 ∧ d.arch.world = true ∧
        fld (d.crv ⟨true, 0x302#12⟩) epc_PC = bits (x.pc + 4).toNat 2 46 ∧
        fld es estat_CAUSE = 0x10 ∧ fld es estat_PLEVEL = bits (s2.core p).arch.level 0 2 ∧
        fld es estat_PWORLD = b2n (s2.core p).arch.world ∧ fld es estat_INFO = imm.toNat ∧
        fld es estat_IE = 0 ∧ d.monitor = none ∧ d.shOn = false ∧
        (∀ r, r ≠ 31 → d.g r = (s2.core p).g r) ∧ (∀ r, d.fr r = (s2.core p).fr r)) ∧
    (x.level = 0 → exec (.kcall p imm 0 false) s = s2.takes x { cause := 0x01 }) ∧
    (x.level = 3 → exec (.kcall p imm 0 false) s = s2.illegal x) ∧
    (∀ r : BitVec 4, r ≠ 0 → exec (.kcall p imm r false) s = s2.illegal x) ∧
    exec (.kcall p imm 0 true) s = s2.illegal x

/-- R97: BRK takes the breakpoint exception with its code in `ESTAT.INFO`. -/
def Obligations.BreakpointTaken : Prop :=
  ∀ (p : Nat) (imm : BitVec 16) (s s2 s3 : State) (x : Ctx), fetched p s = some (x, s2) → s2.noSlot p →
    s2.leads p = false → syncContext p s2 = .ok () s3 →
    ∃ t, exec (.brk p imm 0) s = .next t ∧
      let d : Core := t.core p
      let lv : Nat := if x.level = 0 then 1 else x.level
      let w : Bool := (s2.core p).arch.world || decide (lv = 3)
      d.arch.level = lv ∧ fld (d.crv (lvKey w lv 2)) epc_PC = bits x.pc.toNat 2 46 ∧
      fld (d.crv (lvKey w lv 3)) estat_CAUSE = 0x0D ∧ fld (d.crv (lvKey w lv 3)) estat_INFO = imm.toNat

/-- R103, R153: ERET: its five checks; what it restores. The return from the sealed to the open world is stated where the
core holds no line, no queued store and no request of the sealed world, so that nothing is left to drain (R358). -/
def Obligations.EretResults : Prop :=
  ∀ (p : Nat) (s s2 s3 : State) (x : Ctx), fetched p s = some (x, s2) → s2.noSlot p →
    s2.leads p = false → syncContext p s2 = .ok () s3 →
    let es : Word := (s2.core p).crv (lvKey x.world x.level 3)
    let tl : Nat := fld es estat_PLEVEL
    let tw : Bool := decide (fld es estat_PWORLD = 1)
    let bad : Prop := x.level < tl ∨ (tw ≠ x.world ∧ x.level ≠ 3) ∨ (tw = false ∧ tl = 3) ∨ (tw = true ∧ tl = 2) ∨
      fld ((s2.core p).crv ⟨tw, 0x120#12⟩) ceiling_MAX < tl
    (x.level = 0 → exec (.eret p 0 0) s = s2.takes x { cause := 0x01 }) ∧
    (x.level ≠ 0 → bad → exec (.eret p 0 0) s = s2.takes x { cause := 0x0E }) ∧
    (x.level ≠ 0 → ¬ bad →
      (x.world = true → tw = false →
        (∀ e ∈ (s3.core p).sq, e.world = false) ∧ s3.sealedOut p = false ∧
        ∀ e ∈ (s3.core p).lines, e.2.world = false) →
      ∃ t, exec (.eret p 0 0) s = .next t ∧
        let d : Core := t.core p
        let es' : Word := d.crv (lvKey x.world x.level 3)
        d.arch.pc = (s3.core p).crv (lvKey x.world x.level 2) ∧ d.arch.level = tl ∧ d.arch.world = tw ∧
        fld es' estat_IE = fld es estat_PIE ∧ fld es' estat_NMI = 0 ∧ (fld es estat_NMI = 1 → d.nmiAct = false) ∧
        d.monitor = none ∧ d.shOn = false ∧ (tw ≠ x.world → d.ras = [] ∧ d.tgtBuf = []) ∧
        (∀ r, r ≠ 31 → d.g r = (s2.core p).g r) ∧ (∀ r, d.fr r = (s2.core p).fr r))

/-! Loads, stores, exclusive and atomic accesses (R52, R64–R66, R75–R78, R125, R130, R218, R246, R263). -/

/-- R64–R66, R52: a load within a line that the core holds in L2 and L1D, aligned or not, with no queued store in its way, no
poison in its bytes and no storage error waiting: it retires with the bytes of the line, sign- or zero-extended; FLD clears
the bits above them. A misaligned LDD over two such lines joins their bytes. A misaligned load within one line of Device
memory, and a misaligned 16-byte one of any memory, raises a data-alignment exception. LDD and FLD with a reserved field not
zero are illegal. -/
def Obligations.LoadResults : Prop :=
  ∀ (p : Nat) (rd ra : RegNo) (imm : BitVec 16) (d14 : BitVec 14) (s s2 : State) (x : Ctx) (l : PLine),
    fetched p s = some (x, s2) → (s2.core p).mload = none → l.holds = true →
    let a : Word := (s2.core p).g ra
    let va : Word := a + imm.signExtend 64
    let fva : Nat → Word := fun n => a + d14.signExtend 64 * BitVec.ofNat 64 n
    let hit : Word → Nat → Nat → Prop := fun va pa n =>
      va.toNat % 64 + n ≤ 64 ∧ s2.granted x needLoad va.toNat pa 0 ∧ s2.heldFor x pa l ∧ s2.noStoreTo p pa n ∧
        poisoned ((s2.core p).held pa).2 (pa % 64) n = false
    let bad : Word → Nat → Prop := fun va n => va.toNat % n ≠ 0 ∧ va.toNat % 64 + n ≤ 64 ∧
      ∃ pa mt, s2.granted x needLoad va.toNat pa mt ∧ (2 ≤ mt ∨ n = 16)
    let byte : Nat → Line := fun pa => l.data >>> (8 * (pa % 64))
    let gets : Nat → Word → Host.Outcome State Fault Refusal := fun pa v =>
      .next (s2.after x (fun c => (c.touched pa).setG rd v) .seq)
    let fgets : Nat → BitVec 128 → Host.Outcome State Fault Refusal := fun pa v =>
      .next (s2.after x (fun c => (c.touched pa).setF rd v) .seq)
    let traps : Word → Host.Outcome State Fault Refusal := fun va => s2.takes x { cause := 0x03, eaddr := va.toNat, acc := 2 }
    (∀ pa, hit va pa 1 →
      exec (.ldb p rd ra imm .none) s = gets pa (((byte pa).setWidth 8).signExtend 64) ∧
      exec (.ldbu p rd ra imm .none) s = gets pa (((byte pa).setWidth 8).setWidth 64)) ∧
    (∀ pa, hit va pa 2 →
      exec (.ldh p rd ra imm .none) s = gets pa (((byte pa).setWidth 16).signExtend 64) ∧
      exec (.ldhu p rd ra imm .none) s = gets pa (((byte pa).setWidth 16).setWidth 64)) ∧
    (∀ pa, hit va pa 4 →
      exec (.ldw p rd ra imm .none) s = gets pa (((byte pa).setWidth 32).signExtend 64) ∧
      exec (.ldwu p rd ra imm .none) s = gets pa (((byte pa).setWidth 32).setWidth 64)) ∧
    (∀ pa, hit va pa 8 → exec (.ldd p rd ra imm .none false) s = gets pa ((byte pa).setWidth 64)) ∧
    (∀ pa l2, 56 < va.toNat % 64 → va.toNat % 4096 + 8 ≤ 4096 → pa % 64 = va.toNat % 64 → l2.holds = true →
      s2.granted x needLoad va.toNat pa 0 →
      let n : Nat := 64 - va.toNat % 64
      s2.heldFor x pa l → s2.heldFor x (pa + n) l2 → s2.noStoreTo p pa n → s2.noStoreTo p (pa + n) (8 - n) →
      ((s2.core p).held pa).2 = 0 → ((s2.core p).held (pa + n)).2 = 0 →
      exec (.ldd p rd ra imm .none false) s = .next (s2.after x (fun c =>
        ((c.touched pa).touched (pa + n)).setG rd ((byte pa).setWidth 64 ||| l2.data.setWidth 64 <<< (8 * n))) .seq)) ∧
    (∀ pa, hit (fva 2) pa 2 → exec (.fld p rd ra 0 d14 .none false) s = fgets pa (((byte pa).setWidth 16).setWidth 128)) ∧
    (∀ pa, hit (fva 4) pa 4 → exec (.fld p rd ra 1 d14 .none false) s = fgets pa (((byte pa).setWidth 32).setWidth 128)) ∧
    (∀ pa, hit (fva 8) pa 8 → exec (.fld p rd ra 2 d14 .none false) s = fgets pa (((byte pa).setWidth 64).setWidth 128)) ∧
    (∀ pa, (fva 16).toNat % 16 = 0 → hit (fva 16) pa 16 →
      exec (.fld p rd ra 3 d14 .none false) s = fgets pa ((byte pa).setWidth 128)) ∧
    (bad va 2 → exec (.ldh p rd ra imm .none) s = traps va ∧ exec (.ldhu p rd ra imm .none) s = traps va) ∧
    (bad va 4 → exec (.ldw p rd ra imm .none) s = traps va ∧ exec (.ldwu p rd ra imm .none) s = traps va) ∧
    (bad va 8 → exec (.ldd p rd ra imm .none false) s = traps va) ∧
    (bad (fva 2) 2 → exec (.fld p rd ra 0 d14 .none false) s = traps (fva 2)) ∧
    (bad (fva 4) 4 → exec (.fld p rd ra 1 d14 .none false) s = traps (fva 4)) ∧
    (bad (fva 8) 8 → exec (.fld p rd ra 2 d14 .none false) s = traps (fva 8)) ∧
    (bad (fva 16) 16 → exec (.fld p rd ra 3 d14 .none false) s = traps (fva 16)) ∧
    exec (.ldd p rd ra imm .none true) s = s2.illegal x ∧
    exec (.fld p rd ra 0 d14 .none true) s = s2.illegal x

/-- R64–R66, R125, R246: a store within a line of Normal-WB memory that the core holds with write permission, aligned or not,
joins the end of the store queue with the low bytes of its register and retires; STD over two such lines joins it in two
parts. Nothing else of the state changes but the number of the store and what had been read ahead of its line. A misaligned
store within a line of Device memory, and a misaligned 16-byte one within a line of any memory, raises a data-alignment
exception. STD with a reserved field not zero is illegal. The core is not the leader of a Twin pair. -/
def Obligations.StoreResults : Prop :=
  ∀ (p : Nat) (rd ra : RegNo) (imm : BitVec 16) (d14 : BitVec 14) (s s2 : State) (x : Ctx) (l : PLine),
    fetched p s = some (x, s2) → s2.leads p = false → (s2.core p).sq.length < 55 → l.writable = true →
    let a : Word := (s2.core p).g ra
    let va : Word := a + imm.signExtend 64
    let fva : Nat → Word := fun n => a + d14.signExtend 64 * BitVec.ofNat 64 n
    let hit : Word → Nat → Nat → Prop := fun va pa n =>
      va.toNat % 64 + n ≤ 64 ∧ s2.granted x needStore va.toNat pa 0 ∧ s2.heldFor x pa l
    let bad : Word → Nat → Prop := fun va n => va.toNat % n ≠ 0 ∧ va.toNat % 64 + n ≤ 64 ∧
      ∃ pa mt, s2.granted x needStore va.toNat pa mt ∧ (2 ≤ mt ∨ n = 16)
    let ent : Nat → Nat → Nat → Line → SqEnt := fun va pa n v =>
      { va := va, pa := pa, size := n, data := v, world := x.world, dom := x.dom, nc := false, ord := false,
        grp := 0, sid := (s2.core p).sqSeq + 1, seq := n == 16 }
    let queues : Word → Nat → Nat → Line → Host.Outcome State Fault Refusal := fun va pa n v =>
      .next (s2.after x (fun c => { c with sqSeq := c.sqSeq + 1 }.enqueue (ent va.toNat pa n v)) .seq)
    let traps : Word → Host.Outcome State Fault Refusal := fun va => s2.takes x { cause := 0x03, eaddr := va.toNat, acc := 3 }
    let g : Word := (s2.core p).g rd
    let f : BitVec 128 := (s2.core p).fr rd
    (∀ pa, hit va pa 1 → exec (.stb p rd ra imm) s = queues va pa 1 ((g.setWidth 8).setWidth 512)) ∧
    (∀ pa, hit va pa 2 → exec (.sth p rd ra imm) s = queues va pa 2 ((g.setWidth 16).setWidth 512)) ∧
    (∀ pa, hit va pa 4 → exec (.stw p rd ra imm) s = queues va pa 4 ((g.setWidth 32).setWidth 512)) ∧
    (∀ pa, hit va pa 8 → exec (.std p rd ra imm false) s = queues va pa 8 (g.setWidth 512)) ∧
    (∀ pa l2, 56 < va.toNat % 64 → va.toNat % 4096 + 8 ≤ 4096 → l2.writable = true → s2.granted x needStore va.toNat pa 0 →
      let n : Nat := 64 - va.toNat % 64
      s2.heldFor x pa l → s2.heldFor x (pa + n) l2 →
      exec (.std p rd ra imm false) s = .next (s2.after x (fun c =>
        ({ c with sqSeq := c.sqSeq + 1 }.enqueue
          (ent va.toNat pa n (g.setWidth 512 &&& BitVec.ofNat 512 (2 ^ (8 * n) - 1)))).enqueue
          (ent (va.toNat + n) (pa + n) (8 - n) (g.setWidth 512 >>> (8 * n)))) .seq)) ∧
    (∀ pa, hit (fva 2) pa 2 → exec (.fst p rd ra 0 d14) s = queues (fva 2) pa 2 ((f.setWidth 16).setWidth 512)) ∧
    (∀ pa, hit (fva 4) pa 4 → exec (.fst p rd ra 1 d14) s = queues (fva 4) pa 4 ((f.setWidth 32).setWidth 512)) ∧
    (∀ pa, hit (fva 8) pa 8 → exec (.fst p rd ra 2 d14) s = queues (fva 8) pa 8 ((f.setWidth 64).setWidth 512)) ∧
    (∀ pa, (fva 16).toNat % 16 = 0 → hit (fva 16) pa 16 →
      exec (.fst p rd ra 3 d14) s = queues (fva 16) pa 16 (f.setWidth 512)) ∧
    (bad va 2 → exec (.sth p rd ra imm) s = traps va) ∧ (bad va 4 → exec (.stw p rd ra imm) s = traps va) ∧
    (bad va 8 → exec (.std p rd ra imm false) s = traps va) ∧
    (bad (fva 2) 2 → exec (.fst p rd ra 0 d14) s = traps (fva 2)) ∧
    (bad (fva 4) 4 → exec (.fst p rd ra 1 d14) s = traps (fva 4)) ∧
    (bad (fva 8) 8 → exec (.fst p rd ra 2 d14) s = traps (fva 8)) ∧
    (bad (fva 16) 16 → exec (.fst p rd ra 3 d14) s = traps (fva 16)) ∧
    exec (.std p rd ra imm true) s = s2.illegal x

/-- R125, R246, R263: a queued store to Normal-WB DRAM that nothing earlier holds back and whose line the core holds in L1D
in E or M reaches that line: its bytes take the store's data, the line becomes M, poisoned units that it covers whole become
good, the entry leaves the queue, and every other line of the core, every other core and every byte of DRAM stay as they are.
R131: an integer load that was waiting for overlapping stores reads its line in L1D once none is queued, and retires. -/
def Obligations.StoresAndMergedLoadsReachL1D : Prop :=
  (∀ (p i : Nat) (s : State) (e : SqEnt) (l : PLine),
     isCore p = true → (s.core p).sq[i]? = some e → s.mayDrain p i e = true → e.size ≠ 0 → place e.pa = .dram → e.nc = false →
     (s.core p).refused.contains (lineOf e.pa) = false → (s.core p).line e.pa = some l → l.world = e.world → l.dom = e.dom →
     l.way.isSome = true → l.st = .E ∨ l.st = .M → (s.core p).l1dHit e.world e.dom e.pa = true → (s.core p).flaws = [] →
     ∃ t l', exec (.storeWriteL1d p i .none) s = .next t ∧ (t.core p).line e.pa = some l' ∧
       l'.st = .M ∧ l'.data = lineSet l.data (e.pa % 64) e.size e.data ∧ l'.poison = unpoison l.poison (e.pa % 64) e.size ∧
       (t.core p).sq = (s.core p).sq.take i ++ (s.core p).sq.drop (i + 1) ∧ (t.core p).arch = (s.core p).arch ∧
       (∀ b, lineOf b ≠ lineOf e.pa → (t.core p).line b = (s.core p).line b) ∧
       (∀ q, q ≠ p → t.core q = s.core q) ∧ t.mem = s.mem ∧ t.regs = s.regs ∧ t.net = s.net) ∧
  (∀ (p : Nat) (s s1 s2 : State) (x : Ctx) (m : MLoad) (l : PLine),
     isCore p = true → s.due p = false → ready p s = some (x, s1) → (s1.core p).busy = .access → (s1.core p).lateAbort = none →
     fetchCheck x s1 = .ok () s2 → (s2.core p).mload = some m → ((s2.core p).deciding m.pa m.size) = none →
     s2.heldFor x m.pa l → l.holds = true → poisoned ((s2.core p).held m.pa).2 (m.pa % 64) m.size = false → m.fp = false →
     exec (.mergedLoadComplete p) s =
       .next (s2.after x (fun c => { c.touched m.pa with mload := none }.setG m.rd
         (extend m.size m.signed (lineGet l.data (m.pa % 64) m.size))) .seq))

/-- R75–R77: the ordered and exclusive accesses of major 0x2C, with nothing queued and no loss unrecorded. Aligned, to a line
of Normal-WB memory that the core holds in L1D in E or M: LDA and LDX read it, and LDX arms the monitor and the deferral of
its line; STX stores and answers 0 when the monitor holds its line and size, stores nothing and answers 1 when it does not,
and disarms it; STL queues a store with release order. A misaligned one within a line raises a data-alignment exception, LDX
and STX on a memory type other than Normal-WB a memory-type exception; the forms that R75 forbids are illegal. -/
def Obligations.ExclusiveResults : Prop :=
  ∀ (p : Nat) (rd ra rb : RegNo) (z : BitVec 2) (qa ql : Bool) (s s2 : State) (x : Ctx) (l : PLine) (pa : Nat),
    fetched p s = some (x, s2) → s2.leads p = false → (s2.core p).sq = [] → s2.postedOut p = false →
    (s2.core p).lostPend = false →
    let va : Nat := ((s2.core p).g ra).toNat
    let n : Nat := 2 ^ z.toNat
    let old : Word := (lineGet l.data (pa % 64) n).setWidth 64
    let b : Word := (s2.core p).g rb
    let misaligned : Host.Outcome State Fault Refusal := s2.takes x { cause := 0x03, eaddr := va, acc := 4 }
    let wrongType : Host.Outcome State Fault Refusal := s2.takes x { cause := 0x04, eaddr := va, acc := 4 }
    (va % n = 0 → l.st = .E ∨ l.st = .M → ((s2.core p).held pa).2 = 0 → (s2.core p).deferred = [] →
      s2.heldFor x pa l →
      (s2.granted x needLoad va pa 0 →
        exec (.lda p rd ra rb z false false 0 .none false) s =
          .next (s2.after x (fun c => ({ c with early := [] }.touched pa).setG rd old) .seq) ∧
        exec (.ldx p rd ra rb z qa false 0 .none) s =
          .next (s2.after x (fun c => { (if qa then { c with early := [] } else c).touched pa with
            monitor := some (lineOf pa, n), defers := tput c.defers (lineOf pa) 64 }.setG rd old) .seq)) ∧
      (s2.granted x needStore va pa 0 →
        exec (.stl p 0 ra rb z false false 0) s =
          .next (s2.after x (fun c => { c with sqSeq := c.sqSeq + 1 }.enqueue
            { va := va, pa := pa, size := n, data := lineGet (b.setWidth 512) 0 n, world := x.world, dom := x.dom,
              nc := false, ord := true, grp := 0, sid := (s2.core p).sqSeq + 1, seq := false }) .seq) ∧
        (rd ≠ ra → rd ≠ rb → (s2.core p).monitor = some (lineOf pa, n) →
          ∃ t, exec (.stx p rd ra rb z false ql 0 .none) s = .next t ∧
            (rd ≠ 0 → (t.core p).g rd = 0) ∧ (t.core p).monitor = none ∧
            (t.core p).line pa = some (l.write (pa % 64) n (b.setWidth 512))) ∧
        (rd ≠ ra → rd ≠ rb → (s2.core p).monitor ≠ some (lineOf pa, n) →
          ∃ t, exec (.stx p rd ra rb z false ql 0 .none) s = .next t ∧
            (rd ≠ 0 → (t.core p).g rd = 1) ∧ (t.core p).monitor = none ∧ (t.core p).line pa = some l))) ∧
    (∀ mt, va % n ≠ 0 → va % 64 + n ≤ 64 →
      (s2.granted x needLoad va pa mt → exec (.lda p rd ra rb z false false 0 .none false) s =
          (s2.modCore p (fun c => { c with early := [] })).takes x { cause := 0x03, eaddr := va, acc := 4 } ∧
        exec (.ldx p rd ra rb z qa false 0 .none) s = misaligned) ∧
      (s2.granted x needStore va pa mt → exec (.stl p 0 ra rb z false false 0) s = misaligned ∧
        (rd ≠ ra → rd ≠ rb → exec (.stx p rd ra rb z false ql 0 .none) s = misaligned))) ∧
    (∀ mt, va % n = 0 → mt ≠ 0 →
      (s2.granted x needLoad va pa mt → exec (.ldx p rd ra rb z qa false 0 .none) s = wrongType) ∧
      (s2.granted x needStore va pa mt → rd ≠ ra → rd ≠ rb → exec (.stx p rd ra rb z false ql 0 .none) s = wrongType)) ∧
    exec (.lda p rd ra rb z false false 0 .none true) s = s2.illegal x ∧
    (qa = true ∨ ql = true → exec (.lda p rd ra rb z qa ql 0 .none false) s = s2.illegal x ∧
      exec (.stl p 0 ra rb z qa ql 0) s = s2.illegal x) ∧
    exec (.ldx p rd ra rb z qa true 0 .none) s = s2.illegal x ∧ exec (.stx p rd ra rb z true ql 0 .none) s = s2.illegal x ∧
    (rd ≠ 0 → exec (.stl p rd ra rb z false false 0) s = s2.illegal x) ∧
    (rd = ra ∨ rd = rb → exec (.stx p rd ra rb z false ql 0 .none) s = s2.illegal x) ∧
    (∀ r : BitVec 2, r ≠ 0 → exec (.lda p rd ra rb z qa ql r .none false) s = s2.illegal x ∧
      exec (.ldx p rd ra rb z qa ql r .none) s = s2.illegal x ∧ exec (.stl p rd ra rb z qa ql r) s = s2.illegal x ∧
      exec (.stx p rd ra rb z qa ql r .none) s = s2.illegal x)

/-- R75, R76: the AMOs, with nothing queued and no loss unrecorded. Aligned, on a line of Normal-WB memory that the core
holds in L1D in E or M: rd receives the old value, zero-extended, and the line the new one, of the selected size; no other
register of g1–g30 and g31, no other core, no byte of DRAM and no message changes. A misaligned one within a line raises a
data-alignment exception, one on a memory type other than Normal-WB a memory-type exception; rd = ra or rd = rb is illegal,
as is ATADD with a reserved field not zero. -/
def Obligations.AtomicResults : Prop :=
  ∀ (p : Nat) (rd ra rb : RegNo) (z : BitVec 2) (qa ql : Bool) (s s2 : State) (x : Ctx) (l : PLine) (pa : Nat),
    fetched p s = some (x, s2) → s2.leads p = false → (s2.core p).sq = [] → s2.postedOut p = false →
    (s2.core p).lostPend = false →
    let va : Nat := ((s2.core p).g ra).toNat
    let n : Nat := 2 ^ z.toNat
    let old : Word := (lineGet l.data (pa % 64) n).setWidth 64
    let b : Word := (s2.core p).g rb
    let m : Nat := 2 ^ (8 * n)
    let sgn : Word → Int := fun v => if v.toNat % m < m / 2 then v.toNat % m else (v.toNat % m : Int) - m
    let does : Host.Outcome State Fault Refusal → Word → Prop := fun o v =>
      ∃ t, o = .next t ∧ (rd ≠ 0 → (t.core p).g rd = old) ∧
        (t.core p).line pa = some (l.write (pa % 64) n (v.setWidth 512)) ∧
        ((s2.core p).arch.slot = none → (t.core p).arch.pc = x.pc + 4) ∧ (∀ r, r ≠ rd → (t.core p).g r = (s2.core p).g r) ∧
        t.mem = s2.mem ∧ t.net = s2.net ∧ ∀ q, q ≠ p → t.core q = s2.core q
    let all : List Instr :=
      [.atswp p rd ra rb z qa ql 0 .none, .atadd p rd ra rb z qa ql 0 .none false, .atclr p rd ra rb z qa ql 0 .none,
       .atset p rd ra rb z qa ql 0 .none, .atflp p rd ra rb z qa ql 0 .none, .atsmax p rd ra rb z qa ql 0 .none,
       .atsmin p rd ra rb z qa ql 0 .none, .atumax p rd ra rb z qa ql 0 .none, .atumin p rd ra rb z qa ql 0 .none,
       .atcas p rd ra rb z qa ql 0 .none]
    (rd ≠ ra → rd ≠ rb → va % n = 0 → s2.granted x needAmo va pa 0 → l.st = .E ∨ l.st = .M →
      ((s2.core p).held pa).2 = 0 → s2.heldFor x pa l →
      does (exec (.atswp p rd ra rb z qa ql 0 .none) s) b ∧
      does (exec (.atadd p rd ra rb z qa ql 0 .none false) s) (old + b) ∧
      does (exec (.atclr p rd ra rb z qa ql 0 .none) s) (old &&& ~~~b) ∧
      does (exec (.atset p rd ra rb z qa ql 0 .none) s) (old ||| b) ∧
      does (exec (.atflp p rd ra rb z qa ql 0 .none) s) (old ^^^ b) ∧
      does (exec (.atsmax p rd ra rb z qa ql 0 .none) s) (if sgn old < sgn b then b else old) ∧
      does (exec (.atsmin p rd ra rb z qa ql 0 .none) s) (if sgn b < sgn old then b else old) ∧
      does (exec (.atumax p rd ra rb z qa ql 0 .none) s) (if old.toNat < b.toNat % m then b else old) ∧
      does (exec (.atumin p rd ra rb z qa ql 0 .none) s) (if b.toNat % m < old.toNat then b else old) ∧
      does (exec (.atcas p rd ra rb z qa ql 0 .none) s) (if old.toNat = ((s2.core p).g rd).toNat % m then b else old)) ∧
    (∀ mt i, i ∈ all → rd ≠ ra → rd ≠ rb → s2.granted x needAmo va pa mt →
      (va % n ≠ 0 → va % 64 + n ≤ 64 → exec i s = s2.takes x { cause := 0x03, eaddr := va, acc := 4 }) ∧
      (va % n = 0 → mt ≠ 0 → exec i s = s2.takes x { cause := 0x04, eaddr := va, acc := 4 })) ∧
    (rd = ra ∨ rd = rb → ∀ i ∈ all, exec i s = s2.illegal x) ∧
    exec (.atadd p rd ra rb z qa ql 0 .none true) s = s2.illegal x

/-! Block instructions, cache maintenance, TLB maintenance (R79–R83, R202–R205, R235–R242). -/

/-- R79, R81: one unit of BCOPY and BFILL between aligned lines of Normal-WB memory that the core holds in L1D, with nothing
queued or on its way: 64 bytes are queued for the destination as eight stores, the pointers rise by 64 and the length falls
by 64; the last unit retires the instruction, an earlier one offers it again. A length of 0 retires and changes no register.
The operand forms that R79 forbids are illegal. -/
def Obligations.BlockUnitResults : Prop :=
  ∀ (p : Nat) (rd ra rb : RegNo) (s s2 : State) (x : Ctx) (ls ld : PLine) (ps pd : Nat),
    fetched p s = some (x, s2) → s2.noSlot p → s2.leads p = false → (s2.core p).sq = [] → s2.postedOut p = false →
    rd ≠ 0 → rb ≠ 0 → rd ≠ rb → ra ≠ rd → ra ≠ rb → ps % 64 = 0 → pd % 64 = 0 →
    let d : Word := (s2.core p).g rd
    let a : Word := (s2.core p).g ra
    let n : Word := (s2.core p).g rb
    let entries : (Nat → Line) → List SqEnt := fun data => (List.range 8).map (fun i =>
      { va := d.toNat + 8 * i, pa := pd + 8 * i, size := 8, data := data i, world := x.world, dom := x.dom, nc := false,
        ord := false, grp := 0, sid := (s2.core p).sqSeq + i + 1, seq := false })
    let queued : (Nat → Line) → Core → Core := fun data c =>
      { c with sq := entries data, sqSeq := c.sqSeq + 8, early := tdel c.early pd, wait := none, must := false }
    (n = 0 → exec (.bfill p rd ra rb) s = .next (s2.after x id .seq) ∧
      (ra ≠ 0 → exec (.bcopy p rd ra rb .none false) s = .next (s2.after x id .seq))) ∧
    (n ≠ 0 → n.toNat % 64 = 0 → d.toNat % 64 = 0 → s2.granted x needStore d.toNat pd 0 → s2.heldFor x pd ld →
      ld.writable = true →
      exec (.bfill p rd ra rb) s =
        .next (s2.after x (fun c => ((queued (fun _ => a.setWidth 512) c).setG rd (d + 64)).setG rb (n - 64)) (if n = 64 then .seq else .part)) ∧
      (ra ≠ 0 → a.toNat % 64 = 0 → s2.granted x needLoad a.toNat ps 0 → s2.heldFor x ps ls → ls.holds = true →
        ((s2.core p).held ps).2 = 0 →
        exec (.bcopy p rd ra rb .none false) s =
          .next (s2.after x (fun c => (((queued (fun i => lineGet ls.data (8 * i) 8) (c.touched ps)).setG rd
            (d + 64)).setG ra (a + 64)).setG rb (n - 64)) (if n = 64 then .seq else .part)))) ∧
    exec (.bcopy p rd ra rb .none true) s = s2.illegal x ∧ exec (.bcopy p rd 0 rb .none false) s = s2.illegal x ∧
    exec (.bcopy p rd rd rb .none false) s = s2.illegal x ∧ exec (.bfill p rd rb rb) s = s2.illegal x ∧
    exec (.bfill p 0 ra rb) s = s2.illegal x ∧ exec (.bfill p rd ra 0) s = s2.illegal x

/-- R235, R237: a per-line clean or invalidate of a populated DRAM line of Normal-WB memory sends one CmoReq to the home of
the line and waits, with nothing queued and no request of the line outstanding. DINV.P and DINV.M at L0 raise PRIV; a
non-zero rd or rb is illegal. R237, R256: a per-line clean or invalidate whose answer has arrived retires, on populated DRAM
of Normal-WB memory. -/
def Obligations.CacheLineOps : Prop :=
  (∀ (p : Nat) (ra : RegNo) (s s2 : State) (x : Ctx) (pa : Nat), fetched p s = some (x, s2) → s2.noSlot p →
     s2.leads p = false → (s2.core p).sq = [] → place pa = .dram → s2.dramOk pa = true →
     let va : Nat := ((s2.core p).g ra).toNat
     let free : Prop := ∀ l, (s2.core p).line pa = some l → l.st.asked = false
     let sends : Nat → Bool → Host.Outcome State Fault Refusal := fun op m =>
       .next ((s2.request p .cmoReq pa x.world x.dom false 0 0 op m).modCore p
         (fun c => { c with cmo := some (lineOf pa, false) }))
     let priv : Host.Outcome State Fault Refusal := s2.takes x { cause := 0x01 }
     (free → s2.granted x needLoad va pa 0 →
       exec (.dcleanP p 0 ra 0) s = sends 0 false ∧ exec (.dcleanM p 0 ra 0) s = sends 0 true ∧
       exec (.dclinvP p 0 ra 0) s = sends 2 false ∧ exec (.dclinvM p 0 ra 0) s = sends 2 true) ∧
     (free → s2.granted x needStore va pa 0 → 1 ≤ x.level →
       exec (.dinvP p 0 ra 0) s = sends 1 false ∧ exec (.dinvM p 0 ra 0) s = sends 1 true) ∧
     (x.level = 0 → exec (.dinvP p 0 ra 0) s = priv ∧ exec (.dinvM p 0 ra 0) s = priv) ∧
     (∀ rd rb : RegNo, rd ≠ 0 ∨ rb ≠ 0 →
       exec (.dcleanP p rd ra rb) s = s2.illegal x ∧ exec (.dinvP p rd ra rb) s = s2.illegal x ∧
       exec (.dclinvP p rd ra rb) s = s2.illegal x ∧ exec (.dcleanM p rd ra rb) s = s2.illegal x ∧
       exec (.dinvM p rd ra rb) s = s2.illegal x ∧ exec (.dclinvM p rd ra rb) s = s2.illegal x)) ∧
  (∀ (p : Nat) (ra : RegNo) (s s1 s2 : State) (x : Ctx) (pa ln : Nat),
     isCore p = true → s.due p = false → ready p s = some (x, s1) → (s1.core p).busy = .cmo → (s1.core p).lateAbort = none →
     fetchCheck x s1 = .ok () s2 → s2.noSlot p → (s2.core p).cmo = some (ln, true) → place pa = .dram → s2.dramOk pa = true →
     let va : Nat := ((s2.core p).g ra).toNat
     let done : Host.Outcome State Fault Refusal := .next (s2.after x (fun c => { c with cmo := none }) .seq)
     (s2.granted x needLoad va pa 0 →
       exec (.dcleanP p 0 ra 0) s = done ∧ exec (.dcleanM p 0 ra 0) s = done ∧
       exec (.dclinvP p 0 ra 0) s = done ∧ exec (.dclinvM p 0 ra 0) s = done) ∧
     (s2.granted x needStore va pa 0 → 1 ≤ x.level →
       exec (.dinvP p 0 ra 0) s = done ∧ exec (.dinvM p 0 ra 0) s = done))

/-- R235, R236: DZERO of a line that the core holds in L1D in E or M, with nothing queued, leaves 64 zero bytes in M and
changes no register, no other core and no byte of DRAM. A prefetch of a line that the core holds under its tags (PREFW: in E
or M), or that does not translate, retires and changes nothing else; of a line that it does not hold, it retires and sends a
request marked speculative. DZERO with a reserved field not zero is illegal. -/
def Obligations.ZeroAndPrefetch : Prop :=
  ∀ (p : Nat) (ra : RegNo) (s s2 : State) (x : Ctx) (pa : Nat) (l : PLine), fetched p s = some (x, s2) → s2.noSlot p →
    s2.leads p = false → (s2.core p).sq = [] → place pa = .dram → s2.dramOk pa = true → place (lineOf pa) = .dram →
    s2.dramOk (lineOf pa) = true → (s2.core p).openMisses < 48 → s2.meshCalm →
    let va : Nat := ((s2.core p).g ra).toNat
    (s2.granted x needStore va pa 0 → s2.heldFor x pa l → l.st = .E ∨ l.st = .M →
      (∃ t, exec (.dzero p 0 ra 0 false) s = .next t ∧
        (t.core p).line pa = some { l with st := .M, data := 0, poison := 0, stored := 255 } ∧
        (t.core p).arch.pc = x.pc + 4 ∧ (∀ r, (t.core p).g r = (s2.core p).g r) ∧ t.mem = s2.mem ∧ t.net = s2.net ∧
        ∀ q, q ≠ p → t.core q = s2.core q) ∧
      exec (.prefw p 0 ra 0) s = .next (s2.after x id .seq)) ∧
    (s2.granted x needLoad va pa 0 → (s2.core p).line pa = some l → l.world = x.world → l.dom = x.dom →
      exec (.prefr p 0 ra 0) s = .next (s2.after x id .seq)) ∧
    (2 ^ 48 ≤ va → exec (.prefr p 0 ra 0) s = .next (s2.after x id .seq) ∧
      exec (.prefw p 0 ra 0) s = .next (s2.after x id .seq)) ∧
    ((s2.core p).line pa = none →
      (s2.granted x needLoad va pa 0 → ∃ t, exec (.prefr p 0 ra 0) s = .next t ∧ (t.core p).line pa =
        some { st := .IS_D, world := x.world, dom := x.dom, spec := true } ∧ (∀ r, (t.core p).g r = (s2.core p).g r) ∧
        ∃ m, t.net = s2.net ++ [m] ∧ m.opc = .getS ∧ m.pa = lineOf pa ∧ m.spec = true ∧ m.src = agentOf p) ∧
      (s2.granted x needStore va pa 0 → ∃ t, exec (.prefw p 0 ra 0) s = .next t ∧ (t.core p).line pa =
        some { st := .IM_AD, world := x.world, dom := x.dom, spec := true } ∧ (∀ r, (t.core p).g r = (s2.core p).g r) ∧
        ∃ m, t.net = s2.net ++ [m] ∧ m.opc = .getM ∧ m.pa = lineOf pa ∧ m.spec = true ∧ m.src = agentOf p)) ∧
    exec (.dzero p 0 ra 0 true) s = s2.illegal x

/-- R238, R239, R241, R242: the range forms at L1 or above, on aligned operands within 2^48 bytes. An idle engine accepts a
range (rd 0), one without a line ends at once, and a busy engine does not accept (rd 1); RSTAT reads the status; RABORT of an
idle engine reads it, one of a busy engine with no line in progress stops it and reads it, and one with lines in progress
waits. R239, R240, R243: the engine takes up its next line, a populated DRAM line that its gatekeeper passes. At point .M the
line is asked for at its home with at most 16 requests outstanding; at point .P a line that the core does not hold is passed
over, and one that it holds is asked for when no other is in progress and the Cinder buffer has room for a dirty one. A line
that the gatekeeper refuses stops the engine with the error, once no earlier line is in progress. -/
def Obligations.RangeEngine : Prop :=
  (∀ (p : Nat) (rd ra rb : RegNo) (s s2 : State) (x : Ctx), fetched p s = some (x, s2) → s2.noSlot p →
     s2.leads p = false → rd ≠ ra → rd ≠ rb → 1 ≤ x.level →
     let a : Nat := ((s2.core p).g ra).toNat
     let n : Nat := ((s2.core p).g rb).toNat
     a % 64 = 0 → n % 64 = 0 → a + n ≤ 2 ^ 48 →
     let starts : Nat → Bool → Core → Core := fun op m c =>
       { c with range := { busy := true, pos := a, stop := a + n, next := a, op := op, point := m, world := x.world,
                           dom := x.dom, level := x.level, s2 := x.s2On, out := c.range.out, run := c.range.run + 1 } }
     let ok : Nat → Bool → Host.Outcome State Fault Refusal := fun op m =>
       .next (s2.after x (fun c => (starts op m c).setG rd 0) .seq)
     let all : List Instr := [.rcleanP p rd ra rb, .rinvP p rd ra rb, .rclinvP p rd ra rb, .rcleanM p rd ra rb,
       .rinvM p rd ra rb, .rclinvM p rd ra rb]
     ((s2.core p).range.busy = false →
       (n ≠ 0 → exec (.rcleanP p rd ra rb) s = ok 0 false ∧ exec (.rinvP p rd ra rb) s = ok 1 false ∧
         exec (.rclinvP p rd ra rb) s = ok 2 false ∧ exec (.rcleanM p rd ra rb) s = ok 0 true ∧
         exec (.rinvM p rd ra rb) s = ok 1 true ∧ exec (.rclinvM p rd ra rb) s = ok 2 true) ∧
       (n = 0 → (s2.core p).range.out = [] → ∀ i ∈ all, ∃ t, exec i s = .next t ∧ (t.core p).range.busy = false ∧
         (rd ≠ 0 → (t.core p).g rd = 0)) ∧
       exec (.rabort p rd 0 0) s = .next (s2.after x (fun c => c.setG rd c.range.status) .seq)) ∧
     ((s2.core p).range.busy = true →
       (∀ i ∈ all, exec i s = .next (s2.after x (fun c => c.setG rd 1) .seq)) ∧
       ((s2.core p).range.bad = none → (s2.core p).range.due = [] →
         ∃ t, exec (.rabort p rd 0 0) s = .next t ∧ (t.core p).range.busy = false ∧ (t.core p).range.aborted = true ∧
           (rd ≠ 0 → ((t.core p).g rd).getLsbD 0 = false ∧ ((t.core p).g rd).getLsbD 2 = true)) ∧
       ((s2.core p).range.bad = none → (s2.core p).range.due ≠ [] →
         exec (.rabort p rd 0 0) s = .next (s2.modCore p (fun c => { c with range := { c.range with stopping := true } })))) ∧
     exec (.rstat p rd 0 0) s = .next (s2.after x (fun c => c.setG rd c.range.status) .seq)) ∧
  (∀ (p pa : Nat) (s : State), isCore p = true → s.meshCalm →
     let r : RangeEng := (s.core p).range
     r.busy = true → r.stopping = false → r.bad = none → r.next < r.stop → s.rangeXlate p r = .ok pa → place pa = .dram →
     s.dramOk pa = true →
     let here : Bool := (((s.core p).line pa).map PLine.holds).getD false
     let room : Prop := ∀ l, (s.core p).line pa = some l → l.st.dirty = true → l.cinder = true ∨ (s.core p).cinderUsed < 32
     let asks : Prop := ∃ t, exec (.rangeEngineLine p) s = .next t ∧ (t.core p).range.next = r.next + 64 ∧
       (t.core p).range.due = r.due ++ [(lineOf pa, r.next)] ∧ (t.core p).range.out = r.out ++ [lineOf pa] ∧
       (t.core p).range.busy = true ∧
       ∃ m, t.net = s.net ++ [m] ∧ m.opc = .cmoReq ∧ m.pa = lineOf pa ∧ m.point = r.point ∧ m.src = agentOf p ∧
         m.cmoop = (if r.op = 2 then 3 else r.op)
     (s.verdict (s.dramGate pa) r.world r.dom (r.op == 0) (r.op != 0) (lineOf pa) 64 = none →
       (r.point = false → here = false → ∃ t, exec (.rangeEngineLine p) s = .next t ∧
         (t.core p).range.next = r.next + 64 ∧ (t.core p).range.due = r.due ∧ (t.core p).lines = (s.core p).lines) ∧
       (r.point = false → here = true → r.due = [] → room → asks) ∧
       (r.point = true → r.out.length < 16 → asks)) ∧
     (∀ q, s.verdict (s.dramGate pa) r.world r.dom (r.op == 0) (r.op != 0) (lineOf pa) 64 = some q →
       (r.due = [] → ∃ t, exec (.rangeEngineLine p) s = .next t ∧ (t.core p).range.busy = false ∧
         (t.core p).range.err = true ∧ (t.core p).range.ekind = 2) ∧
       (r.due ≠ [] → exec (.rangeEngineLine p) s = .next s)))

/-- R202–R204: each TLBM form, at its level and with operands in range, removes the entries that match from every TLB of its
core and retires; with BC = 1 it also sends one TlbOp to each target and counts the answers owed, and no other core changes.
TLBSYNC retires when none is owed. Below its level each form raises PRIV; a non-zero field that a form does not use, and an
operand out of range, are illegal. The core is not the leader of a Twin pair. -/
def Obligations.TlbMaintenance : Prop :=
  ∀ (p : Nat) (ra rb : RegNo) (s s2 : State) (x : Ctx), fetched p s = some (x, s2) → s2.noSlot p → s2.leads p = false →
    s2.meshCalm →
    let va : Nat := ((s2.core p).g ra).toNat
    let tag : Nat := ((s2.core p).g rb).toNat
    let vmid : Nat := (regimeOf x x.world 1).vmid
    let page : Nat := va / 4096 * 4096
    let high : Nat := if x.world then 3 else 2
    let here : TlbEnt → Bool := fun e => e.va == page / 2 ^ e.lg * 2 ^ e.lg
    let ts : List Nat := s2.tlbTargets x
    let drops : (Bool → Instr) → (TlbEnt → Bool) → Prop := fun i f =>
      exec (i false) s = .next (s2.after x (·.tlbRemove (fun e => e.world == x.world && f e)) .seq) ∧
      ∃ t, exec (i true) s = .next t ∧ s2.sends t (ts.map (fun q m => m.opc = .tlbOp ∧ m.dst = .agent (agentOf q))) ∧
        t.core p = (s2.after x (fun c => { c.tlbRemove (fun e => e.world == x.world && f e) with
          tlbOut := c.tlbOut + ts.length }) .seq).core p ∧ t.mem = s2.mem ∧ t.regs = s2.regs ∧
        ∀ q, q ≠ p → t.core q = s2.core q
    let priv : Instr → Prop := fun i => exec i s = s2.takes x { cause := 0x01 }
    let bad : Instr → Prop := fun i => exec i s = s2.illegal x
    (1 ≤ x.level →
      (va < 2 ^ 48 → tag < 2 ^ 16 → drops (fun b => .tlbiva p 0 ra rb b false)
        (fun e => e.guest && e.vmid == vmid && here e && (e.glob || e.asid == tag))) ∧
      (va < 2 ^ 48 → drops (fun b => .tlbivaa p 0 ra 0 b) (fun e => e.guest && e.vmid == vmid && here e)) ∧
      (tag < 2 ^ 16 → drops (fun b => .tlbiasid p 0 0 rb b)
        (fun e => e.guest && e.vmid == vmid && !e.glob && e.asid == tag)) ∧
      drops (fun b => .tlbivmall p 0 0 0 b) (fun e => e.guest && e.vmid == vmid) ∧
      ((s2.core p).tlbOut = 0 → exec (.tlbsync p 0 0 0 false) s = .next (s2.after x id .seq)) ∧
      ((s2.core p).tlbOut ≠ 0 → exec (.tlbsync p 0 0 0 false) s = .next s2)) ∧
    (high ≤ x.level →
      (tag < 2 ^ 12 → drops (fun b => .tlbivmid p 0 0 rb b) (fun e => e.guest && e.vmid == tag)) ∧
      (va < 2 ^ 48 → drops (fun b => .tlbihva p 0 ra 0 b) (fun e => !e.guest && here e)) ∧
      drops (fun b => .tlbihall p 0 0 0 b) (fun e => !e.guest) ∧
      drops (fun b => .tlbiworld p 0 0 0 b) (fun _ => true)) ∧
    (x.level = 0 → ∀ b, (va < 2 ^ 48 → tag < 2 ^ 16 → priv (.tlbiva p 0 ra rb b false)) ∧
      (va < 2 ^ 48 → priv (.tlbivaa p 0 ra 0 b)) ∧ (tag < 2 ^ 16 → priv (.tlbiasid p 0 0 rb b)) ∧
      priv (.tlbivmall p 0 0 0 b) ∧ priv (.tlbsync p 0 0 0 false)) ∧
    (x.level < high → ∀ b, (tag < 2 ^ 12 → priv (.tlbivmid p 0 0 rb b)) ∧ (va < 2 ^ 48 → priv (.tlbihva p 0 ra 0 b)) ∧
      priv (.tlbihall p 0 0 0 b) ∧ priv (.tlbiworld p 0 0 0 b)) ∧
    (∀ (rd : RegNo) (b : Bool), rd ≠ 0 → bad (.tlbiva p rd ra rb b false) ∧ bad (.tlbivaa p rd ra rb b) ∧
      bad (.tlbiasid p rd ra rb b) ∧ bad (.tlbivmall p rd ra rb b) ∧ bad (.tlbivmid p rd ra rb b) ∧
      bad (.tlbihva p rd ra rb b) ∧ bad (.tlbihall p rd ra rb b) ∧ bad (.tlbiworld p rd ra rb b) ∧
      bad (.tlbsync p rd ra rb b)) ∧
    (ra ≠ 0 → ∀ b, bad (.tlbiasid p 0 ra rb b) ∧ bad (.tlbivmall p 0 ra rb b) ∧ bad (.tlbivmid p 0 ra rb b) ∧
      bad (.tlbihall p 0 ra rb b) ∧ bad (.tlbiworld p 0 ra rb b) ∧ bad (.tlbsync p 0 ra rb b)) ∧
    (rb ≠ 0 → ∀ b, bad (.tlbivaa p 0 ra rb b) ∧ bad (.tlbivmall p 0 ra rb b) ∧ bad (.tlbihva p 0 ra rb b) ∧
      bad (.tlbihall p 0 ra rb b) ∧ bad (.tlbiworld p 0 ra rb b) ∧ bad (.tlbsync p 0 ra rb b)) ∧
    (2 ^ 48 ≤ va → ∀ b, bad (.tlbiva p 0 ra rb b false) ∧ bad (.tlbivaa p 0 ra rb b) ∧ bad (.tlbihva p 0 ra rb b)) ∧
    (2 ^ 16 ≤ tag → ∀ b, bad (.tlbiva p 0 ra rb b false) ∧ bad (.tlbiasid p 0 ra rb b)) ∧
    (2 ^ 12 ≤ tag → ∀ b, bad (.tlbivmid p 0 ra rb b)) ∧
    bad (.tlbsync p 0 0 0 true) ∧ (∀ b, bad (.tlbiva p 0 ra rb b true))

/-! Floating point and SIMD (R52, R84–R88). -/

/-- R84, R88: each scalar operation applies its IEEE 754 operation, in the model's exact arithmetic, to the low bits of its
operands under `FPSR.RM`, writes the result with zeros above it, and sets only its own flags in `FPSR`. A reserved precision
and a non-zero field that must be 0 are illegal. R86: the fused forms: one rounding of ±(fa × fb) ± fc. -/
def Obligations.ScalarAndFusedFpResults : Prop :=
  (∀ (p : Nat) (fd fa fb : RegNo) (z : BitVec 2) (s s2 : State) (x : Ctx), fetched p s = some (x, s2) →
     let c : Core := s2.core p
     let f : Fmt := fmtOf z.toNat
     let a : Nat := (c.fr fa).toNat % 2 ^ f.width
     let b : Nat := (c.fr fb).toNat % 2 ^ f.width
     let rm : Nat := fld (c.crv fpsrKey) fpsr_RM
     let top : Nat := 2 ^ (f.ew + f.fw)
     let puts : Nat × FpFlags → Host.Outcome State Fault Refusal := fun r =>
       .next (s2.after x (fun c => (c.raiseFlags r.2).setF fd (BitVec.ofNat 128 r.1)) .seq)
     let sets : Bool × FpFlags → Host.Outcome State Fault Refusal := fun r =>
       .next (s2.after x (fun c => (c.raiseFlags r.2).setG fd (if r.1 then 1 else 0)) .seq)
     (z ≠ 3 →
       exec (.fadd p fd fa fb z false) s = puts (fpAdd f rm a b) ∧ exec (.fsub p fd fa fb z) s = puts (fpSub f rm a b) ∧
       exec (.fmul p fd fa fb z) s = puts (fpMul f rm a b) ∧ exec (.fdiv p fd fa fb z) s = puts (fpDiv f rm a b) ∧
       exec (.fsqrt p fd fa 0 z) s = puts (fpSqrt f rm a) ∧ exec (.fmin p fd fa fb z) s = puts (fpMinMax f false a b) ∧
       exec (.fmax p fd fa fb z) s = puts (fpMinMax f true a b) ∧
       exec (.fneg p fd fa 0 z) s = puts (if a < top then a + top else a - top, {}) ∧
       exec (.fabs p fd fa 0 z) s = puts (a % top, {}) ∧
       exec (.fcpys p fd fa fb z) s = puts (a % top + (if b < top then 0 else top), {}) ∧
       exec (.fcmpeq p fd fa fb z) s = sets (fpCmp f false relEq a b) ∧
       exec (.fcmplt p fd fa fb z) s = sets (fpCmp f true relLt a b) ∧
       exec (.fcmple p fd fa fb z) s = sets (fpCmp f true relLe a b) ∧
       exec (.fcmpun p fd fa fb z) s = sets ((fpDecode f a).isNaN || (fpDecode f b).isNaN,
         { nv := (fpDecode f a).isSig || (fpDecode f b).isSig }) ∧
       exec (.fkind p fd fa 0 z) s = .next (s2.after x (fun c => c.setG fd (BitVec.ofNat 64 (fpKind f a))) .seq) ∧
       (∀ k : BitVec 5, k.toNat < 3 → exec (.fcvtf p fd fa k z) s =
         puts (fpConvert (fmtOf k.toNat) f rm ((c.fr fa).toNat % 2 ^ (fmtOf k.toNat).width))) ∧
       (∀ k : BitVec 5, k.toNat < 2 →
         let q := fpToInt f (if k = 1 then 1 else rm)
         exec (.fcvtgs p fd fa k z) s = .next (s2.after x (fun c => (c.raiseFlags (q (-(2 ^ 63)) (2 ^ 63 - 1) a).2).setG fd
           (BitVec.ofInt 64 (q (-(2 ^ 63)) (2 ^ 63 - 1) a).1)) .seq) ∧
         exec (.fcvtgu p fd fa k z) s = .next (s2.after x (fun c => (c.raiseFlags (q 0 (2 ^ 64 - 1) a).2).setG fd
           (BitVec.ofInt 64 (q 0 (2 ^ 64 - 1) a).1)) .seq)) ∧
       exec (.fcvtfs p fd fa fb z) s = puts (fpFromInt f rm (c.g fa).toInt) ∧
       exec (.fcvtfu p fd fa fb z) s = puts (fpFromInt f rm (c.g fa).toNat)) ∧
     exec (.fmvgf p fd fa fb 2) s = .next (s2.after x (fun c => c.setG fd ((c.fr fa).setWidth 64)) .seq) ∧
     exec (.fmvfg p fd fa fb 2) s = .next (s2.after x (fun c => c.setF fd ((c.g fa).setWidth 128)) .seq) ∧
     exec (.fadd p fd fa fb 3 false) s = s2.illegal x ∧ exec (.fadd p fd fa fb z true) s = s2.illegal x ∧
     (z ≠ 2 → exec (.fmvgf p fd fa fb z) s = s2.illegal x ∧ exec (.fmvfg p fd fa fb z) s = s2.illegal x) ∧
     (fb ≠ 0 → exec (.fsqrt p fd fa fb z) s = s2.illegal x ∧ exec (.fneg p fd fa fb z) s = s2.illegal x ∧
       exec (.fabs p fd fa fb z) s = s2.illegal x ∧ exec (.fkind p fd fa fb z) s = s2.illegal x)) ∧
  (∀ (p : Nat) (fd fa fb fc : RegNo) (z : BitVec 2) (s s2 : State) (x : Ctx), fetched p s = some (x, s2) →
     let c : Core := s2.core p
     let f : Fmt := fmtOf z.toNat
     let v : RegNo → Nat := fun r => (c.fr r).toNat % 2 ^ f.width
     let rm : Nat := fld (c.crv fpsrKey) fpsr_RM
     let puts : Nat × FpFlags → Host.Outcome State Fault Refusal := fun r =>
       .next (s2.after x (fun c => (c.raiseFlags r.2).setF fd (BitVec.ofNat 128 r.1)) .seq)
     (z ≠ 3 →
       exec (.fmadd p fd fa fb fc z 0 false) s = puts (fpFma f rm false false (v fa) (v fb) (v fc)) ∧
       exec (.fmsub p fd fa fb fc z 0) s = puts (fpFma f rm false true (v fa) (v fb) (v fc)) ∧
       exec (.fnmsub p fd fa fb fc z 0) s = puts (fpFma f rm true false (v fa) (v fb) (v fc)) ∧
       exec (.fnmadd p fd fa fb fc z 0) s = puts (fpFma f rm true true (v fa) (v fb) (v fc))) ∧
     exec (.fmadd p fd fa fb fc 3 0 false) s = s2.illegal x ∧
     (∀ r : BitVec 2, r ≠ 0 → exec (.fmadd p fd fa fb fc z r false) s = s2.illegal x))

/-- R85: a NaN operand gives the canonical quiet NaN (sign 0, exponent all ones, only the most significant fraction bit set)
in every arithmetic operation, and a signalling one sets NV; an operation on values that are no NaNs and whose exact result
fits leaves no flag. R85, R88: every result of a scalar operation fits its format, so that the bits above it are zero in its
register (R52). -/
def Obligations.FpNaNsAndWidths : Prop :=
  (∀ (z rm a b c : Nat), z < 3 →
     let f : Fmt := fmtOf z
     let qnan : Nat := (2 ^ f.ew - 1) * 2 ^ f.fw + 2 ^ (f.fw - 1)
     let sig : Bool := (fpDecode f a).isSig || (fpDecode f b).isSig
     ((fpDecode f a).isNaN = true ∨ (fpDecode f b).isNaN = true →
       fpAdd f rm a b = (qnan, { nv := sig }) ∧ fpSub f rm a b = (qnan, { nv := sig }) ∧
       fpMul f rm a b = (qnan, { nv := sig }) ∧ fpDiv f rm a b = (qnan, { nv := sig }) ∧
       (∀ n1 n2, (fpFma f rm n1 n2 a b c).1 = qnan)) ∧
     ((fpDecode f a).isNaN = true → fpSqrt f rm a = (qnan, { nv := (fpDecode f a).isSig }) ∧
       fpConvert f f rm a = (qnan, { nv := (fpDecode f a).isSig })) ∧
     ((fpDecode f a).isNaN = true → (fpDecode f b).isNaN = true → ∀ m, (fpMinMax f m a b).1 = qnan) ∧
     ((fpDecode f a).isNaN = true → ∀ lo hi, fpToInt f rm lo hi a = (0, { nv := true }))) ∧
  (∀ (z rm a b c : Nat), z < 3 → rm < 4 →
     let f : Fmt := fmtOf z
     a < 2 ^ f.width → b < 2 ^ f.width → c < 2 ^ f.width →
     (fpAdd f rm a b).1 < 2 ^ f.width ∧ (fpSub f rm a b).1 < 2 ^ f.width ∧ (fpMul f rm a b).1 < 2 ^ f.width ∧
     (fpDiv f rm a b).1 < 2 ^ f.width ∧ (fpSqrt f rm a).1 < 2 ^ f.width ∧
     (∀ n1 n2, (fpFma f rm n1 n2 a b c).1 < 2 ^ f.width) ∧ (∀ m, (fpMinMax f m a b).1 < 2 ^ f.width))

/-- R87: the SIMD operations, lane by lane. R87: the permutations of lanes, and the moves between g registers and lanes. -/
def Obligations.SimdResults : Prop :=
  (∀ (p : Nat) (fd fa fb : RegNo) (z : BitVec 2) (s s2 : State) (x : Ctx), fetched p s = some (x, s2) →
     let c : Core := s2.core p
     let w : Nat := 8 * 2 ^ z.toNat
     let m : Nat := 2 ^ w
     let lane : BitVec 128 → Nat → Nat := fun v i => v.toNat / 2 ^ (w * i) % m
     let sgn : Nat → Int := fun v => if v < m / 2 then v else (v : Int) - m
     let rm : Nat := fld (c.crv fpsrKey) fpsr_RM
     let f : Fmt := fmtOf (z.toNat - 1)
     let gives : Host.Outcome State Fault Refusal → (Nat → Nat → Nat) → Prop := fun o g =>
       ∃ v, o = .next (s2.after x (fun c => c.setF fd v) .seq) ∧
         ∀ i, i < 128 / w → lane v i = g (lane (c.fr fa) i) (lane (c.fr fb) i) % m
     let fgives : Host.Outcome State Fault Refusal → (Nat → Nat → Nat × FpFlags) → Prop := fun o g =>
       ∃ v fl, o = .next (s2.after x (fun c => (c.raiseFlags fl).setF fd v) .seq) ∧
         (∀ i, i < 128 / w → lane v i = (g (lane (c.fr fa) i) (lane (c.fr fb) i)).1 % m) ∧
         (fl.nv = true ↔ ∃ i, i < 128 / w ∧ (g (lane (c.fr fa) i) (lane (c.fr fb) i)).2.nv = true) ∧
         (fl.nx = true ↔ ∃ i, i < 128 / w ∧ (g (lane (c.fr fa) i) (lane (c.fr fb) i)).2.nx = true)
     let all : Bool → Nat := fun t => if t then m - 1 else 0
     gives (exec (.vadd p fd fa fb z false) s) (fun a b => a + b) ∧
     gives (exec (.vsub p fd fa fb z) s) (fun a b => a + m - b) ∧
     gives (exec (.vmul p fd fa fb z) s) (fun a b => a * b) ∧
     gives (exec (.vmins p fd fa fb z) s) (fun a b => if sgn a < sgn b then a else b) ∧
     gives (exec (.vminu p fd fa fb z) s) (fun a b => if a < b then a else b) ∧
     gives (exec (.vmaxs p fd fa fb z) s) (fun a b => if sgn a < sgn b then b else a) ∧
     gives (exec (.vmaxu p fd fa fb z) s) (fun a b => if a < b then b else a) ∧
     gives (exec (.vsll p fd fa fb z) s) (fun a b => a * 2 ^ (b % w)) ∧
     gives (exec (.vsrl p fd fa fb z) s) (fun a b => a / 2 ^ (b % w)) ∧
     gives (exec (.vsra p fd fa fb z) s) (fun a b => (sgn a / 2 ^ (b % w) % m).toNat) ∧
     gives (exec (.vaddss p fd fa fb z) s) (fun a b =>
       let t : Int := sgn a + sgn b
       let h : Int := ((m / 2 : Nat) : Int)
       ((if t < -h then -h else if h ≤ t then h - 1 else t) % (m : Int)).toNat) ∧
     gives (exec (.vaddus p fd fa fb z) s) (fun a b => if a + b < m then a + b else m - 1) ∧
     gives (exec (.vceq p fd fa fb z) s) (fun a b => all (a == b)) ∧
     gives (exec (.vcgts p fd fa fb z) s) (fun a b => all (decide (sgn b < sgn a))) ∧
     gives (exec (.vcgtu p fd fa fb z) s) (fun a b => all (decide (b < a))) ∧
     (z = 0 →
       exec (.vand p fd fa fb z) s = .next (s2.after x (fun c => c.setF fd (c.fr fa &&& c.fr fb)) .seq) ∧
       exec (.vor p fd fa fb z) s = .next (s2.after x (fun c => c.setF fd (c.fr fa ||| c.fr fb)) .seq) ∧
       exec (.vxor p fd fa fb z) s = .next (s2.after x (fun c => c.setF fd (c.fr fa ^^^ c.fr fb)) .seq) ∧
       exec (.vandn p fd fa fb z) s = .next (s2.after x (fun c => c.setF fd (c.fr fa &&& ~~~(c.fr fb))) .seq)) ∧
     (z ≠ 0 →
       fgives (exec (.vfadd p fd fa fb z) s) (fpAdd f rm) ∧ fgives (exec (.vfsub p fd fa fb z) s) (fpSub f rm) ∧
       fgives (exec (.vfmul p fd fa fb z) s) (fpMul f rm) ∧ fgives (exec (.vfdiv p fd fa fb z) s) (fpDiv f rm) ∧
       fgives (exec (.vfmin p fd fa fb z) s) (fpMinMax f false) ∧ fgives (exec (.vfmax p fd fa fb z) s) (fpMinMax f true) ∧
       fgives (exec (.vfceq p fd fa fb z) s) (fun a b => (all (fpCmp f false relEq a b).1, (fpCmp f false relEq a b).2)) ∧
       fgives (exec (.vfclt p fd fa fb z) s) (fun a b => (all (fpCmp f true relLt a b).1, (fpCmp f true relLt a b).2)) ∧
       exec (.vand p fd fa fb z) s = s2.illegal x ∧ exec (.vor p fd fa fb z) s = s2.illegal x ∧
       exec (.vxor p fd fa fb z) s = s2.illegal x ∧ exec (.vandn p fd fa fb z) s = s2.illegal x ∧
       exec (.vtbl p fd fa fb z) s = s2.illegal x) ∧
     (z = 0 → exec (.vfadd p fd fa fb z) s = s2.illegal x ∧ exec (.vfsub p fd fa fb z) s = s2.illegal x ∧
       exec (.vfmul p fd fa fb z) s = s2.illegal x ∧ exec (.vfdiv p fd fa fb z) s = s2.illegal x ∧
       exec (.vfmin p fd fa fb z) s = s2.illegal x ∧ exec (.vfmax p fd fa fb z) s = s2.illegal x ∧
       exec (.vfceq p fd fa fb z) s = s2.illegal x ∧ exec (.vfclt p fd fa fb z) s = s2.illegal x) ∧
     exec (.vadd p fd fa fb z true) s = s2.illegal x) ∧
  (∀ (p : Nat) (fd fa fb : RegNo) (z : BitVec 2) (s s2 : State) (x : Ctx), fetched p s = some (x, s2) →
     let c : Core := s2.core p
     let w : Nat := 8 * 2 ^ z.toNat
     let n : Nat := 128 / w
     let lane : BitVec 128 → Nat → Nat := fun v i => v.toNat / 2 ^ (w * i) % 2 ^ w
     let a : Nat → Nat := lane (c.fr fa)
     let b : Nat → Nat := lane (c.fr fb)
     let gives : Host.Outcome State Fault Refusal → (Nat → Nat) → Prop := fun o g =>
       ∃ v, o = .next (s2.after x (fun c => c.setF fd v) .seq) ∧ ∀ i, i < n → lane v i = g i
     gives (exec (.vzipl p fd fa fb z) s) (fun i => if i % 2 = 0 then a (i / 2) else b (i / 2)) ∧
     gives (exec (.vziph p fd fa fb z) s) (fun i => if i % 2 = 0 then a (n / 2 + i / 2) else b (n / 2 + i / 2)) ∧
     gives (exec (.vuzpe p fd fa fb z) s) (fun i => if i < n / 2 then a (2 * i) else b (2 * (i - n / 2))) ∧
     gives (exec (.vuzpo p fd fa fb z) s) (fun i => if i < n / 2 then a (2 * i + 1) else b (2 * (i - n / 2) + 1)) ∧
     gives (exec (.vdupg p fd fa fb z) s) (fun _ => (c.g fa).toNat % 2 ^ w) ∧
     (z = 0 → gives (exec (.vtbl p fd fa fb z) s) (fun i => if b i < 16 then a (b i) else 0)) ∧
     (fb.toNat < n →
       exec (.vmovgl p fd fa fb z) s = .next (s2.after x (fun c => c.setG fd (BitVec.ofNat 64 (a fb.toNat))) .seq) ∧
       gives (exec (.vinsg p fd fa fb z) s)
         (fun i => if i = fb.toNat then (c.g fa).toNat % 2 ^ w else lane (c.fr fd) i)) ∧
     (n ≤ fb.toNat → exec (.vmovgl p fd fa fb z) s = s2.illegal x ∧ exec (.vinsg p fd fa fb z) s = s2.illegal x))

/-! System instructions and control registers (R77, R89–R98, R121, R133, R134, R156–R158, R161, R226). -/

/-- R93–R96, R98, R156: FENCE, CSYNC, ISYNC, CLREX, WFI and SHIELD: what they do, their lowest levels, and the fields that
must be 0. A FENCE retires when every store is performed, and at once without a bit for earlier stores; it discards what was
read ahead when it has a bit for later loads, and with SS alone over a store still queued leaves a barrier in the store
queue; CSYNC and ISYNC retire when their context synchronisation ends; WFI retires when an interrupt that would be taken or
the NMI is there, and waits otherwise. The core is not the leader of a Twin pair; CLREX is stated where no snoop is held
back. R157, R158: a shield that has run down ends, and so does one of whose deferred interrupts some one has waited the
recorded `SHMAX` cycles; a shield that runs lets no maskable interrupt in, and while neither limit is reached goes on. -/
def Obligations.SystemResultsAndShield : Prop :=
  ((∀ (p : Nat) (imm : BitVec 16) (s s2 : State) (x : Ctx), fetched p s = some (x, s2) → s2.noSlot p → s2.leads p = false →
     let max : Nat := fld (s2.crRead p (lvKey x.world x.level 6)) shmax_MAX
     let n : Nat := if imm.toNat ≤ max then imm.toNat else max
     let barrier : SqEnt :=
       { va := 0, pa := 0, size := 0, data := 0, world := x.world, dom := x.dom, nc := false, ord := false }
     (0 < imm.toNat → imm.toNat < 16 → (s2.core p).lostPend = false →
       ((s2.core p).sq = [] → s2.postedOut p = false →
         exec (.fence p imm 0 false) s = .next (s2.after x (fun c =>
           if imm.getLsbD 1 ∨ imm.getLsbD 3 then { c with early := [] } else c) .seq)) ∧
       ((s2.core p).sq ≠ [] → (s2.core p).sq.length < 56 → imm.toNat = 1 →
         exec (.fence p imm 0 false) s = .next (s2.after x (fun c => { c with sq := c.sq ++ [barrier] }) .seq))) ∧
     (0 < imm.toNat → imm.toNat < 16 → imm.toNat % 4 = 0 →
       exec (.fence p imm 0 false) s = .next (s2.after x (fun c =>
         if imm.getLsbD 3 then { c with early := [] } else c) .seq)) ∧
     (imm.toNat = 0 ∨ 16 ≤ imm.toNat → exec (.fence p imm 0 false) s = s2.illegal x) ∧
     (∀ s3, syncContext p s2 = .ok () s3 →
       exec (.csync p 0 0) s = .next (s3.after x id .seq) ∧ exec (.isync p 0 0) s = .next (s3.after x id .seq) ∧
       (s3.core p).arch.crOld = []) ∧
     ((s2.core p).deferred = [] →
       exec (.clrex p 0 0) s = .next (s2.after x (fun c => { c with monitor := none, defers := [] }) .seq)) ∧
     (1 ≤ x.level →
       (n ≠ 0 → exec (.shield p imm 0) s =
         .next (s2.after x (fun c => { c with shOn := true, shield := n, shRec := max }) .seq)) ∧
       (n = 0 → exec (.shield p imm 0) s = .next (s2.after x (·.endShield) .seq))) ∧
     (x.level = 0 → exec (.wfi p 0 0) s = s2.takes x { cause := 0x01 } ∧
       exec (.shield p imm 0) s = s2.takes x { cause := 0x01 }) ∧
     (imm ≠ 0 → exec (.csync p imm 0) s = s2.illegal x ∧ exec (.isync p imm 0) s = s2.illegal x ∧
       exec (.clrex p imm 0) s = s2.illegal x ∧ exec (.wfi p imm 0) s = s2.illegal x) ∧
     (∀ r : BitVec 4, r ≠ 0 → exec (.fence p imm r false) s = s2.illegal x ∧ exec (.csync p imm r) s = s2.illegal x ∧
       exec (.isync p imm r) s = s2.illegal x ∧ exec (.clrex p imm r) s = s2.illegal x ∧
       exec (.wfi p imm r) s = s2.illegal x ∧ exec (.brk p imm r) s = s2.illegal x ∧
       exec (.shield p imm r) s = s2.illegal x) ∧
     exec (.fence p imm 0 true) s = s2.illegal x) ∧
   (∀ (p : Nat) (s s1 s2 : State) (x : Ctx), isCore p = true → ready p s = some (x, s1) →
     (s1.core p).busy = .idle ∨ (s1.core p).busy = .wfi → (s1.core p).lateAbort = none → fetchCheck x s1 = .ok () s2 →
     s2.noSlot p → s2.leads p = false → 1 ≤ x.level →
     (s2.wakes p = true → exec (.wfi p 0 0) s = .next (s2.after x (fun c => { c with wfi := false }) .seq)) ∧
     (s2.wakes p = false → exec (.wfi p 0 0) s = .next (s2.modCore p (fun c => { c with wfi := true }))))) ∧
  (∀ (p : Nat) (s : State), isCore p = true → (s.core p).shOn = true →
     ((s.core p).shield = 0 → exec (.shieldExpiry p) s = .next (s.setCore p (s.core p).endShield)) ∧
     ((s.core p).shield ≠ 0 → exec (.shieldExpiry p) s = .next s) ∧
     ((∃ e ∈ (s.core p).shDefs, (s.core p).shRec ≤ e.2) →
       exec (.shieldDeferLimit p) s = .next (s.setCore p (s.core p).endShield)) ∧
     ((∀ e ∈ (s.core p).shDefs, e.2 < (s.core p).shRec) → exec (.shieldDeferLimit p) s = .next s) ∧
     exec (.interruptEntry p) s = .next s ∧ (s.core p).endShield.shOn = false)

/-- R89–R91: the checks of MFC, MTC, MFCO and MTCO in their order, and the value that MFC and MFCO deliver. R89, R91, R133,
R134: MTC and MTCO to the scratch registers store the whole value; an MTC to a register of R133 keeps the value in effect
until the next context-synchronising event; `TPID` and `ESCR` have a copy per world. -/
def Obligations.ControlRegisters : Prop :=
  (∀ (p : Nat) (rd ra : RegNo) (crn : BitVec 12) (s s2 : State) (x : Ctx), fetched p s = some (x, s2) → x.level ≤ 3 →
     let priv : Host.Outcome State Fault Refusal := s2.takes x { cause := 0x01 }
     (crInfo crn = none → exec (.mfc p rd ra crn false) s = s2.illegal x ∧ exec (.mtc p rd ra crn) s = s2.illegal x ∧
       exec (.mfco p rd ra crn) s = s2.illegal x ∧ exec (.mtco p rd ra crn) s = s2.illegal x) ∧
     (∀ i, crInfo crn = some i →
       (x.world = false → 0x300 ≤ crn.toNat → crn.toNat ≤ 0x3FF →
         exec (.mfc p rd ra crn false) s = s2.illegal x ∧ exec (.mtc p rd ra crn) s = s2.illegal x) ∧
       ((0x300 ≤ crn.toNat ∧ crn.toNat ≤ 0x3FF) ∨ i.kind = .core →
         exec (.mfco p rd ra crn) s = s2.illegal x ∧ exec (.mtco p rd ra crn) s = s2.illegal x) ∧
       (∀ k, crKey x.world i crn = some k →
         (i.wl = none → exec (.mtc p rd ra crn) s = s2.illegal x) ∧
         (x.level < i.rl → exec (.mfc p rd ra crn false) s = priv) ∧
         (∀ w, i.wl = some w → x.level < w → exec (.mtc p rd ra crn) s = priv) ∧
         (i.rl ≤ x.level →
           exec (.mfc p rd ra crn false) s = .next (s2.after x (fun c => c.setG rd (s2.crRead p k)) .seq))) ∧
       (crn.toNat < 0x300 → i.kind ≠ .core →
         (x.level < 3 → exec (.mfco p rd ra crn) s = priv) ∧
         (x.level = 3 → exec (.mfco p rd ra crn) s =
           .next (s2.after x (fun c => c.setG rd (s2.crRead p ⟨false, crn⟩)) .seq)))) ∧
     exec (.mfc p rd ra crn true) s = s2.illegal x) ∧
  (∀ (p : Nat) (rd ra : RegNo) (s s2 : State) (x : Ctx), fetched p s = some (x, s2) → x.level ≤ 3 →
     let v : Word := (s2.core p).g ra
     (∃ t, exec (.mtc p rd ra 0x004) s = .next t ∧ t.crRead p ⟨x.world, 0x004⟩ = v ∧
       t.crRead p ⟨!x.world, 0x004⟩ = s2.crRead p ⟨!x.world, 0x004⟩ ∧ (∀ r, (t.core p).g r = (s2.core p).g r)) ∧
     (1 ≤ x.level → ∃ t, exec (.mtc p rd ra 0x105) s = .next t ∧ t.crRead p ⟨x.world, 0x105⟩ = v) ∧
     (x.level = 3 → ∃ t, exec (.mtco p rd ra 0x105) s = .next t ∧ t.crRead p ⟨false, 0x105⟩ = v) ∧
     (1 ≤ x.level → (s2.core p).arch.crOld = [] → ∃ t, exec (.mtc p rd ra 0x100) s = .next t ∧
       fld (t.crRead p ⟨x.world, 0x100⟩) vtb_BASE = fld v vtb_BASE ∧
       (t.core p).arch.crOld = [(⟨x.world, 0x100⟩, (s2.core p).crv ⟨x.world, 0x100⟩)]) ∧
     (∃ t, exec (.mtc p rd ra 0x003) s = .next t ∧ (t.crRead p ⟨false, 0x003⟩).toNat % 128 = v.toNat % 128))

/-- R121, R134: a write of 1 to `SPECCTL.PFLUSH` asks for the flush, and the next context-synchronising event empties the
return-address stack and the target buffer. R161: a write of 1 to `ESTAT.NMIACT` of the L2 or L3 copy clears the NMI-active
flag; a write of 0 leaves it. R226, R227: a write of the open `PEATCFG`: a size that fits beside the sealed one is taken, one
that does not fit sets `REFUSED` and leaves `SIZE`; a sealed write of a size of at most 4 that changes the size while open
Peat ways exist is refused below L3, and takes the open ways away at L3. -/
def Obligations.SpecialRegisterRows : Prop :=
  (∀ (p : Nat) (ra : RegNo) (s s2 : State) (x : Ctx), fetched p s = some (x, s2) → 1 ≤ x.level → x.level ≤ 3 →
     ((s2.core p).g ra).getLsbD 8 = true →
     (∃ t, exec (.specctlPflush p ra) s = .next t ∧ (t.core p).pflush = true ∧ (t.core p).ras = (s2.core p).ras) ∧
     ∀ u v, (u.core p).pflush = true → syncContext p u = .ok () v →
       (v.core p).ras = [] ∧ (v.core p).tgtBuf = [] ∧ (v.core p).pflush = false) ∧
  (∀ (p : Nat) (ra : RegNo) (s s2 : State) (x : Ctx), fetched p s = some (x, s2) →
     (x.world = true ∧ x.level = 3 →
       ∃ t, exec (.nmiactClear p ra 0x303) s = .next t ∧
         (t.core p).nmiAct = ((s2.core p).nmiAct && !((s2.core p).g ra).getLsbD 13)) ∧
     (x.world = false ∧ x.level = 2 →
       ∃ t, exec (.nmiactClear p ra 0x203) s = .next t ∧
         (t.core p).nmiAct = ((s2.core p).nmiAct && !((s2.core p).g ra).getLsbD 13))) ∧
  (∀ (p : Nat) (ra : RegNo) (s s2 : State) (x : Ctx), fetched p s = some (x, s2) → 1 ≤ x.level → x.level ≤ 3 →
     let v : Word := (s2.core p).g ra
     let n : Nat := fld v peatcfg_SIZE
     let o : CrKey := ⟨false, 0x111⟩
     let w : CrKey := ⟨true, 0x111⟩
     let c : Core := s2.core p
     (x.world = false →
       (n + c.crFld w peatcfg_SIZE ≤ 4 → ∃ t, exec (.peatcfgWrite p ra true) s = .next t ∧ (t.core p).crFld o peatcfg_SIZE = n) ∧
       (4 < n + c.crFld w peatcfg_SIZE → ∃ t, exec (.peatcfgWrite p ra true) s = .next t ∧
         (t.core p).crFld o peatcfg_SIZE = c.crFld o peatcfg_SIZE ∧ (t.core p).crFld o peatcfg_REFUSED = 1)) ∧
     (x.world = true → n ≤ 4 → n ≠ c.crFld w peatcfg_SIZE → c.peatUnits false ≠ 0 →
       (x.level < 3 → ∃ t, exec (.peatcfgWrite p ra false) s = .next t ∧
         (t.core p).crFld w peatcfg_SIZE = c.crFld w peatcfg_SIZE ∧ (t.core p).crFld w peatcfg_REFUSED = 1) ∧
       (x.level = 3 → ∃ t, exec (.peatcfgWrite p ra false) s = .next t ∧ (t.core p).crFld w peatcfg_SIZE = n ∧
         (t.core p).crFld o peatcfg_SIZE = 0 ∧ (t.core p).crFld o peatcfg_LOST = 1)))

/-! Gates and the legacy gateway (R99–R101, R104–R106, R162–R167, R354, R355). -/

/-- R164, R166: GCALL whose entry can be read: through a valid entry whose checks pass and whose frame can be stored, it
retires to the address and level of the entry, with the frame's address in g31 of the target level, zeroed argument registers
above `ACNT`, one more gate call outstanding and the monitor disarmed. An invalid entry or one of a lower level is GFAULT 1,
a full count of gate calls GFAULT 3, a disabled table or a number above `LAST` GFAULT 0; at L2 and L3 GCALL is illegal. -/
def Obligations.GateCallResults : Prop :=
  ∀ (p : Nat) (imm : BitVec 16) (s s2 s3 : State) (x : Ctx), fetched p s = some (x, s2) → s2.noSlot p →
    s2.leads p = false → syncContext p s2 = .ok () s3 →
    let y : Ctx := { x with eff := (s3.core p).arch.cr }
    let gtb : Word := y.cr ⟨x.world, 0x101⟩
    let g : Nat := imm.toNat
    let ea : Nat := fld gtb gtb_BASE * 32 + 32 * g
    let key : CrKey := lvKey x.world 1 3
    (2 ≤ x.level → exec (.gcall p imm 0) s = s2.illegal x) ∧
    (x.level ≤ 1 → fld gtb gtb_EN = 0 ∨ fld gtb gtb_LAST < g → exec (.gcall p imm 0) s = s3.takes x { cause := 0x0F }) ∧
    (x.level ≤ 1 → fld gtb gtb_EN = 1 → g ≤ fld gtb gtb_LAST → ∀ (d0 d1 d2 d3 : Word) (k : Nat) (sr s4 : State),
      readFour y ea (gfault 2 ea 2) s3 = .ok ((d0.toNat, d1.toNat, d2.toNat, d3.toNat), k) sr →
      let e : GateEnt := ⟨d0.toNat, d1.toNat, d2.toNat, d3.toNat⟩
      let tl : Nat := bits d0.toNat 48 2
      let n : Nat := bits d0.toNat 52 4
      let top : Nat := if d1 = 0 then (tget 0 (sr.core p).arch.sp (x.world, tl)).toNat else d1.toNat
      let fr : Nat := (top + 2 ^ 64 - 32) % 2 ^ 64
      let count : Nat := (sr.core p).crFld key (gdl tl)
      let frame : Line := (x.pc + 4).setWidth 512 ||| ((sr.core p).g 31).setWidth 512 <<< 64 |||
        (BitVec.ofNat 64 (x.level + b2n x.world * 4 + g * 2 ^ 16)).setWidth 512 <<< 128
      (e.valid = false ∨ tl < x.level →
        exec (.gcall p imm 0) s = sr.takes x { cause := 0x0F, eaddr := ea, info := 1 }) ∧
      (e.valid = true → x.level ≤ tl → count = 255 →
        exec (.gcall p imm 0) s = sr.takes x { cause := 0x0F, info := 3 }) ∧
      (e.valid = true → x.level ≤ tl → count < 255 → (∀ i, i < 4 → gateProbe y e i sr = .ok () sr) → fr % 32 = 0 →
        store { y with level := tl } 9 fr 32 frame true false k sr = .ok () s4 →
        ∃ t, exec (.gcall p imm 0) s = .next t ∧
          let d : Core := t.core p
          d.arch.pc = BitVec.ofNat 64 (bits d0.toNat 2 46 * 4) ∧ d.arch.level = tl ∧
          d.arch.world = (s4.core p).arch.world ∧ d.monitor = none ∧
          tget 0 d.arch.sp (x.world, tl) = BitVec.ofNat 64 fr ∧ d.crFld key (gdl tl) = (s4.core p).crFld key (gdl tl) + 1 ∧
          (∀ i : RegNo, n < i.toNat → i.toNat ≤ 8 → d.g i = 0) ∧
          (∀ i : RegNo, i ≠ 31 → i.toNat ≤ n ∨ 8 < i.toNat → d.g i = (s4.core p).g i))) ∧
    (∀ r : BitVec 4, r ≠ 0 → exec (.gcall p imm r) s = s2.illegal x)

/-- R101, R167: GRET whose frame can be read: through a good frame, it retires to the address, level and stack pointer that
the frame holds, with one gate call fewer outstanding, and shield and monitor ended. With no gate call outstanding, or
through a bad frame, it is IRET; at L2 and L3, or with a field not zero that must be, it is illegal. -/
def Obligations.GateReturnResults : Prop :=
  ∀ (p : Nat) (s s2 s3 : State) (x : Ctx), fetched p s = some (x, s2) → s2.noSlot p → syncContext p s2 = .ok () s3 →
    let y : Ctx := { x with eff := (s3.core p).arch.cr }
    let key : CrKey := lvKey x.world 1 3
    let n : Nat := (s3.core p).crFld key (gdl x.level)
    let a : Nat := ((s3.core p).g 31).toNat
    let bad : Host.Outcome State Fault Refusal := s3.takes x { cause := 0x0E, info := 1 }
    (2 ≤ x.level → exec (.gret p 0 0) s = s2.illegal x) ∧
    (x.level ≤ 1 → n = 0 → exec (.gret p 0 0) s = bad) ∧
    (x.level ≤ 1 → n ≠ 0 → ∀ (d0 d1 d2 d3 : Word) (k : Nat) (sr : State),
      readFour y a iret s3 = .ok ((d0.toNat, d1.toNat, d2.toNat, d3.toNat), k) sr →
      let l : Nat := bits d2.toNat 0 2
      let good : Prop := bits d2.toNat 3 13 = 0 ∧ bits d2.toNat 32 32 = 0 ∧ d3 = 0 ∧ l ≤ x.level ∧
        bits d2.toNat 2 1 = b2n x.world
      (¬ good → exec (.gret p 0 0) s = sr.takes x { cause := 0x0E, info := 1 }) ∧
      (good → ∃ t, exec (.gret p 0 0) s = .next t ∧
        let d : Core := t.core p
        d.arch.pc = d0 ∧ d.arch.level = l ∧ d.monitor = none ∧ d.shOn = false ∧
        d.crFld key (gdl x.level) = n - 1 ∧ tget 0 d.arch.sp (x.world, l) = d1 ∧
        (∀ r, r ≠ 31 → d.g r = (sr.core p).g r))) ∧
    (∀ imm : BitVec 16, imm ≠ 0 → exec (.gret p imm 0) s = s2.illegal x) ∧
    (∀ r : BitVec 4, r ≠ 0 → exec (.gret p 0 r) s = s2.illegal x)

/-- R104, R106, R354, R355: GATE with the mark before it, read as a load: in the sealed world a no-operation; from open L0
and L1 on a gateway page it changes to the sealed world at the same level and goes on after itself, with the predictors
cleared and the monitor disarmed. From open L2 and L3, off a gateway page, or as the first word of a page it is illegal.
GATEMARK is a no-operation, and the other words of its major are illegal. -/
def Obligations.GatewayResults : Prop :=
  ∀ (p : Nat) (q : Xl) (s s2 s3 s4 : State) (x : Ctx), fetched p s = some (x, s2) →
    (s2.noSlot p → s2.leads p = false → x.pc.toNat % 4096 ≠ 0 →
      translate x x.world x.level true ⟨false, false, true⟩ x.pc.toNat 1 s2 = .ok q s2 → readMark x q s2 = .ok () s4 →
      (x.world = true → exec (.gate p 0 0 false) s = .next (s4.after x id .seq)) ∧
      (x.world = false → x.level ≤ 1 → x.gateway q.pa = true → s4.leads p = false → syncContext p s4 = .ok () s3 →
        ∃ t, exec (.gate p 0 0 false) s = .next t ∧ (t.core p).arch.world = true ∧
          (t.core p).arch.level = (s4.core p).arch.level ∧ (t.core p).arch.pc = x.pc + 4 ∧ (t.core p).monitor = none ∧
          (t.core p).ras = [] ∧ (t.core p).tgtBuf = [] ∧ ∀ r, r ≠ 31 → (t.core p).g r = (s4.core p).g r) ∧
      (x.world = false → 2 ≤ x.level ∨ x.gateway q.pa = false → exec (.gate p 0 0 false) s = s2.illegal x)) ∧
    (s2.noSlot p → x.pc.toNat % 4096 = 0 → exec (.gate p 0 0 false) s = s2.illegal x) ∧
    (s2.noSlot p → exec (.gate p 0 0 true) s = s2.illegal x) ∧
    exec (.gatemark p false) s = .next (s2.after x id .seq) ∧ exec (.gatemark p true) s = s2.illegal x

/-! Interrupts, the NMI, and the other events of a core (R78, R110, R127, R154, R159, R160, R194, R222, R291). -/

/-- R154: which maskable interrupt a core takes: of its own world a level above the current one, or the current one with
`IE`; from the open world every sealed one, at L3; in the sealed world an open one below `OPTHR` as FOREIGN. -/
def Obligations.InterruptChoice : Prop :=
  ∀ (p : Nat) (s : State),
    let c : Core := s.core p
    let w : Bool := c.arch.world
    let lv : Nat := c.arch.level
    let has : PageKind → Prop := fun q => viewPrio c.intView q ≠ 31
    let ie : Nat → Prop := fun t => fld (c.crv (lvKey w t 3)) estat_IE = 1
    (w = false → has .sealedL3 → s.intPick p = some ⟨3, 0x20, 7⟩) ∧
    (w = false → ¬ has .sealedL3 → has .sealedL1 → s.intPick p = some ⟨3, 0x20, 5⟩) ∧
    (w = false → ¬ has .sealedL3 → ¬ has .sealedL1 → has .openL2 → (lv < 2 ∨ (lv = 2 ∧ ie 2)) →
      s.intPick p = some ⟨2, 0x20, 2⟩) ∧
    (w = false → ¬ has .sealedL3 → ¬ has .sealedL1 → ¬ has .openL2 → has .openL1 → (lv < 1 ∨ (lv = 1 ∧ ie 1)) →
      s.intPick p = some ⟨1, 0x20, 1⟩) ∧
    (w = true → has .sealedL3 → (lv < 3 ∨ (lv = 3 ∧ ie 3)) → s.intPick p = some ⟨3, 0x20, 7⟩) ∧
    (w = true → ¬ has .sealedL3 → has .sealedL1 → (lv < 1 ∨ (lv = 1 ∧ ie 1)) → s.intPick p = some ⟨1, 0x20, 5⟩) ∧
    (w = true → lv = 3 → ¬ ie 3 → s.intPick p = none) ∧
    (∀ k, s.targetOf p = some k → w = true → ¬ has .sealedL3 → ¬ has .sealedL1 → lv < 3 ∨ ie 3 →
      viewPrio c.intView .openL2 < s.fget (rTgtCfg k) idistTgtCfg_OPTHR → s.intPick p = some ⟨3, 0x22, 2⟩) ∧
    (c.shOn = true → s.intNow p = none)

/-- R96, R142, R145, R146, R154, R159: a core at a boundary that has a latched NMI to take, or an interrupt and no such NMI,
and whose context synchronisation ends, enters for it: level, cause and `INFO` in `ESTAT`, the address before which it falls
in `EPC` (WFI + 4 for a waiting WFI), `IE` saved and cleared; the NMI also sets the NMI-active flag and clears the latch.
R159, R160: an NMI event reaches a core: a running core without an active NMI latches it; with one, the event is lost, a
double NMI is recorded and reported as fatal; a core that does not run discards it. -/
def Obligations.AsynchronousEntries : Prop :=
  (∀ (p : Nat) (s s1 : State), isCore p = true → (s.core p).atBoundary = true → s.follows p = false → s.leads p = false →
     syncContext p s = .ok () s1 →
     let c : Core := s.core p
     let ret : Word := if c.wfi then c.arch.pc + 4 else c.arch.pc
     let enters : Host.Outcome State Fault Refusal → Nat → Nat → Nat → Prop := fun o lv cause info =>
       ∃ t, o = .next t ∧
         let w : Bool := c.arch.world || decide (lv = 3)
         let es : Word := (t.core p).crv (lvKey w lv 3)
         (t.core p).arch.level = lv ∧ (t.core p).arch.world = w ∧
         fld ((t.core p).crv (lvKey w lv 2)) epc_PC = bits ret.toNat 2 46 ∧
         fld es estat_CAUSE = bits cause 0 6 ∧ fld es estat_INFO = bits info 0 16 ∧ fld es estat_IE = 0 ∧
         fld es estat_PIE = fld (c.crv (lvKey w lv 3)) estat_IE ∧ fld es estat_PLEVEL = bits c.arch.level 0 2 ∧
         fld es estat_PWORLD = b2n c.arch.world ∧ fld es estat_NMI = b2n (decide (cause = 0x21)) ∧
         (t.core p).shOn = false ∧ (t.core p).monitor = none ∧ (t.core p).wfi = false ∧
         (∀ r, r ≠ 31 → (t.core p).g r = c.g r) ∧ (cause = 0x21 → (t.core p).nmiAct = true ∧ (t.core p).nmiLatch = false)
     (∀ i, s.intNow p = some i → c.nmiDue = false → enters (exec (.interruptEntry p) s) i.level i.cause i.info) ∧
     (c.nmiLatch = true → c.nmiAct = false → enters (exec (.nmiEntry p) s) (s.nmiLevel p) 0x21 0)) ∧
  (∀ (p src : Nat) (s : State), isCore p = true → s.nmiQ.find? (fun e => e.1 == p) = some (p, src) →
     ∃ t, exec (.nmiEvent p) s = .next t ∧ t.nmiQ = s.nmiQ.erase (p, src) ∧
       ((s.core p).run = .running → (s.core p).nmiAct = false → (t.core p).nmiLatch = true ∧ t.fbq = s.fbq ∧ t.regs = s.regs) ∧
       ((s.core p).run = .running → (s.core p).nmiAct = true → (t.core p).nmiLatch = false ∧
         t.fget ⟨.fbSrcStat, src, 0⟩ fbSrcStat_NMILOST = 1 ∧ (∃ e ∈ t.fbq, e.src = haltSrc p ∧ e.cls = .ft) ∧
         ∀ k, s.targetOf p = some k → t.fget (rTgtStat k) idistTgtStat_DBLNMI = 1) ∧
       ((s.core p).run ≠ .running → t.fget ⟨.fbSrcStat, src, 0⟩ fbSrcStat_NMILOST = 1 ∧ t.core p = s.core p))

/-- R78, R110, R127, R194, R222, R232, R291: the remaining events of a core: fetch restarts after a misprediction; the
deferral of a line's snoops ends once its time has run out, and the snoop that it held is served; a refused speculative
request for a line that is not there is made again as GetS without its flag; a walk that ends well fills the TLBs; a line
that has arrived before every other of its set that waits, or that an access has missed on while it left, takes a free L2
way. -/
def Obligations.CoreEvents : Prop :=
  ∀ (p : Nat) (s : State), isCore p = true →
    exec (.mispredictRedirect p) s = .next (s.modCore p (fun c => { c with redirect := false })) ∧
    ((∀ e ∈ (s.core p).defers, e.2 ≠ 0) → exec (.snoopDeferExpiry p) s = .next s) ∧
    (∀ ln m, (s.core p).defers = [(ln, 0)] → (s.core p).deferred = [m] → lineOf m.pa = ln →
      exec (.snoopDeferExpiry p) s = .next ((s.setCore p { s.core p with defers := [], deferred := [] }).snoop p m .none)) ∧
    (∀ ln, (s.core p).defers = [(ln, 0)] → (s.core p).deferred = [] →
      exec (.snoopDeferExpiry p) s = .next (s.setCore p { s.core p with defers := [], deferred := [] })) ∧
    (∀ ln, lineOf ln = ln → (s.core p).executes = true → (s.core p).halted = false → (s.core p).missFull .data = false → (s.core p).specRefused.contains ln = true → (s.core p).line ln = none → s.meshCalm →
      ∃ t m, exec (.speculativeReissue p ln) s = .next t ∧ t.net = s.net ++ [m] ∧ m.opc = .getS ∧ m.pa = ln ∧
        m.spec = false ∧ m.src = agentOf p ∧ (t.core p).specRefused = (s.core p).specRefused.erase ln) ∧
    (∀ (x : Ctx) (s1 : State) (va : Nat) (e : TlbEnt), ready p s = some (x, s1) → s.due p = false → va < 2 ^ 48 →
      (s1.core p).tlbHits false (regimeOf x x.world x.level) va = [] →
      walk (s1.walkRead p x.world (regimeOf x x.world x.level).dom) false (regimeOf x x.world x.level)
        (fun l => grants1 l.r l.w l.x l.u l.pxn x.level needLoad) va = .ok e →
      permit e x.level needLoad = none →
      exec (.tableWalk p false va false) s = .next (s1.modCore p (·.tlbFill false va e))) ∧
    (∀ ln l w, (s.core p).line ln = some l → l.way = none → l.cinder = false → l.st = .S ∨ l.st = .E ∨ l.st = .M ∨ l.st = .O →
      (s.core p).flaws = [] → (s.core p).fillBehind ln = false →
      (s.core p).victimWay (l2Set (lineOf ln)) = some w → (s.core p).inWay (l2Set (lineOf ln)) w = none →
      ∃ t l', exec (.l2Fill p ln .none) s = .next t ∧ (t.core p).line ln = some l' ∧ l'.way = some w ∧ l'.data = l.data ∧
        l'.st = l.st) ∧
    (∀ ln l w, (s.core p).line ln = some l → l.way = none → l.cinder = true → l.want = true →
      (s.core p).flaws = [] →
      l.st = .MI_A ∨ l.st = .OI_A ∨ l.st = .EI_A →
      (s.core p).victimWay (l2Set (lineOf ln)) = some w → (s.core p).inWay (l2Set (lineOf ln)) w = none →
      ∃ t l', exec (.cinderRecall p ln) s = .next t ∧ (t.core p).line ln = some l' ∧ l'.way = some w ∧ l'.data = l.data ∧
        l'.st = l.st)

/-! Coherence: homes, snoops, answers (R278–R293, R297, R300, R312). -/

/-- R279, R280, R281, R282, R283: a request that starts at its home while its bucket does not move, its line is not held and
no storage error waits in the slice. One that the gatekeeper refuses is answered with Refuse, and changes no directory entry,
no LLC line and no transaction. The others send what R281–R283 give, and the transaction stays open with the entry that takes
effect at its close, for: GetS in DI, DS and DX; GetM in DI, DS and DX; Upg in DI and of a listed agent; ReadOnce in DI, DX
and DO; WriteUnique and WritePtl in DI and of a line with only an owner; CmoReq at point .P of nobody's line and of the
requester's; and the Puts of the owner; in DI and DS with the line in the slice, or for GetS in DI in memory. Puts of an
agent that is not the owner are answered with StalePutAck and change nothing. -/
def Obligations.HomeTransactions : Prop :=
  ∀ (c : Instr) (sn : Nat) (m : Msg) (s s1 : State), s.offers c sn m s1 → s1.meshCalm → s1.homeClear sn m.pa →
    s1.slFlaws = [] →
    let r : Nat := m.req
    let pa : Nat := m.pa
    let dir : Option (Nat × DirEnt) := s1.dirFind sn pa
    let wayFree : Prop := ∃ w, w < 16 ∧ tfind s1.dir (sn, dirSet pa, w) = none ∧ s1.wayHeld sn (dirSet pa) w = false ∧
      s1.wayAwaited sn pa (tget [] s1.hq sn) = false
    let closed : State → Prop := fun t => tfind t.txns (sn, pa) = none
    (m.opc ∉ [Opc.putM, .putO, .putE] → s1.dramOk pa = true →
      ∀ rsn, s1.verdict (s1.dramGate pa) m.world m.dom (needs m).1 (needs m).2 pa 64 = some rsn → rsn ≠ 3 →
      ∃ t, exec c s = .next t ∧ s1.sends t [fun k => k.isTo .refuse pa (.agent r) ∧ k.status = 1 ∧ k.orig = m.opc] ∧
        t.txns = s1.txns ∧ t.dir = s1.dir ∧ t.llc = s1.llc ∧ (m.spec = true → t.fbq = s1.fbq ∧ t.regs = s1.regs)) ∧
    (s1.homeGrants m →
      (m.opc = .getS → dir = none → wayFree → ∀ w x, s1.llcFind sn pa = some (w, x) →
        ∃ t, exec c s = .next t ∧
          s1.sends t [fun k => k.isTo .data pa (.agent r) ∧ k.data = x.data ∧ k.poison = x.poison ∧ k.grant = 2 ∧ k.ackcnt = 0] ∧
          t.opened sn m .unblock (some { line := pa, st := 2, owner := r })) ∧
      (m.opc = .getS → dir = none → wayFree → s1.llcFind sn pa = none →
        ∃ t, exec c s = .next t ∧ t.net = s1.net ∧ t.opened sn m .mem (some { line := pa, st := 2, owner := r }) ∧
          ∃ q, (tget {} t.chans (s1.serving pa)).queue = (tget {} s1.chans (s1.serving pa)).queue ++ [q] ∧ q.pa = pa ∧
            q.write = false ∧ q.dom = some m.dom ∧ q.who = .home sn pa) ∧
      (m.opc = .getM ∨ m.opc = .upg → dir = none → wayFree → ∀ w x, s1.llcFind sn pa = some (w, x) →
        ∃ t, exec c s = .next t ∧
          s1.sends t [fun k => k.isTo .data pa (.agent r) ∧ k.data = x.data ∧ k.poison = x.poison ∧ k.grant = 3 ∧ k.ackcnt = 0] ∧
          t.opened sn m .unblock (some { line := pa, st := 2, owner := r })) ∧
      (m.opc = .getS → ∀ w e, dir = some (w, e) → e.st = 1 → ∀ v x, s1.llcFind sn pa = some (v, x) →
        ∃ t, exec c s = .next t ∧
          s1.sends t [fun k => k.isTo .data pa (.agent r) ∧ k.data = x.data ∧ k.grant = 1] ∧
          t.opened sn m .unblock (some (e.addSharer r))) ∧
      (m.opc = .getS → ∀ w e, dir = some (w, e) → e.st = 2 →
        ∃ t, exec c s = .next t ∧ s1.sends t [fun k => k.isTo .fwdGetS pa (.agent e.owner) ∧ k.req = r] ∧
          t.opened sn m .unblock (some { line := pa, st := 3, owner := e.owner, ptrs := [r] })) ∧
      (m.opc = .getM → ∀ w e, dir = some (w, e) → e.st = 2 →
        ∃ t, exec c s = .next t ∧ s1.sends t [fun k => k.isTo .fwdGetM pa (.agent e.owner) ∧ k.req = r ∧ k.ackcnt = 0] ∧
          t.opened sn m .unblock (some { line := pa, st := 2, owner := r })) ∧
      (m.opc = .getM → ∀ w e, dir = some (w, e) → e.st = 1 → ∀ v x, s1.llcFind sn pa = some (v, x) →
        let sh : List Nat := (s1.listed e).filter (fun a => a != r)
        ∃ t, exec c s = .next t ∧
          s1.sends t (sh.map (fun a => fun k => k.isTo .inv pa (.agent a) ∧ k.req = r ∧ k.ackTo = false) ++
            [fun k => k.isTo .data pa (.agent r) ∧ k.data = x.data ∧ k.grant = 3 ∧ k.ackcnt = sh.length]) ∧
          t.opened sn m .unblock (some { line := pa, st := 2, owner := r })) ∧
      (m.opc = .upg → ∀ w e, dir = some (w, e) → e.lists r = true → (e.st ≠ 3 ∨ e.owner = r) →
        let sh : List Nat := (s1.listed e).filter (fun a => a != r)
        ∃ t, exec c s = .next t ∧
          s1.sends t (sh.map (fun a => fun k => k.isTo .inv pa (.agent a) ∧ k.req = r ∧ k.ackTo = false) ++
            [fun k => k.isTo .ackCount pa (.agent r) ∧ k.ackcnt = sh.length]) ∧
          t.opened sn m .unblock (some { line := pa, st := 2, owner := r })) ∧
      (m.opc = .upg → ∀ w e, dir = some (w, e) → e.lists r = true → e.st = 3 → e.owner ≠ r →
        let all : List Nat := e.owner :: (s1.listed e).filter (fun a => a != r)
        ∃ t, exec c s = .next t ∧
          s1.sends t (all.map (fun a => fun k => k.isTo .inv pa (.agent a) ∧ k.req = r ∧ k.ackTo = false) ++
            [fun k => k.isTo .ackCount pa (.agent r) ∧ k.ackcnt = all.length]) ∧
          t.opened sn m .unblock (some { line := pa, st := 2, owner := r })) ∧
      (m.opc = .readOnce → ∀ w e, dir = some (w, e) → e.st = 2 ∨ e.st = 3 →
        ∃ t, exec c s = .next t ∧ s1.sends t [fun k => k.isTo .fwdReadOnce pa (.agent e.owner) ∧ k.req = r] ∧
          t.opened sn m .unblock (some e)) ∧
      (m.opc = .readOnce → dir = none → ∀ w x, s1.llcFind sn pa = some (w, x) →
        ∃ t, exec c s = .next t ∧ s1.sends t [fun k => k.isTo .roData pa (.agent r) ∧ k.data = x.data] ∧
          t.opened sn m .unblock none ∧ t.dir = s1.dir) ∧
      (m.opc = .writeUnique → dir = none → ∀ w x, s1.llcFind sn pa = some (w, x) →
        ∃ t, exec c s = .next t ∧ s1.sends t [fun k => k.isTo .wrAck pa (.agent r)] ∧ closed t ∧ t.dir = s1.dir ∧
          tfind t.llc (sn, llcSet pa, w) = some ⟨pa, true, lineMerge 0 m.bmask m.data, unpoisonMask 0 m.bmask ||| m.poison⟩) ∧
      (m.opc = .writeUnique → ∀ w e, dir = some (w, e) → e.st = 2 → s1.listed e = [] →
        ∃ t, exec c s = .next t ∧ s1.sends t [fun k => k.isTo .inv pa (.agent e.owner) ∧ k.ackTo = true] ∧
          t.opened sn m .snoop (some e)) ∧
      (m.opc = .writePtl → dir = none → ∀ w x, s1.llcFind sn pa = some (w, x) →
        ∃ t, exec c s = .next t ∧ s1.sends t [fun k => k.isTo .wrAck pa (.agent r)] ∧ closed t ∧ t.dir = s1.dir ∧
          tfind t.llc (sn, llcSet pa, w) =
            some ⟨pa, true, lineMerge x.data m.bmask m.data, unpoisonMask x.poison m.bmask ||| m.poison⟩) ∧
      (m.opc = .writePtl → ∀ w e, dir = some (w, e) → e.st = 2 → s1.listed e = [] →
        ∃ t, exec c s = .next t ∧ s1.sends t [fun k => k.isTo .snpCleanInv pa (.agent e.owner)] ∧
          t.opened sn m .snoop (some e)) ∧
      (m.opc = .cmoReq → dir = none → m.point = false →
        ∃ t, exec c s = .next t ∧ s1.sends t [fun k => k.isTo .cmoAck pa (.agent r)] ∧ closed t ∧ t.llc = s1.llc) ∧
      (m.opc = .cmoReq → ∀ w e, dir = some (w, e) → m.point = false → e.lists r = true →
        ∃ t, exec c s = .next t ∧
          s1.sends t [fun k => k.isTo (if m.cmoop = 0 then .snpClean else if m.cmoop = 1 then .snpDiscard else .snpCleanInv) pa
            (.agent r)] ∧ t.opened sn m .snoop (some e))) ∧
    (∀ w e, dir = some (w, e) → (e.st = 2 ∨ e.st = 3) → e.owner = m.src →
      let after : Option DirEnt := if e.st = 2 then none else some { e with st := 1 }
      (m.opc = .putE → ∃ t, exec c s = .next t ∧ s1.sends t [fun k => k.isTo .putAck pa (.agent r)] ∧
        t.opened sn m .unblock after ∧ t.llc = s1.llc) ∧
      (m.opc = .putM ∨ m.opc = .putO → ∀ v x, s1.llcFind sn pa = some (v, x) →
        ∃ t, exec c s = .next t ∧ s1.sends t [fun k => k.isTo .putAck pa (.agent r)] ∧ t.opened sn m .unblock after ∧
          tfind t.llc (sn, llcSet pa, v) = some ⟨pa, true, m.data, m.poison⟩)) ∧
    (m.opc ∈ [Opc.putM, .putO, .putE] → (∀ w e, dir = some (w, e) → e.st = 1 ∨ e.owner ≠ m.src) →
      ∃ t, exec c s = .next t ∧ s1.sends t [fun k => k.isTo .stalePutAck pa (.agent r)] ∧ t.txns = s1.txns ∧
        t.dir = s1.dir ∧ t.llc = s1.llc)

/-- R278, R300, R302, R312, R314: a request behind an older one of its line, or whose line is held, waits in the home queue;
with no free entry a VC3 request is answered with Retry, and any other stays on the mesh and is marked as waiting. A request
whose bucket has moved is answered with Redir, at which its sender sends it to the slice named; one that was answered with
Retry is sent again after 64 CLK_MESH cycles, 7 CLK_PERI cycles of the model (log entry 4). -/
def Obligations.HomeQueueing : Prop :=
  (∀ (c : Instr) (sn : Nat) (m : Msg) (s s1 : State), s.brings c sn m s1 → s1.meshCalm →
    let q : List Msg := tget [] s1.hq sn
    let older : Bool := q.any (fun k => k.pa == m.pa)
    let at1 : Nat := s1.fget ⟨.slBkt, bucketOf m.pa, 0⟩ slBkt_SN
    let moving : Nat := s1.fget ⟨.slBkt, bucketOf m.pa, 0⟩ slBkt_STATE
    (older = true ∨ (at1 = sn ∧ moving = 0 ∧ s1.lineHeld sn m.pa = true) →
      (s1.queueRoom sn m.vc3 = true → exec c s = .next { s1 with hq := tput s1.hq sn (q ++ [m]) }) ∧
      (s1.queueRoom sn m.vc3 = false → m.vc3 = true →
        ∃ t, exec c s = .next t ∧ s1.sends t [fun k => k.isTo .retry m.pa (.agent m.req) ∧ k.orig = m.opc] ∧
          t.fget ⟨.slHqcfg, sn, 0⟩ slHqcfg_QOVF = 1 ∧ t.hq = s1.hq) ∧
      (s1.queueRoom sn m.vc3 = false → m.vc3 = false → exec c s = .next (s.reqWaits m))) ∧
    (older = false → at1 ≠ sn → moving ≠ 3 →
      ∃ t, exec c s = .next t ∧ t.hq = s1.hq ∧ t.txns = s1.txns ∧
        s1.sends t [fun k => k.isTo .redir m.pa (.agent m.req) ∧ k.orig = m.opc ∧ k.aux = at1])) ∧
  (∀ (a : Nat) (m : Msg) (s s1 : State), agentIdOk a = true → s1.meshCalm →
    (s.waitsAt .redir a m s1 →
      ∃ t, exec (.redir a m.pa) s = .next t ∧ s1.sends t [fun k => k.isTo m.orig m.pa (.home m.aux) ∧ k.src = a]) ∧
    (s.recv (fun k => k.opc == .retry && decide (k.dst = .agent a)) = some (m, s1) →
      exec (.retry a) s = .next { s1 with resend := s1.resend ++ [({ m with opc := m.orig, src := a }, s1.now + 7)] })) ∧
  (∀ (a pa due : Nat) (m : Msg) (s : State), agentIdOk a = true → s.meshCalm → m.src = a → m.pa = pa →
    s.resend.find? (fun e => e.1.src == a && (e.1.pa == pa || e.1.pa == lineOf pa) && decide (e.2 ≤ s.now)) = some (m, due) →
    let nc : Bool := m.opc == .ncRead || m.opc == .ncWriteP || m.opc == .ncWriteO
    ∃ t, exec (.vc3Resend a pa) s = .next t ∧ t.resend = s.resend.erase (m, due) ∧
      s.sends t [fun k => k.isTo m.opc pa (if nc then .target else .home (s.homeFrom (routerOf a) pa)) ∧ k.src = a ∧
        k.data = m.data])

/-- R289: what a core answers to each VC1 message for a line that it holds in a stable state that the message can meet, to
whom, and the state that the line takes; where it does not hold the line, FwdMiss, InvAck or SnpAck. Stated where the core
defers no snoop, no storage error waits in its caches, and its own range engine has not brought the message. -/
def Obligations.SnoopAnswers : Prop :=
  ∀ (p : Nat) (m : Msg) (s s1 : State), isCore p = true → (s1.core p).defers = [] → (s1.core p).deferred = [] →
    (s1.core p).flaws = [] → m.tag ≠ (s1.core p).range.run + 1 → s1.meshCalm →
    let a : Nat := agentOf p
    let pa : Nat := m.pa
    let home : Node := .home (s1.homeNow pa)
    let gone : State → Prop := fun t => (t.core p).line pa = none
    let acks : State → Opc → Node → Prop := fun t o d => s1.sends t [fun k => k.isTo o pa d ∧ k.src = a]
    ((s1.core p).line m.pa = none →
      (s.waitsAt .fwdGetS a m s1 → ∃ t, exec (.fwdGetS a pa .none) s = .next t ∧ acks t .fwdMiss home ∧ gone t) ∧
      (s.waitsAt .inv a m s1 →
        ∃ t, exec (.inv a pa) s = .next t ∧ acks t .invAck (if m.ackTo then home else .agent m.req) ∧ gone t) ∧
      (s.waitsAt .snpClean a m s1 → ∃ t, exec (.snpClean a pa) s = .next t ∧ acks t .snpAck home ∧ gone t) ∧
      (s.waitsAt .snpCleanInv a m s1 → ∃ t, exec (.snpCleanInv a pa .none) s = .next t ∧ acks t .snpAck home ∧ gone t) ∧
      (s.waitsAt .snpDiscard a m s1 → ∃ t, exec (.snpDiscard a pa) s = .next t ∧ acks t .snpAck home ∧ gone t)) ∧
    (∀ l, (s1.core p).line m.pa = some l →
    let po : BitVec 4 := poison4 ((s1.core p).merged pa l).poison
    let goesTo : State → CState → Prop := fun t st =>
      ∃ l', (t.core p).line pa = some l' ∧ l'.st = st ∧ l'.data = l.data ∧ l'.way = l.way
    let gives : State → Opc → Node → Prop := fun t o d =>
      s1.sends t [fun k => k.isTo o pa d ∧ k.src = a ∧ k.data = l.data ∧ k.poison = po ∧ k.ackcnt = m.ackcnt]
    (s.waitsAt .fwdGetS a m s1 →
      (l.st = .M ∨ l.st = .O → ∃ t, exec (.fwdGetS a pa .none) s = .next t ∧ gives t .data (.agent m.req) ∧ goesTo t .O) ∧
      (l.st = .E → ∃ t, exec (.fwdGetS a pa .none) s = .next t ∧ goesTo t .S ∧
        s1.sends t [fun k => k.isTo .data pa (.agent m.req) ∧ k.data = l.data ∧ k.grant = 1 ∧ k.rel = true]) ∧
      (l.st = .IS_D ∨ l.st = .II_A → ∃ t, exec (.fwdGetS a pa .none) s = .next t ∧ acks t .fwdMiss home)) ∧
    (s.waitsAt .fwdGetM a m s1 → l.st = .E ∨ l.st = .M ∨ l.st = .O →
      ∃ t, exec (.fwdGetM a pa) s = .next t ∧ gives t .data (.agent m.req) ∧ gone t) ∧
    (s.waitsAt .fwdReadOnce a m s1 → l.st = .E ∨ l.st = .M ∨ l.st = .O →
      ∃ t, exec (.fwdReadOnce a pa) s = .next t ∧ gives t .roData (.agent m.req) ∧ goesTo t l.st) ∧
    (s.waitsAt .inv a m s1 → l.st = .S ∨ l.st = .E ∨ l.st = .M ∨ l.st = .O →
      ∃ t, exec (.inv a pa) s = .next t ∧ acks t .invAck (if m.ackTo then home else .agent m.req) ∧ gone t) ∧
    (s.waitsAt .snpClean a m s1 →
      (l.st = .M → ∃ t, exec (.snpClean a pa) s = .next t ∧ gives t .snpData home ∧ goesTo t .E) ∧
      (l.st = .O → ∃ t, exec (.snpClean a pa) s = .next t ∧ gives t .snpData home ∧ goesTo t .S) ∧
      (l.st = .S ∨ l.st = .E → ∃ t, exec (.snpClean a pa) s = .next t ∧ acks t .snpAck home ∧ goesTo t l.st)) ∧
    (s.waitsAt .snpCleanInv a m s1 →
      (l.st = .M ∨ l.st = .O → ∃ t, exec (.snpCleanInv a pa .none) s = .next t ∧ gives t .snpData home ∧ gone t) ∧
      (l.st = .S ∨ l.st = .E → ∃ t, exec (.snpCleanInv a pa .none) s = .next t ∧ acks t .snpAck home ∧ gone t)) ∧
    (s.waitsAt .snpDiscard a m s1 → l.st = .S ∨ l.st = .E ∨ l.st = .M ∨ l.st = .O →
      ∃ t, exec (.snpDiscard a pa) s = .next t ∧ acks t .snpAck home ∧ gone t))

/-- R237, R279, R282, R290, R291: the answers at their requester. Data and AckCount complete an acquisition when every InvAck
has come, and Unblock then leaves; PutAck frees a line or gives a recalled one its state back, StalePutAck frees one that was
lost; Refuse of a request that is neither a prefetch's, speculative nor the range engine's returns the line to where it was;
CmoAck answers a per-line form. RoData and WrAck complete the one request of an I/O agent, through a window of the Supervisor
Port. R280, R281, R282, R283: the answers at the home, for a transaction whose line its slice holds, with no storage error
waiting. The last snoop answer of a WritePtl, a WriteUnique, or a CmoReq at point .P lets it write and answer; an earlier one
is counted. FwdMiss takes the pointer off the list, to which the requester is added, and the home supplies the line in DS, or
forwards to the owner in DO; Unblock closes the transaction, and the directory entry takes effect as its `RES` says. -/
def Obligations.CoherenceAnswers : Prop :=
  (∀ (p : Nat) (m : Msg) (s s1 : State), isCore p = true → s1.meshCalm →
     let a : Nat := agentOf p
     let pa : Nat := m.pa
     let home : Node := .home (s1.homeNow pa)
     let unblocks : State → Nat → Prop := fun t res => s1.sends t [fun k => k.isTo .unblock pa home ∧ k.req = a ∧ k.res = res]
     let holds : State → CState → Line → Prop := fun t st d => ∃ l', (t.core p).line pa = some l' ∧ l'.st = st ∧ l'.data = d
     (∀ l, (s1.core p).line pa = some l →
       (s.waitsAt .data a m s1 →
         (l.st = .IS_D → m.grant = 1 ∨ m.grant = 2 → ∃ t, exec (.data a pa) s = .next t ∧
           holds t (if m.grant = 2 then .E else .S) m.data ∧ unblocks t (if m.rel then 1 else 0)) ∧
         (l.st = .IM_AD ∨ l.st = .SM_AD → l.acks = m.ackcnt →
           ∃ t, exec (.data a pa) s = .next t ∧ holds t .M m.data ∧ unblocks t 0) ∧
         (l.st = .IM_AD ∨ l.st = .SM_AD → l.acks ≠ m.ackcnt →
           ∃ t, exec (.data a pa) s = .next t ∧ holds t .IM_A m.data ∧ t.net = s1.net)) ∧
       (s.waitsAt .ackCount a m s1 → l.st = .SM_AD ∨ l.st = .OM_A →
         (l.acks = m.ackcnt → ∃ t, exec (.ackCount a pa) s = .next t ∧ holds t .M l.data ∧ unblocks t 0) ∧
         (l.acks ≠ m.ackcnt → ∃ t, exec (.ackCount a pa) s = .next t ∧ holds t .SM_A l.data ∧ t.net = s1.net)) ∧
       (s.waitsAt .invAck a m s1 → ∀ n, l.ackcnt = some n → l.st = .IM_A ∨ l.st = .SM_A →
         (l.acks + 1 = n → ∃ t, exec (.invAck a pa) s = .next t ∧ holds t .M l.data ∧ unblocks t 0) ∧
         (l.acks + 1 ≠ n → ∃ t l', exec (.invAck a pa) s = .next t ∧ t.net = s1.net ∧ (t.core p).line pa = some l' ∧
           l'.st = l.st ∧ l'.acks = l.acks + 1)) ∧
       (s.waitsAt .putAck a m s1 → l.st = .MI_A ∨ l.st = .OI_A ∨ l.st = .EI_A →
         (l.way = none → ∃ t, exec (.putAck a pa) s = .next t ∧ (t.core p).line pa = none ∧ unblocks t 0) ∧
         (l.way.isSome = true → ∃ t, exec (.putAck a pa) s = .next t ∧ unblocks t 2 ∧
           holds t (if l.st = .MI_A then .M else if l.st = .OI_A then .O else .E) l.data)) ∧
       (s.waitsAt .stalePutAck a m s1 → l.st = .II_A →
         ∃ t, exec (.stalePutAck a pa) s = .next t ∧ (t.core p).line pa = none ∧ t.net = s1.net) ∧
       (s.waitsAt .refuse a m s1 → m.tag = 0 → m.spec = false →
         (l.st = .IS_D ∨ l.st = .IM_AD → ∃ t, exec (.refuse a pa) s = .next t ∧ (t.core p).line pa = none ∧
           (t.core p).refused = (s1.core p).refused ++ [pa]) ∧
         (l.st = .SM_AD → ∃ t, exec (.refuse a pa) s = .next t ∧ holds t .S l.data) ∧
         (l.st = .OM_A → ∃ t, exec (.refuse a pa) s = .next t ∧ holds t .O l.data))) ∧
     (s.waitsAt .cmoAck a m s1 → m.tag = 0 → (s1.core p).cmo = some (pa, false) →
       exec (.cmoAck a pa) s = .next (s1.modCore p (fun c => { c with cmo := some (pa, true) }))) ∧
     (∀ (d : Nat) (r : IoReq), agentIdOk d = true → d ≠ 0x810 → d ≠ 0x850 → s1.io = [r] → r.agent = d → lineOf r.pa = pa → place r.pa = .dram →
       r.sent = true → r.done = false → r.use = .spIn → r.drop = false → r.err = false →
       (s.waitsAt .roData d m s1 → r.write = false →
         ∃ t, exec (.roData d pa) s = .next t ∧ t.io = [] ∧
           s1.sends t [fun k => k.isTo .unblock pa home ∧ k.req = d ∧ k.res = 0] ∧
           t.out = s1.out ++ [.hostCpl 0 (poisoned (poison8 m.poison) (lineOff r.pa) r.size) r.size
             (lineGet m.data (lineOff r.pa) r.size)]) ∧
       (s.waitsAt .wrAck d m s1 → r.write = true →
         exec (.wrAck d pa) s = .next { s1 with io := [] }))) ∧
  (∀ (sn w v : Nat) (m : Msg) (s s1 : State) (x : Txn) (y : LlcLine), sn < 256 → s1.meshCalm → s1.slFlaws = [] → m.pa = lineOf m.pa →
     m.dst = .home sn → tfind s1.txns (sn, m.pa) = some x → x.msg.pa = m.pa → x.way = some w →
     s1.txns.find? (fun t => t.1.1 == sn && (t.2.victim == some (lineOf m.pa))) = none →
     s1.llcFind sn m.pa = some (v, y) →
     let pa : Nat := m.pa
     let r : Nat := x.msg.req
     let comes : Opc → Prop := fun o =>
       m.opc = o ∧ s.recv (fun k => k.opc == o && decide (k.dst = .home sn) && k.pa == lineOf pa) = some (m, s1)
     let inLlc : State → Line → BitVec 4 → Prop := fun t d po =>
       ∃ z, tfind t.llc (sn, llcSet pa, v) = some z ∧ z.data = d ∧ z.poison = po
     (comes .snpData → x.phase = .snoop → x.acks = 1 → x.msg.opc = .writePtl →
       ∃ t, exec (.snpData sn pa) s = .next t ∧ s1.sends t [fun k => k.isTo .wrAck pa (.agent r)] ∧
         tfind t.txns (sn, pa) = none ∧ tfind t.dir (sn, dirSet pa, w) = none ∧
         inLlc t (lineMerge m.data x.msg.bmask x.msg.data) (unpoisonMask m.poison x.msg.bmask ||| x.msg.poison)) ∧
     (comes .snpAck → x.phase = .snoop → x.acks = 1 → x.msg.opc = .cmoReq → x.msg.point = false → x.got = false →
       ∃ t, exec (.snpAck sn pa) s = .next t ∧ s1.sends t [fun k => k.isTo .cmoAck pa (.agent r)] ∧
         tfind t.txns (sn, pa) = none ∧ t.llc = s1.llc) ∧
     (comes .snpAck → x.phase = .snoop → 1 < x.acks → x.msg.opc = .writePtl →
       ∃ t, exec (.snpAck sn pa) s = .next t ∧ t.net = s1.net ∧ tfind t.txns (sn, pa) = some { x with acks := x.acks - 1 }) ∧
     (comes .invAck → x.phase = .snoop → x.acks = 1 → x.msg.opc = .writeUnique →
       ∃ t, exec (.invAck (0x1000 + sn) pa) s = .next t ∧ s1.sends t [fun k => k.isTo .wrAck pa (.agent r)] ∧
         tfind t.txns (sn, pa) = none ∧ tfind t.dir (sn, dirSet pa, w) = none) ∧
     (comes .fwdMiss → x.msg.opc = .getS → ∀ e old u, x.after = some e → s1.dirFind sn pa = some (u, old) →
       let next : DirEnt := (old.dropSharer m.src).addSharer r
       (e.st = 1 → ∃ t, exec (.fwdMiss sn pa) s = .next t ∧
         s1.sends t [fun k => k.isTo .data pa (.agent r) ∧ k.data = y.data ∧ k.grant = x.grant] ∧
         t.opened sn x.msg .unblock (some next)) ∧
       (e.st = 3 → ∃ t, exec (.fwdMiss sn pa) s = .next t ∧
         s1.sends t [fun k => k.isTo .fwdGetS pa (.agent e.owner) ∧ k.req = r] ∧ t.opened sn x.msg x.phase (some next))) ∧
     (comes .unblock →
       ∃ t, exec (.unblock sn pa) s = .next t ∧ tfind t.txns (sn, pa) = none ∧ t.net = s1.net ∧
         (m.res = 0 → tfind t.dir (sn, dirSet pa, w) = x.after) ∧
         (m.res = 1 → ∀ e, x.after = some e → e.st = 3 →
           tfind t.dir (sn, dirSet pa, w) = some { e with st := 1, ptrs := e.owner :: e.ptrs }) ∧
         (m.res = 2 → tfind t.dir (sn, dirSet pa, w) = (s1.dirFind sn pa).map (·.2))))

/-! Uncached traffic, interrupts, the IOTU, TLB broadcasts (R168–R182, R204, R205, R207–R211, R229, R305, R336, R337). -/

/-- R229, R305, R336, R337: an uncached request of a core at its target. A Peat store, its way not being converted and no
storage error waiting in its core's caches, answers a read with its bytes, poisoned where they are, and takes a write, whose
whole units are no longer poisoned. A read that its gatekeeper refuses is answered with NcErr; a refused posted write changes
nothing there and reaches its core as a late abort (log entry 14). DRAM queues a read at its channel. An answer reaches the
access that waits for it. -/
def Obligations.UncachedRequests : Prop :=
  (∀ (p q off : Nat) (m : Msg) (s s1 : State), isCore p = true → m.src = agentOf p → m.dst = .target → s1.meshCalm →
    place m.pa = .peat q off → (s1.core q).wayConverting off = false → (s1.core q).flaws = [] →
    let a : Nat := agentOf p
    let pa : Nat := m.pa
    let o : Nat := lineOff pa
    let l : PeatLine := (s1.core q).peatLine pa
    let pois : BitVec 8 := match (s1.core q).l1dEnt pa with
      | some e => if e.dirty then ((s1.core q).held pa).2 else l.poison
      | none => l.poison
    let brings : Opc → Prop := fun opc => m.opc = opc ∧
      s.recv (fun k => (k.opc == opc && k.src == a && k.pa == pa) && decide (k.dst = .target)) = some (m, s1)
    let gives : State → Prop := fun t => s1.sends t [fun k => k.isTo .ncData pa (.agent a) ∧ k.aux = m.aux ∧
      k.data = lineGet l.data o m.size ∧ k.poison = (if poisoned pois o m.size then 15 else 0)]
    let stored : State → Prop := fun t => ((t.core q).peatLine pa).data = lineSet l.data o m.size m.data ∧
      (m.poison = 0 → ((t.core q).peatLine pa).poison = unpoison (((s1.core q).l1dClean pa).peatLine pa).poison o m.size)
    (brings .ncRead → s1.peatErr q m.world m.dom true false pa m.size = none →
      ∃ t, exec (.ncRead a pa) s = .next t ∧ gives t ∧ t.cores = s1.cores) ∧
    (brings .ncWriteP → s1.peatErr q m.world m.dom false true pa m.size = none →
      ∃ t, exec (.ncWriteP a pa) s = .next t ∧ stored t ∧ t.net = s1.net) ∧
    (brings .ncWriteO → s1.peatErr q m.world m.dom false true pa m.size = none →
      ∃ t, exec (.ncWriteO a pa) s = .next t ∧ stored t ∧
        s1.sends t [fun k => k.isTo .ncAck pa (.agent a) ∧ k.aux = m.aux]) ∧
    (brings .ncRead → ∀ rsn, s1.peatErr q m.world m.dom true false pa m.size = some (.refused rsn) →
      ∃ t, exec (.ncRead a pa) s = .next t ∧ s1.sends t [fun k => k.isTo .ncErr pa (.agent a) ∧ k.status = 1] ∧
        t.cores = s1.cores) ∧
    (brings .ncWriteP → ∀ rsn, s1.peatErr q m.world m.dom false true pa m.size = some (.refused rsn) →
      ∃ t, exec (.ncWriteP a pa) s = .next t ∧ t.net = s1.net ∧ (t.core p).lateAbort = some (m.aux2, 1) ∧
        ∀ c, c ≠ p → t.core c = s1.core c) ∧
    (m.opc = .ncRead → s1.peatErr q m.world m.dom true false pa m.size = none →
      s.recv (fun k => (k.src == a && k.pa == pa && k.opc.vc == 0 && (match place k.pa with
        | .peat _ _ => true
        | _ => false)) && decide (k.dst = .target)) = some (m, s1) →
      ∃ t, exec (.remotePeatAccess a pa) s = .next t ∧ gives t)) ∧
  (∀ (p : Nat) (m : Msg) (s s1 : State), isCore p = true → m.src = agentOf p → m.opc = .ncRead →
    place m.pa = .dram → s1.dramOk m.pa = true →
    s1.verdict (s1.dramGate m.pa) m.world m.dom true false m.pa m.size = none →
    (m.vc3 = true → s1.vc3Full (s1.serving m.pa) false = false) →
    s.recv (fun k => (k.opc == .ncRead && k.src == agentOf p && k.pa == m.pa) && decide (k.dst = .target)) = some (m, s1) →
    let ch : State → List ChReq := fun t => (tget {} t.chans (s1.serving m.pa)).queue
    ∃ t r, exec (.ncRead (agentOf p) m.pa) s = .next t ∧ t.net = s1.net ∧ ch t = ch s1 ++ [r] ∧ r.pa = m.pa ∧ r.write = false ∧
      r.dom = some m.dom ∧ r.who = .nc m) ∧
  (∀ (p : Nat) (m : Msg) (w : Wait) (s s1 : State), isCore p = true → (s1.core p).wait = some w → w.out = true →
    w.done = false → w.tag = m.aux →
    let comes : Opc → Prop := fun o => m.opc = o ∧
      s.recv (fun k => k.opc == o && decide (k.dst = .agent (agentOf p))) = some (m, s1)
    let done : Host.Outcome State Fault Refusal := .next (s1.modCore p (fun c => { c with wait := some { w with
      done := true, data := m.data, poison := m.poison != 0, err := m.status } }))
    (comes .ncData → exec (.ncData (agentOf p)) s = done) ∧ (comes .ncAck → exec (.ncAck (agentOf p)) s = done) ∧
    (comes .ncErr → exec (.ncErr (agentOf p)) s = done))

/-- R171, R174, R177, R178, R179, R180, R181, R182: IDIST. SETPEND makes a source pend, and so does an edge that no access of
the same cycle has cleared; CLRPEND ends it; a sampled line follows its block; the registers of a source and of a target take
the fields named here; a read of IDIST_ACK makes the highest eligible interrupt active, an EOI that names it ends it, and one
that names another sets EOIERR; an SGI to a named target becomes pending at its interface; an IntDeliver tells the core; the
timer's line, once evaluated, is reported to its core. -/
def Obligations.InterruptDistributor : Prop :=
  (∀ (who : Agent) (n : Nat) (s : State), n < 8192 → s.mayWrite who ⟨.idistSrcState, n, 0⟩ → s.canPend n = true →
    ∃ t u, exec (.setpend who n) s = .next t ∧ exec (.clrpend who n) s = .next u ∧
      (s.edgeSrc n = true → (t.src n).edgePend = true) ∧ (s.edgeSrc n = false → (t.src n).swLatch = true) ∧
      (u.src n).edgePend = false ∧ (u.src n).swLatch = false ∧ (u.src n).active = (s.src n).active) ∧
  (∀ (n : Nat) (l : Bool) (s : State), n < 8192 →
    (drivenLines.contains n = false → s.canPend n = true → s.edgeSrc n = true → s.intClr.contains n = false →
      ∃ t, exec (.interruptSourceEvent n true) s = .next t ∧ (t.src n).edgePend = true) ∧
    (drivenLines.contains n = true → ∃ t, exec (.interruptSourceEvent n l) s = .next t ∧ (t.src n).line = s.lineNow n)) ∧
  (∀ (who : Agent) (n : Nat) (v : Word) (s : State), 32 ≤ n → n < 8192 → s.mayWrite who (rSrcCfg n) →
    levelOk (fld v idistSrcCfg_WORLD) (fld v idistSrcCfg_TLEVEL) = true → fld v idistSrcCfg_TGT < 1028 →
    ∃ t, exec (.idistSrcCfgWrite who n v) s = .next t ∧ t.fget (rSrcCfg n) idistSrcCfg_EN = fld v idistSrcCfg_EN ∧
      t.fget (rSrcCfg n) idistSrcCfg_TGT = fld v idistSrcCfg_TGT ∧ t.fget (rSrcCfg n) idistSrcCfg_PRIO = fld v idistSrcCfg_PRIO ∧
      t.fget (rSrcCfg n) idistSrcCfg_WORLD = fld v idistSrcCfg_WORLD ∧
      t.fget (rSrcCfg n) idistSrcCfg_DOMAIN = fld v idistSrcCfg_DOMAIN) ∧
  (∀ (who : Agent) (k : Nat) (v : Word) (s : State), k < 1028 → s.mayWrite who (rTgtCfg k) →
    ∃ t, exec (.idistTgtCfgWrite who k v) s = .next t ∧ t.fget (rTgtCfg k) idistTgtCfg_DOMAIN = fld v idistTgtCfg_DOMAIN ∧
      t.fget (rTgtCfg k) idistTgtCfg_NMILVL = fld v idistTgtCfg_NMILVL) ∧
  (∀ (p k n prio : Nat) (page : PageKind) (s : State), isCore p = true → s.targetOf p = some k →
    pageOk (s.core p).arch.world (s.core p).arch.level page = true →
    (s.highest k page = some (n, prio) → (∀ m ∈ s.net, ¬ (m.opc = .ncRead ∧ m.src = agentOf p)) →
      ∃ t, exec (.idistAck p page) s = .next t ∧ (t.iface k page).stack = (n, prio) :: (s.iface k page).stack ∧
        (32 ≤ n → (t.src n).active = true ∧ (t.src n).edgePend = false ∧ (t.src n).actTgt = k)) ∧
    (∀ rest, n < 8192 → (s.iface k page).stack = (n, prio) :: rest →
      ∃ t, exec (.idistEoi p page (BitVec.ofNat 64 n)) s = .next t ∧ (t.iface k page).stack = rest ∧
        (32 ≤ n → (t.src n).active = false)) ∧
    (∀ other rest, n ≠ other → (s.iface k page).stack = (n, prio) :: rest → other < 8192 →
      ∃ t, exec (.idistEoi p page (BitVec.ofNat 64 other)) s = .next t ∧ (t.iface k page).eoierr = true ∧
        (t.iface k page).stack = (n, prio) :: rest) ∧
    (∀ v : Word, fld v idistSgi_ALL = 0 → fld v idistSgi_LOWER = 0 → fld v idistSgi_TTGT < 1028 →
      (pageLevel page = 3 ∨ s.tgtDomain (fld v idistSgi_TTGT) = s.tgtDomain k) →
      ∃ t, exec (.idistSgi p page v) s = .next t ∧
        tfind (t.iface (fld v idistSgi_TTGT) page).sgi (fld v idistSgi_SGINUM) = some (fld v idistSgi_PRIO))) ∧
  (∀ (k p : Nat) (m : Msg) (s s1 : State), k < 1028 → s1.coreOfTarget k = some p → m.dst = .agent (agentOf p) →
    s.recv (fun x => x.opc == .intDeliver && x.aux2 == k) = some (m, s1) →
    exec (.intDeliver k) s = .next (s1.modCore p (fun c => { c with intView := m.aux }))) ∧
  (∀ (k p : Nat) (page : PageKind) (s : State), k < 1028 → s.meshCalm → s.coreOfTarget k = some p →
    (s.iface k page).tmrLine = true → tget 1048575 s.intSent k ≠ s.intViewOf k →
    ∃ t, exec (.ctTimerFire k page) s = .next t ∧
      s.sends t [fun x => x.isTo .intDeliver 0 (.agent (agentOf p)) ∧ x.aux = s.intViewOf k ∧ x.aux2 = k])

/-- R204, R205, R207, R208, R209, R211: a read of a stream that hits an IOTLB entry leaves for the home of its DRAM line,
under the world and domain of its context, when no other request is on its way; one that its entry does not permit, or whose
stream has no context, makes no access and is reported. An invalidation and a write of the context's configuration remove the
entries of the context; an invalidation ends when nothing that used a removed entry is left. A TLB broadcast removes the
entries at its target at once, and is answered once what used them is performed. -/
def Obligations.IotuAndTlbMessages : Prop :=
  (∀ (stream iova c : Nat) (e : TlbEnt) (s : State), stream < 4608 → (stream < 272 ∨ 512 ≤ stream) → iova < 2 ^ 48 →
    s.meshCalm → s.steCtx stream = some c → s.fget (rCtx .iotuCtxCfg c) iotuCtxCfg_V = 1 →
    s.iotlbFind (agentDie (agentOfStream stream)) c iova = some e → s.io = [] →
    (256 ≤ stream ∧ stream < 272 → (s.ctxRegime c).world = false) →
    let a : Nat := agentOfStream stream
    (ioPermit e false = none → place (e.out iova) = .dram → s.dramOk (e.out iova) = true →
      ∃ t, exec (.iotuRequest stream iova false 0) s = .next t ∧ t.ioSeq = s.ioSeq + 1 ∧ t.fbq = s.fbq ∧
        s.sends t [fun k => k.opc = .readOnce ∧ k.pa = lineOf (e.out iova) ∧ k.src = a ∧ k.req = a ∧
          k.world = (s.ctxRegime c).world ∧ k.dom = (s.ctxRegime c).dom]) ∧
    (∀ lv st, ioPermit e false = some (lv, st) → s.fget (rCtx .iotuCtxFault c) iotuCtxFault_FV = 0 →
      ∃ t, exec (.iotuRequest stream iova false 0) s = .next t ∧ t.net = s.net ∧
        t.reported (3370 + agentDie a) .uc ∧ t.fget (rCtx .iotuCtxFault c) iotuCtxFault_FV = 1 ∧
        t.fget (rCtx .iotuCtxFault c) iotuCtxFault_KIND = 3 ∧ t.fget (rCtx .iotuCtxFault c) iotuCtxFault_CNT = 1)) ∧
  (∀ (stream iova : Nat) (s : State), stream < 4608 → (stream < 272 ∨ 512 ≤ stream) → s.io = [] → s.steCtx stream = none →
    ∃ t, exec (.iotuRequest stream iova false 0) s = .next t ∧ t.net = s.net ∧
      t.reported (3370 + agentDie (agentOfStream stream)) .uc) ∧
  (∀ (who : Agent) (c : Nat) (v : Word) (s : State), c < 1024 →
    (s.mayWrite who (rCtx .iotuCtxInv c) → fld v iotuCtxInv_SCOPE = 0 → s.ctxBusy c = false →
      ∃ t, exec (.iotuCtxInv who c v) s = .next t ∧ t.ctxBusy c = true ∧
        t.iotlb = s.iotlb.filter (fun e => e.2.ctx != c)) ∧
    (s.mayWrite who (rCtx .iotuCtxInv c) → s.ctxBusy c = true →
      ∃ t, exec (.iotuCtxInv who c v) s = .next t ∧ t.iotlb = s.iotlb ∧
        t.fget (rCtx .iotuCtxInvstat c) iotuCtxInvstat_REFUSED = 1) ∧
    (s.mayWrite who (rCtx .iotuCtxCfg c) → s.ctxBusy c = false →
      ∃ t, exec (.iotuCtxCfgWrite who c v) s = .next t ∧ t.ctxBusy c = true ∧
        t.iotlb = s.iotlb.filter (fun e => e.2.ctx != c) ∧
        t.fget (rCtx .iotuCtxCfg c) iotuCtxCfg_DOMAIN = fld v iotuCtxCfg_DOMAIN) ∧
    ((∀ r ∈ s.io, r.ctx = c → r.preInv = true → r.done = true) →
      exec (.iotuInvComplete c) s = .next (s.fset (rCtx .iotuCtxInvstat c) iotuCtxInvstat_BUSY 0))) ∧
  (∀ (p : Nat) (m : Msg) (s s1 : State), isCore p = true → s1.meshCalm →
    (s.recv (fun k => k.opc == .tlbOp && decide (k.dst = .agent (agentOf p))) = some (m, s1) → m.opc = .tlbOp →
      ∃ t, exec (.tlbOp (agentOf p)) s = .next t ∧
        (∃ owed, t.core p = { (s1.core p).tlbRemove m.tlb.removes with tlbOwed := owed }) ∧
        ((s1.core p).tlbOwed = [] → s1.tlbDone p (s1.core p).sqSeq (s1.core p).ncSeq = true →
          t.core p = (s1.core p).tlbRemove m.tlb.removes ∧
          s1.sends t [fun k => k.isTo .tlbAck m.pa (.agent m.req) ∧ k.src = agentOf p]) ∧
        ((s1.core p).tlbOwed = [] → s1.tlbDone p (s1.core p).sqSeq (s1.core p).ncSeq = false →
          t.net = s1.net ∧ (t.core p).tlbOwed = [(m, (s1.core p).sqSeq, (s1.core p).ncSeq)])) ∧
    (s.recv (fun k => k.opc == .tlbAck && decide (k.dst = .agent (agentOf p))) = some (m, s1) →
      exec (.tlbAck (agentOf p)) s = .next (s1.modCore p (fun c => { c with tlbOut := c.tlbOut - 1 }))))

/-! The configuration space: writes by Type code, clocks, the core map, core control (R6–R12, R24–R32, R38, R510, R515–R518). -/

/-- R6, R7, R8, R9, R10, R12, R38, R406, R412: a write that its agent has every right to make, of a register without an
effect of its own, in a state of its block that admits it, and with the Ledger ready to take an entry, reaches the fields by
their Type codes: RW takes a defined encoding and keeps its value for a reserved one, W1C is cleared by 1 unless the hardware
has set the bit in the same cycle, RO and WO do not change. A write of a lent port's register changes nothing; one of a
queue's configuration outside QDISABLED sets CFGERR alone. A write that is not an aligned 4 or 8 bytes is dropped and
reported, and so is one to an unpopulated offset. -/
def Obligations.RegisterWrites : Prop :=
  ∀ (who : Agent) (off size : Nat) (v : Word) (s : State), agentOk who = true →
    let a : Acc := s.accOf who
    let m : Word := cfgMask off size
    let x : Word := cfgPlace off size v
    (∀ r, s.cfgAt a off size = .reg r none → r.name ∈ plainRegs → s.plainNow r = true → globalRights a r = some allFields → s.ledgFree = true → s.onlyW1cSet r →
      ∃ t, exec (.registerWrite who off size v) s = .next t ∧ ∀ f ∈ fields r.name,
        (f.ty = .rw ∨ f.ty = .rws →
          let y : Nat := fld ((s.rd r &&& ~~~m) ||| (x &&& m)) f
          t.fget r f = if f.min ≤ y ∧ y ≤ f.max then y else s.fget r f) ∧
        (f.ty = .w1c → t.fget r f = fld ((s.rd r &&& ~~~(x &&& m)) ||| (s.rd r &&& tget 0 s.setNow r)) f) ∧
        (f.ty = .ro ∨ f.ty = .wo → t.fget r f = s.fget r f)) ∧
    (∀ r, s.cfgAt a off size = .reg r (some 0) → r.name ∈ plainRegs → s.plainNow r = false →
      ∃ t, exec (.registerWrite who off size v) s = .next t ∧ t.rd r = s.rd r ∧
        (r.name ∈ [.fxQDbase, .fxQCbase, .fxQHdr] → t.fget (rQ .fxQCtl r.i) fxQCtl_CFGERR = 1)) ∧
    (∀ r b, s.cfgAt a off size = .reg r (some b) → r.name ∈ plainRegs → s.plainNow r = true → b = 0 → s.ledgFree = true → s.onlyW1cSet r →
      ∃ t, exec (.registerWrite who off size v) s = .next t ∧ ∀ f ∈ fields r.name,
        (f.ty = .rw ∨ f.ty = .rws →
          let y : Nat := fld ((s.rd r &&& ~~~m) ||| (x &&& m)) f
          t.fget r f = if f.min ≤ y ∧ y ≤ f.max then y else s.fget r f) ∧
        (f.ty = .w1c → t.fget r f = fld ((s.rd r &&& ~~~(x &&& m)) ||| (s.rd r &&& tget 0 s.setNow r)) f) ∧
        (f.ty = .ro ∨ f.ty = .wo → t.fget r f = s.fget r f)) ∧
    ((size ≠ 4 ∧ size ≠ 8) ∨ off % size ≠ 0 → exec (.registerWrite who off size v) s = .next (s.report 3390 .ce)) ∧
    (s.cfgAt a off size = .unpop → exec (.registerWrite who off size v) s = .next (s.report 3390 .uc))

/-- R23, R24, R28, R29, R31, R32, R510, R518: the commands of the core map, the tile dividers, chip time and the root PLL. A
write of `CFG_LCNMAP` moves the held context to the new core, or is refused with ERR. A write of `CLK_TILEDIV` starts a
change, or is refused with STATUS 1 while one is pending and 2 for an open agent on a claimed tile; the tile's switch ends
it. `CLK_CTADJ` is clamped. Once CT runs, `CLK_CTSTEP` moves it by the whole register or its low half, and drops the high
half. The root PLL's lock starts CT, its loss is remembered and reported. R515–R518, R534: the commands of `CORE_CTL` to a
core that belongs to no Twin pair, each accepted in the states that R516 names and refused with `ERR` and `STATUS` 1
elsewhere; the end of a self-test; and the end of a park once nothing of the core is on its way. -/
def Obligations.ClocksCoreMapAndCoreControl : Prop :=
  ((∀ (who : Agent) (n : Nat) (v : Word) (s : State), n < 1024 → s.mayWrite who (rLcn n) →
     let old : Nat := s.pcnOf n
     let new : Nat := fld v cfgLcnmap_PCN
     (new ≠ old → new < 1088 → (∀ k, k < 1024 → k ≠ n → s.pcnOf k ≠ new) → s.isParked old = true → s.isParked new = true →
       s.coreClaimed old = s.coreClaimed new →
       ∃ t, exec (.lcnmapWrite who n v) s = .next t ∧ t.pcnOf n = new ∧ (t.core old).ctxv = false ∧
         (t.core new).ctxv = (s.core old).ctxv ∧ (t.core new).nmiAct = (s.core old).nmiAct ∧
         (t.core new).arch.pc = (s.core old).arch.pc ∧ ∀ g, (t.core new).g g = (s.core old).g g) ∧
     (new ≠ old → (1088 ≤ new ∨ (∃ k, k < 1024 ∧ k ≠ n ∧ s.pcnOf k = new) ∨ s.isParked old = false ∨ s.isParked new = false) →
       ∃ t, exec (.lcnmapWrite who n v) s = .next t ∧ t.pcnOf n = old ∧ t.fget (rLcn n) cfgLcnmap_ERR = 1 ∧ t.cores = s.cores)) ∧
   (∀ (who : Agent) (i : Nat) (v : Word) (s : State), i < 272 → s.mayWrite who (rTilediv i) →
     let d : Nat := fld v clkTilediv_DIV
     let is : State → Nat → Nat → Nat → Prop := fun t div pend st => t.fget (rTilediv i) clkTilediv_DIV = div ∧
       t.fget (rTilediv i) clkTilediv_PENDING = pend ∧ t.fget (rTilediv i) clkTilediv_STATUS = st
     ((s.accOf who).world = true ∨ s.tileClaimed i = false → s.fget (rTilediv i) clkTilediv_PENDING = 0 →
       (d ≠ s.fget (rTilediv i) clkTilediv_DIV → ∃ t, exec (.tiledivWrite who i v) s = .next t ∧ is t d 1 0) ∧
       (d = s.fget (rTilediv i) clkTilediv_DIV → ∃ t, exec (.tiledivWrite who i v) s = .next t ∧ is t d 0 0)) ∧
     ((s.accOf who).world = true ∨ s.tileClaimed i = false → s.fget (rTilediv i) clkTilediv_PENDING = 1 →
       ∃ t, exec (.tiledivWrite who i v) s = .next t ∧ is t (s.fget (rTilediv i) clkTilediv_DIV) 1 1) ∧
     ((s.accOf who).world = false → s.tileClaimed i = true →
       ∃ t, exec (.tiledivWrite who i v) s = .next t ∧
         is t (s.fget (rTilediv i) clkTilediv_DIV) (s.fget (rTilediv i) clkTilediv_PENDING) 2)) ∧
   (∀ (i : Nat) (s : State), i < 272 → s.fget (rTilediv i) clkTilediv_PENDING = 1 →
     ∃ t, exec (.tileClockSwitch i) s = .next t ∧ t.divNow i = s.fget (rTilediv i) clkTilediv_DIV ∧
       t.fget (rTilediv i) clkTilediv_PENDING = 0) ∧
   (∀ (who : Agent) (v : Word) (s : State), s.mayWrite who rCtadj →
     let a : Int := (v.setWidth 32).toInt
     ∃ t, exec (.ctadjWrite who v) s = .next t ∧
       ((t.rd rCtadj).setWidth 32).toInt = if 10737418 < a then 10737418 else if a < -10737418 then -10737418 else a) ∧
   (∀ (who : Agent) (v : Word) (s : State), s.mayWrite who ⟨.clkCtstep, 0, 0⟩ → s.ctOn = true →
     (∃ t, exec (.ctstepWrite who .full v) s = .next t ∧ t.ct = s.ct + v) ∧
     (∃ t, exec (.ctstepWrite who .low v) s = .next t ∧ t.ct = s.ct + (v.setWidth 32).signExtend 64) ∧
     (∃ t, exec (.ctstepWrite who .high v) s = .next t ∧ t.ct = s.ct ∧ t.reported 3390 .ce)) ∧
   (∀ s : State,
     (∃ t, exec .pllLock s = .next t ∧ t.fget rPll clkPll_LOCK = 1 ∧ t.ctOn = true ∧ t.onRefclk = false ∧ t.ct = s.ct) ∧
     (s.fget rPll clkPll_LOCK = 1 →
       ∃ t, exec .pllLossOfLock s = .next t ∧ t.fget rPll clkPll_LOCK = 0 ∧ t.fget rPll clkPll_UNLOCKED = 1 ∧
         t.onRefclk = true ∧ t.reported 3392 .ft))) ∧
  ((∀ (who : Agent) (c : Nat) (s : State), isCore c = true → s.mayWrite who ⟨.coreCtl, c, 0⟩ → s.follows c = false →
     s.leads c = false →
     let k : Core := s.core c
     let last : Bool := decide (1088 ≤ c) && !s.collierLeft c
     let unmapped : Prop := s.mapped c = false ∨ 1088 ≤ c
     let status : State → Nat := fun t => t.fget (rCoreStat c) coreStat_STATUS
     let refused : Host.Outcome State Fault Refusal → Prop := fun o =>
       ∃ t, o = .next t ∧ t.core c = k ∧ status t = 1 ∧ t.fget (rCoreStat c) coreStat_ERR = 1
     let parks : Prop := (k.run = .running ∨ k.run = .vechalt ∨ k.run = .stopped) ∧ last = false
     (parks → ∃ t, exec (.park who c) s = .next t ∧ status t = 0 ∧ (t.core c).run = .parking ∧
       (t.core c).ctxv = decide (k.run = .running) ∧ (t.core c).monitor = none ∧ (t.core c).shOn = false ∧
       (t.core c).range = k.range.parked ∧ (t.core c).arch = k.arch) ∧
     (¬ parks → refused (exec (.park who c) s)) ∧
     (k.run = .parked → s.mapped c = true → k.ctxv = true →
       ∃ t, exec (.resume who c) s = .next t ∧ status t = 0 ∧ (t.core c).run = .running ∧ (t.core c).arch.pc = k.arch.pc ∧
         (t.core c).arch.level = k.arch.level ∧ (t.core c).arch.world = k.arch.world ∧ ∀ g, (t.core c).g g = k.g g) ∧
     (k.run ≠ .parked ∨ s.mapped c = false ∨ k.ctxv = false → refused (exec (.resume who c) s)) ∧
     (k.run = .parked → s.mapped c = true →
       ∃ t, exec (.start who c) s = .next t ∧ status t = 0 ∧ (t.core c).run = .running ∧
         (t.core c).arch.pc = BitVec.ofNat 64 (s.fget ⟨.coreEntry, c, 0⟩ coreEntry_PC * 4) ∧
         (t.core c).arch.level = (if c < 1088 then 3 else 2) ∧ (t.core c).arch.world = decide (c < 1088) ∧
         (t.core c).nmiAct = false ∧ (t.core c).arch.slot = none ∧ ∀ g, (t.core c).g g = 0) ∧
     (k.run ≠ .parked ∨ s.mapped c = false → refused (exec (.start who c) s)) ∧
     (k.run = .parked → unmapped → ∃ t, exec (.bist who c) s = .next t ∧ status t = 0 ∧ (t.core c).run = .bist ∧
       (t.core c).ctxv = false) ∧
     (k.run ≠ .parked ∨ ¬ unmapped → refused (exec (.bist who c) s)) ∧
     (k.run = .off → unmapped → ∃ t, exec (.poweron who c) s = .next t ∧ status t = 0 ∧ (t.core c).run = .bist ∧
       (1024 ≤ c → c < 1088 → (t.rd ⟨.cfgSparepool, 0, 0⟩).getLsbD (c - 1024) = false)) ∧
     (k.run ≠ .off ∨ ¬ unmapped → refused (exec (.poweron who c) s)) ∧
     (k.run = .parked → unmapped → last = false → ∃ t, exec (.poweroff who c) s = .next t ∧ status t = 0 ∧
       (t.core c).run = .off ∧ (t.core c).ctxv = false ∧ (t.core c).bistpass = k.bistpass ∧
       (1024 ≤ c → c < 1088 → (t.rd ⟨.cfgSparepool, 0, 0⟩).getLsbD (c - 1024) = !k.bistFailed)) ∧
     (k.run ≠ .parked ∨ ¬ unmapped ∨ last = true → refused (exec (.poweroff who c) s))) ∧
   (∀ (c : Nat) (pass : Bool) (s : State), isCore c = true →
     ((s.core c).run = .bist → pass = true → exec (.bistDone c pass) s =
       .next (s.modCore c (fun x => { x with run := .parked, bistpass := true }))) ∧
     ((s.core c).run = .bist → pass = false → ∃ t, exec (.bistDone c pass) s = .next t ∧ (t.core c).run = .off ∧
       (t.core c).bistpass = false ∧ (1024 ≤ c → c < 1088 → (t.rd ⟨.cfgSparepool, 0, 0⟩).getLsbD (c - 1024) = false)) ∧
     ((s.core c).run = .parking → (s.core c).mustFinish = false → (s.core c).sq = [] → (s.core c).lines = [] →
       (s.core c).tlbOut = 0 → (s.core c).tlbOwed = [] → (s.core c).range.out = [] → s.postedOut c = false → (s.core c).wait = none → (s.core c).cmo = none →
       ∃ t, exec (.parkDone c) s = .next t ∧ (t.core c).run = .parked ∧ (t.core c).arch = (s.core c).arch ∧
         (t.core c).ctxv = (s.core c).ctxv)))

/-! Slices, buckets and the mesh (R295–R302, R309, R315–R319, R323, R525–R531). -/

/-- R299, R301, R526: a bucket moves to another slice: the move is accepted or refused; the old home sends a directory entry
and keeps it until the acknowledgement, with which it frees it and, none being left, tells every router; the new home
installs the entry in a free way and acknowledges it; a router takes the new slice; with the last acknowledgement `SN`
changes. A slice retires only without buckets. Its port opens, with the slice empty, when its self-test passes, and stays as
it is when it fails. -/
def Obligations.BucketMoves : Prop :=
  (∀ (who : Agent) (b : Nat) (v : Word) (s : State), b < 4096 → s.mayWrite who (rBkt b) →
    let sn : Nat := s.fget (rBkt b) slBkt_SN
    let goal : Nat := fld v slBkt_NEWSN
    let good : Prop := s.fget (rBkt b) slBkt_STATE = 0 ∧ goal ≠ sn ∧ s.sliceRetired goal = false ∧ s.fenced (goal, 1) = false ∧
      s.moving sn = false ∧ s.moving goal = false
    (good → ∃ t, exec (.bucketMove who b v) s = .next t ∧ t.fget (rBkt b) slBkt_STATE = 1 ∧ t.fget (rBkt b) slBkt_SN = sn ∧
      (tget {} t.bkts b).dest = goal) ∧
    (¬ good → ∃ t, exec (.bucketMove who b v) s = .next t ∧ t.fget (rBkt b) slBkt_STATE = s.fget (rBkt b) slBkt_STATE ∧
      t.bkts = s.bkts ∧ t.fget (rBkt b) slBkt_ERR = 1)) ∧
  (∀ (b : Nat) (e : DirEnt) (k : Nat × Nat × Nat) (s : State), b < 4096 → s.meshCalm →
    let sn : Nat := s.fget (rBkt b) slBkt_SN
    s.fget (rBkt b) slBkt_STATE = 1 → (∀ t ∈ s.txns, t.1.1 ≠ sn) → (tget {} s.bkts b).sent = [] → s.slFlaws = [] →
    s.dir = [(k, e)] → k.1 = sn → bucketOf e.line = b → lineOf e.line = e.line → s.llc = [] →
      ∃ t, exec (.bucketCopyStart b) s = .next t ∧ t.fget (rBkt b) slBkt_STATE = 2 ∧ t.dir = s.dir ∧
        (tget {} t.bkts b).sent = [e.line] ∧
        s.sends t [fun x => x.isTo .bktXfer e.line (.home (tget {} s.bkts b).dest) ∧ x.ent = some e ∧ x.res = 0 ∧ x.aux = b]) ∧
  (∀ (b sn w : Nat) (e : DirEnt) (m : Msg) (s s1 : State), b < 4096 → s1.meshCalm → m.dst = .home sn → m.opc = .bktXfer →
    m.ent = some e → m.res = 0 → 0x1000 ≤ m.src →
    s.recv (fun x => x.opc == .bktXfer && x.aux == b) = some (m, s1) →
    (List.range 16).find? (fun i => (tfind s1.dir (sn, dirSet m.pa, i)).isNone && !s1.wayHeld sn (dirSet m.pa) i) = some w →
      ∃ t, exec (.bktXfer b) s = .next t ∧ tfind t.dir (sn, dirSet m.pa, w) = some e ∧
        s1.sends t [fun x => x.isTo .bktAck m.pa (.home (m.src - 0x1000)) ∧ x.src = 0x1000 + sn ∧ x.aux = m.aux]) ∧
  (∀ (b tn : Nat) (m : Msg) (s s1 : State), b < 4096 → tn < 256 → s1.meshCalm →
    s.recv (fun x => x.opc == .bktUpd && x.aux == b && decide (x.dst = .router tn)) = some (m, s1) →
      ∃ t, exec (.bktUpd b tn) s = .next t ∧ tfind t.rtBkt (tn, b) = some m.aux2 ∧
        s1.sends t [fun x => x.isTo .bktAck m.pa (.home (m.req - 0x1000)) ∧ x.src = 0x1000 + tn]) ∧
  (∀ (b w : Nat) (e : DirEnt) (m : Msg) (s s1 : State), b < 4096 → s1.meshCalm → w < 16 →
    s.recv (fun x => x.opc == .bktAck && x.aux == b) = some (m, s1) →
    let sn : Nat := s1.fget (rBkt b) slBkt_SN
    s1.fget (rBkt b) slBkt_STATE = 2 → s1.dir = [((sn, dirSet m.pa, w), e)] → e.line = lineOf m.pa → s1.llc = [] → s1.hq = [] →
    (tget {} s1.bkts b).sent = [m.pa] →
      ∃ t, exec (.bktAck b) s = .next t ∧ t.dir = [] ∧ t.fget (rBkt b) slBkt_STATE = 3 ∧ (tget {} t.bkts b).updOut = 256 ∧
        s1.sends t ((List.range 256).map (fun tn => fun x => x.isTo .bktUpd 0 (.router tn) ∧ x.aux = b ∧
          x.aux2 = (tget {} s1.bkts b).dest))) ∧
  (∀ (b : Nat) (m : Msg) (s s1 : State), b < 4096 → s1.fget (rBkt b) slBkt_STATE = 3 →
    s.recv (fun x => x.opc == .bktAck && x.aux == b) = some (m, s1) →
    let mv : BktMove := tget {} s1.bkts b
    (mv.updOut = 1 → mv.dest < 256 → ∃ t, exec (.bktAck b) s = .next t ∧ t.fget (rBkt b) slBkt_SN = mv.dest ∧
      t.fget (rBkt b) slBkt_STATE = 0 ∧ tfind t.bkts b = none) ∧
    (1 < mv.updOut → ∃ t, exec (.bktAck b) s = .next t ∧ (tget {} t.bkts b).updOut = mv.updOut - 1 ∧ t.regs = s1.regs)) ∧
  (∀ (who : Agent) (sn : Nat) (v : Word) (s : State), sn < 256 → s.mayWrite who ⟨.slCtl, sn, 0⟩ → fld v slCtl_RETIRED = 1 →
    (s.bktCnt sn = 0 → ∃ t, exec (.slCtlRetire who sn v) s = .next t ∧ t.sliceRetired sn = true) ∧
    (s.sliceRetired sn = false → s.bktCnt sn ≠ 0 →
      ∃ t, exec (.slCtlRetire who sn v) s = .next t ∧ t.sliceRetired sn = false ∧ t.fget ⟨.slCtl, sn, 0⟩ slCtl_ERR = 1)) ∧
  (∀ (sn : Nat) (s : State), sn < 256 → s.slTest = [sn] →
    (∃ t, exec (.sliceSelfTestDone sn true) s = .next t ∧ t.slTest = [] ∧ t.fget (rPort sn 1) meshPort_STATE = 0 ∧
      (∀ e ∈ t.dir, e.1.1 ≠ sn) ∧ (∀ e ∈ t.llc, e.1.1 ≠ sn)) ∧
    (∃ t, exec (.sliceSelfTestDone sn false) s = .next t ∧ t.slTest = [] ∧ t.fget (rPort sn 1) meshPort_ERR = 1 ∧
      t.fget (rPort sn 1) meshPort_STATE = s.fget (rPort sn 1) meshPort_STATE))

/-- R309, R315, R316, R318, R323, R531: a link goes down in both directions, and comes up at the next epoch once its test
pattern has passed; flit errors are counted and reported, and a failed replay takes the link down; an epoch swap passes its
states in order; ports drain, fence and open where R318 admits it and are refused elsewhere; the oldest header of a class
that waits in a lane of a router's input rises by one in urgency, unless its home already has 36 at 15; written slot tables
take effect. -/
def Obligations.MeshControl : Prop :=
  (∀ (who : Agent) (tn o c : Nat) (v : Word) (s : State), tn < 256 → o < 4 → neighbour tn (dirOfNum o) = some c →
    let here : Reg := ⟨.meshLink, tn, o⟩
    let there : Reg := ⟨.meshLink, c, (dirOfNum o).opp.num⟩
    (s.mayWrite who here → fld v meshLink_DOWN = 1 → s.fget here meshLink_DOWN = 0 →
      ∃ t, exec (.linkDownWrite who tn o v) s = .next t ∧ t.fget here meshLink_DOWN = 1 ∧ t.fget there meshLink_DOWN = 1) ∧
    (s.mayWrite who here → fld v meshLink_DOWN = 0 → s.fget here meshLink_DOWN = 1 → (tn, o) ∈ s.linkOk →
      ∃ t, exec (.linkDownWrite who tn o v) s = .next t ∧ t.fget here meshLink_DOWN = 1 ∧ (tn, o) ∈ t.linkUp) ∧
    (s.fget here meshLink_DOWN = 1 →
      (∃ t, exec (.linkRetrain tn o true) s = .next t ∧ (tn, o) ∈ t.linkOk ∧ t.regs = s.regs) ∧
      (∃ t, exec (.linkRetrain tn o false) s = .next t ∧ (tn, o) ∉ t.linkOk ∧ t.regs = s.regs)) ∧
    (s.fget here meshLink_CECNT < 2 ^ meshLink_CECNT.w - 1 →
      ∃ t, exec (.flitEccError tn o .corrected) s = .next t ∧ t.fget here meshLink_CECNT = s.fget here meshLink_CECNT + 1 ∧
        t.reported (2752 + tn) .ce) ∧
    exec (.flitEccError tn o .replayed) s = .next s ∧
    (s.fget here meshLink_DOWN = 0 → s.net = [] →
      ∃ t, exec (.flitEccError tn o .replayFail) s = .next t ∧ t.fget here meshLink_DOWN = 1 ∧
        t.fget here meshLink_REPLAYFAIL = 1 ∧ t.fget there meshLink_DOWN = 1 ∧ t.reported (2752 + tn) .uc)) ∧
  (∀ (who : Agent) (v : Word) (s : State), s.mayWrite who rEpoch →
    (s.epoch = 0 → ∃ t, exec (.epochSwap who v) s = .next t ∧ t.epoch = 1) ∧
    (s.epoch ≠ 0 → ∃ t, exec (.epochSwap who v) s = .next t ∧ t.epoch = s.epoch ∧ t.fget rEpoch meshEpoch_ERR = 1)) ∧
  (∀ s : State,
    (s.epoch = 1 → (∀ m ∈ s.net, m.inj = true → m.opc.vc = 0 → m.vc3 = true ∨ (s.heldAt m).isSome = true) →
      exec .epochDrain0Done s = .next (s.fset rEpoch meshEpoch_STATE 2)) ∧
    (s.epoch = 2 → s.net = [] → s.linkUp = [] →
      ∃ t, exec .epochDrain1Done s = .next t ∧ t.epoch = 4 ∧
        ∀ r ∈ s.regs.map (·.1), r.name = .meshRt → t.fget r meshRt_MODE = s.fget r meshRt_SMODE) ∧
    (s.epoch = 4 → (∀ m ∈ s.net, m.inj = true → (s.heldAt m).isSome = true) →
      ∃ t, exec .epochReleaseDone s = .next t ∧ t.epoch = 0 ∧ t.fget rEpoch meshEpoch_DONE = 1 ∧
        t.fget rEpoch meshEpoch_COUNT = (s.fget rEpoch meshEpoch_COUNT + 1) % 2 ^ meshEpoch_COUNT.w ∧
        ∀ m ∈ t.net, m.inj = true)) ∧
  (∀ (who : Agent) (tn q : Nat) (e : Endpoint) (s : State), tn < 256 → q < 8 → endpointAt tn q = some e →
    s.mayWrite who (rPort tn q) →
    let st : State → Nat := fun t => t.fget (rPort tn q) meshPort_STATE
    let status : State → Nat := fun t => t.fget (rPort tn q) meshPort_STATUS
    let refused : Host.Outcome State Fault Refusal → Prop := fun o =>
      ∃ t, o = .next t ∧ st t = st s ∧ status t = 1 ∧ t.fget (rPort tn q) meshPort_ERR = 1
    (st s = 0 → s.mayDrainPort tn e = true → ∃ t, exec (.portDrain who tn q) s = .next t ∧ st t = 1 ∧ status t = 0) ∧
    (st s ≠ 0 ∨ s.mayDrainPort tn e = false → refused (exec (.portDrain who tn q) s)) ∧
    (st s = 2 → s.net = [] → ∃ t, exec (.portFence who tn q) s = .next t ∧ st t = 3 ∧ status t = 0) ∧
    (st s ≠ 2 → refused (exec (.portFence who tn q) s)) ∧
    (st s = 3 → e = .slice → ∃ t, exec (.portOpen who tn q) s = .next t ∧ st t = 3 ∧ tn ∈ t.slTest) ∧
    (∀ b, st s = 3 → e = .io b → ∃ t, exec (.portOpen who tn q) s = .next t ∧ st t = 0 ∧ status t = 0) ∧
    (st s = 3 → (e = .cores ∨ ∃ d, e = .spare d) →
      (∃ c ∈ endCores tn e, (s.core c).run ≠ .off ∧ (s.core c).run ≠ .bist ∧ (s.core c).bistpass = true) →
      ∃ t, exec (.portOpen who tn q) s = .next t ∧ st t = 0 ∧ status t = 0) ∧
    (st s ≠ 3 → refused (exec (.portOpen who tn q) s)) ∧
    (st s = 1 → s.portDrained tn e = true → exec (.portDrainAck tn q) s = .next (s.fset (rPort tn q) meshPort_STATE 2))) ∧
  (∀ (tn i input vc lane : Nat) (m : Msg) (s : State), tn < 256 → input < 7 → lane < 2 → s.net[i]? = some m →
    m.inj = true → m.opc.vc = vc →
    m.vc3 = false → s.lane m = lane → s.inputAt m tn = some input →
    (m.urg = 14 → (s.net.filter (fun x => x.at15 != 0 && decide (x.dst = m.dst))).length < 36) → (∀ j, j < i → ∀ k, s.net[j]? = some k → k.opc.vc ≠ vc) →
    ∃ t k, exec (.urgencyRaise tn input vc lane) s = .next t ∧ t.net[i]? = some k ∧ k.urg = min 15 (m.urg + 1) ∧
      ∀ j, j ≠ i → t.net[j]? = s.net[j]?) ∧
  (∀ (tn : Nat) (s : State), tn < 256 →
    ∃ t, exec (.slotTableUpdate tn) s = .next t ∧ (∀ e ∈ t.slotAct, e.1.1 ≠ tn) ∧ t.regs = s.regs)

/-! Memory channels, gatekeepers and key slots (R325–R348, R527, R528). -/

/-- R325, R327, R330, R331, R333, R334, R343, R528: a channel serves a reserved request before a best-effort one of another
line. A served write of a whole line is in DRAM under its key, and a served uncached read delivers what DRAM holds. A window
gives fresh credits and shows what the last one granted. A scrub read moves on by one line, and counts a pass at the last; a
corrected error that it finds is reported. Sparing starts or is refused, and ends. A channel fails, its queue going on at a
survivor, by itself or by command; rejoins by command; serves again after its resilver; and retrains. `MC_ILV` locks once,
and starts the trained channels. R338, R341, R348: a commit makes the shadows of all 64 regions active and is busy until no
access that the old regions passed is left, and is refused while busy; the SBC generates and erases keys, but not while one
is being generated; a core cannot. -/
def Obligations.ChannelsGatekeepersAndKeys : Prop :=
  ((∀ (k sl : Nat) (r : ChReq) (s : State), k < 16 → (s.chan k).queue = [r] → s.serving r.pa = k → s.chanDead k = false →
     s.asleep k = false → s.keySlot r.pa = some sl → s.slotState sl = 2 →
     (r.write = true → r.bmask = BitVec.allOnes 64 → r.who = .nobody →
       ∃ t, exec (.channelServe k .none) s = .next t ∧ (t.chan k).queue = [] ∧ t.mem = memPutLine s.mem r.pa r.data ∧
         tfind t.memKey (lineOf r.pa) = some (sl, s.keyGen sl) ∧ tfind t.memPoison (lineOf r.pa) = some r.poison) ∧
     (∀ q : Msg, r.write = false → r.who = .nc q → q.pa = r.pa → s.meshCalm →
       ∃ t, exec (.channelServe k .none) s = .next t ∧ (t.chan k).queue = [] ∧ t.mem = s.mem ∧
         s.sends t [fun m => m.isTo .ncData r.pa (.agent q.src) ∧ m.aux = q.aux ∧
           m.data = lineGet (s.dramData r.pa) (lineOff r.pa) q.size])) ∧
   (∀ (k : Nat) (b r : ChReq) (s : State), k < 16 → (s.chan k).queue = [b, r] → b.reserved = false → r.reserved = true →
     lineOf b.pa ≠ lineOf r.pa → s.keyWait r = false → r.who = .nobody →
     ∃ t, exec (.channelServe k .none) s = .next t ∧ (t.chan k).queue = [b]) ∧
   (∀ (k d : Nat) (s : State), k < 16 → d < 64 → 0 < s.fget ⟨.mcBwres, k, d⟩ mcBwres_SLOTS → tget 0 (s.chan k).granted d < 256 →
     ∃ t, exec (.bwWindowStart k) s = .next t ∧ tget 0 (t.chan k).credit d = s.fget ⟨.mcBwres, k, d⟩ mcBwres_SLOTS ∧
       t.fget ⟨.mcBwres, k, d⟩ mcBwres_USED = tget 0 (s.chan k).granted d ∧ (t.chan k).granted = [] ∧
       (t.chan k).queue = (s.chan k).queue) ∧
   (∀ (k : Nat) (s : State), k < 16 → s.fget (rMc .mcCfg k) mcCfg_TRAINED = 1 → s.chanState k = 1 ∨ s.chanState k = 3 →
     0 < s.chanLines → s.chanLines ≤ 2 ^ 33 →
     let n : Nat := s.fget (rMc .mcScrub k) mcScrub_POS
     (n + 1 < s.chanLines → ∃ t, exec (.patrolScrubRead k .none) s = .next t ∧ t.fget (rMc .mcScrub k) mcScrub_POS = n + 1) ∧
     (s.chanLines ≤ n + 1 → ∃ t, exec (.patrolScrubRead k .none) s = .next t ∧ t.fget (rMc .mcScrub k) mcScrub_POS = 0 ∧
       t.fget (rMc .mcScrub k) mcScrub_PASSES = (s.fget (rMc .mcScrub k) mcScrub_PASSES + 1) % 256) ∧
     (∀ rank dev, rank < 8 → dev < 32 → ∃ t, exec (.patrolScrubRead k (.ce rank dev)) s = .next t ∧ t.reported (3008 + k) .ce ∧
       t.fget (rMc .mcErr k) mcErr_RANK = rank ∧ t.fget (rMc .mcErr k) mcErr_DEV = dev)) ∧
   (∀ (who : Agent) (k : Nat) (v : Word) (s : State), k < 16 → s.mayWrite who (rMc .mcSpare k) → s.mcLocked = true →
     s.fget (rMc .mcSpare k) mcSpare_STATE = 0 →
     let good : Prop := s.fget (rMc .mcSpare k) mcSpare_SPEN = 1 ∧
       fld v mcSpare_FROM ≠ s.fget (rMc .mcSpare k) mcSpare_SPARE
     (good → ∃ t, exec (.spareCopyStart who k v) s = .next t ∧ t.fget (rMc .mcSpare k) mcSpare_STATE = 1 ∧
       t.fget (rMc .mcSpare k) mcSpare_POS = 0 ∧ t.fget (rMc .mcSpare k) mcSpare_FROM = fld v mcSpare_FROM) ∧
     (¬ good → ∃ t, exec (.spareCopyStart who k v) s = .next t ∧ t.fget (rMc .mcSpare k) mcSpare_STATE = 0 ∧
       t.fget (rMc .mcSpare k) mcSpare_ERR = 1)) ∧
   (∀ (who : Agent) (k : Nat) (s : State), k < 16 →
     let state : State → Nat := fun t => t.chanState k
     let evt : State → Nat := fun t => t.fget (rMc .mcStat k) mcStat_EVT
     (s.fget (rMc .mcSpare k) mcSpare_STATE = 1 →
       ∃ t, exec (.spareCopyDone k) s = .next t ∧ t.fget (rMc .mcSpare k) mcSpare_STATE = 2 ∧ evt t = 1) ∧
     (state s = 1 ∨ state s = 3 →
       ∃ t, exec (.channelFail k) s = .next t ∧ state t = 2 ∧ evt t = 1 ∧ t.fget (rMc .mcCfg k) mcCfg_TRAINED = 0 ∧
         t.reported (3024 + k) .uc ∧
         (s.survivor k = true → (t.chan k).queue = [] ∧
           (t.chan (pairOf k)).queue = (s.chan (pairOf k)).queue ++ (s.chan k).queue)) ∧
     (s.mayWrite who (rMc .mcStat k) →
       (s.survivor k = true → state s ≠ 2 →
         ∃ t, exec (.channelFailover who k) s = .next t ∧ state t = 2 ∧ evt t = 1 ∧ t.reported (3024 + k) .uc) ∧
       (s.survivor k = true → state s = 2 →
         ∃ t, exec (.channelFailover who k) s = .next t ∧ state t = 2 ∧
           t.fget (rMc .mcStat k) mcStat_ERR = s.fget (rMc .mcStat k) mcStat_ERR) ∧
       (s.survivor k = false →
         ∃ t, exec (.channelFailover who k) s = .next t ∧ state t = state s ∧ t.fget (rMc .mcStat k) mcStat_ERR = 1) ∧
       (s.survivor k = true → state s = 2 → s.fget (rMc .mcCfg k) mcCfg_TRAINED = 1 →
         ∃ t, exec (.rejoin who k) s = .next t ∧ state t = 3 ∧ t.fget (rMc .mcStat k) mcStat_POS = 0) ∧
       (s.survivor k = false ∨ state s ≠ 2 ∨ s.fget (rMc .mcCfg k) mcCfg_TRAINED = 0 →
         ∃ t, exec (.rejoin who k) s = .next t ∧ state t = state s ∧ t.fget (rMc .mcStat k) mcStat_ERR = 1)) ∧
     (state s = 3 → ∃ t, exec (.resilverDone k) s = .next t ∧ state t = 1 ∧ evt t = 1) ∧
     (state s = 2 → ∀ pass, ∃ t, exec (.channelRetrain k pass) s = .next t ∧ state t = 2 ∧
       t.fget (rMc .mcCfg k) mcCfg_TRAINED = b2n pass)) ∧
   (∀ (who : Agent) (v : Word) (s : State), s.mayWrite who rIlv →
     (s.mcLocked = false → fld v mcIlv_CAPG ≤ 512 →
       ∃ t, exec (.ilvLock who v) s = .next t ∧ t.mcLocked = true ∧ t.fget rIlv mcIlv_CAPG = fld v mcIlv_CAPG ∧
         t.fget rIlv mcIlv_MIRROR = fld v mcIlv_MIRROR ∧
         ∀ k, k < 16 → s.fget (rMc .mcCfg k) mcCfg_TRAINED = 1 → s.chanState k = 0 → t.chanState k = 1) ∧
     (s.mcLocked = true →
       ∃ t, exec (.ilvLock who v) s = .next t ∧ t.mcLocked = true ∧ t.fget rIlv mcIlv_CAPG = s.fget rIlv mcIlv_CAPG ∧
         t.fget rIlv mcIlv_MIRROR = s.fget rIlv mcIlv_MIRROR))) ∧
  ((∀ (who : Agent) (i : Nat) (s : State), i < 35 →
     (s.mayWrite who (rMgCtl i) → s.fget (rMgCtl i) mgCtl_BUSY = 0 →
       ∃ t, exec (.gatekeeperCommit who i) s = .next t ∧ t.fget (rMgCtl i) mgCtl_BUSY = 1 ∧
         (∀ r, r < 64 → t.region i r = (s.rd ⟨.mgRgnBase, i, r⟩, s.rd ⟨.mgRgnLimit, i, r⟩, s.rd ⟨.mgRgnDom, i, r⟩)) ∧
         ∀ j r, j ≠ i → t.region j r = s.region j r) ∧
     (s.mayWrite who (rMgCtl i) → s.fget (rMgCtl i) mgCtl_BUSY = 1 →
       ∃ t, exec (.gatekeeperCommit who i) s = .next t ∧ t.mgAct = s.mgAct ∧ t.fget (rMgCtl i) mgCtl_REFUSED = 1) ∧
     (s.gateOpen i = false → exec (.gatekeeperCommitDone i) s = .next (s.fset (rMgCtl i) mgCtl_BUSY 0)) ∧
     (s.gateOpen i = true → exec (.gatekeeperCommitDone i) s = .next s)) ∧
   (∀ (k : Nat) (s : State), k < 66 → s.mayWrite .sbc (rKey k) →
     (s.slotState k ≠ 1 → (∃ t, exec (.generate .sbc k) s = .next t ∧ t.slotState k = 1 ∧ t.keyGen k = s.keyGen k) ∧
       (∃ t, exec (.erase .sbc k) s = .next t ∧ t.slotState k = 0)) ∧
     (s.slotState k = 1 →
       (∃ t, exec (.generate .sbc k) s = .next t ∧ t.slotState k = 1 ∧ t.fget (rKey k) mcKeyslot_ERR = 1) ∧
       (∃ t, exec (.erase .sbc k) s = .next t ∧ t.slotState k = 1 ∧ t.fget (rKey k) mcKeyslot_ERR = 1) ∧
       (∃ t, exec (.keyValid k) s = .next t ∧ t.slotState k = 2 ∧ t.keyGen k = (s.keyGen k + 1) % 2 ^ 32)) ∧
     (∀ p, isCore p = true → s.mayWrite (.core p) (rKey k) →
       ∃ t, exec (.generate (.core p) k) s = .next t ∧ t.slotState k = s.slotState k)))

/-! Twin pairs, claims, debug (R366–R389). -/

/-- R378–R380, R383, R386, R387: a pair forms and dissolves while both of its cores are parked, and the write is refused with
ERR otherwise; the agreement of the next n instructions makes the state after the n-th the checkpoint; a mismatch, with
something not yet agreed and no snoop deferred, returns the pair to it and drops the stores not agreed; one during a replay
stops the pair; a replay ends after 4,096 agreed instructions. R366, R368–R372: the SBC changes the claim of a tile while its
cores are parked and is refused with ERR otherwise; it changes the claims of channels and key slots bit by bit, and those of
functions where they are disabled. A halt request halts a core under an effective invasive enable for its world; a halted
core answers debug accesses to its registers, its program counter and memory, which go out as those of agent 0x850, and
others are refused; a sample shows the program counter, CYCLE and the agreed INSTRET of a core that runs, or 0. -/
def Obligations.TwinPairsClaimsAndDebug : Prop :=
  ((∀ (who : Agent) (k p : Nat) (s : State), k < 512 → s.mayWrite who (rTwin k) →
     (s.pairPcn k = some p → s.isParked p = true → s.isParked (p + 1) = true →
       (∃ t, exec (.twinForm who k) s = .next t ∧ t.fget (rTwin k) cfgTwin_EN = 1 ∧
         t.twinState k = 1 ∧ (∀ g, (t.core (p + 1)).g g = (s.core p).g g) ∧ (t.core (p + 1)).arch.pc = (s.core p).arch.pc ∧
         (t.core (p + 1)).peat = []) ∧
       (s.fget (rTwin k) cfgTwin_EN = 1 → ∃ t, exec (.twinDissolve who k) s = .next t ∧ t.fget (rTwin k) cfgTwin_EN = 0 ∧
         t.twinState k = 0 ∧ (t.core p).arch = (s.core p).arch ∧ (t.core (p + 1)).peat = [])) ∧
     (s.pairPcn k = none ∨ (s.pairPcn k = some p ∧ (s.isParked p = false ∨ s.isParked (p + 1) = false)) →
       (∃ t, exec (.twinForm who k) s = .next t ∧ t.fget (rTwin k) cfgTwin_EN = s.fget (rTwin k) cfgTwin_EN ∧
         t.fget (rTwin k) cfgTwin_ERR = 1 ∧ t.cores = s.cores) ∧
       (∃ t, exec (.twinDissolve who k) s = .next t ∧ t.fget (rTwin k) cfgTwin_EN = s.fget (rTwin k) cfgTwin_EN ∧
         t.fget (rTwin k) cfgTwin_ERR = 1 ∧ t.cores = s.cores))) ∧
   (∀ (k p : Nat) (s : State), k < 512 → s.twinLead k = some p → (s.core p).inPair = true →
     let c : Core := s.core p
     (∀ n a, 0 < n → c.unagreed[n - 1]? = some a → ∃ t, exec (.groupAgreed k n) s = .next t ∧ (t.core p).ck = some a ∧
       (t.core p).unagreed = c.unagreed.drop n ∧ (t.core p).arch = c.arch ∧
       (t.core p).sq = c.sq.map (fun e => { e with grp := e.grp - n }) ∧
       t.fget (rTwstat k) cfgTwstat_RPCNT = min 4096 (s.fget (rTwstat k) cfgTwstat_RPCNT + n)) ∧
     (∀ a kind, 0 < kind → kind ≤ 7 → c.ck = some a → c.unagreed ≠ [] → c.defers = [] → c.deferred = [] →
       (s.twinState k ≠ 2 → ∃ t, exec (.twinMismatch k kind) s = .next t ∧ (t.core p).arch = a ∧ (t.core p).unagreed = [] ∧
         (t.core p).monitor = none ∧ (∀ e ∈ (t.core p).sq, e.grp = 0) ∧ t.twinState k = 2 ∧
         t.reported (1152 + p / 2) .ce) ∧
       (s.twinState k = 2 → ∃ t, exec (.twinMismatch k kind) s = .next t ∧ (t.core p).arch = a ∧
         (t.core p).run = .stopped ∧ (t.core (p + 1)).run = .stopped ∧ t.twinState k = 3 ∧ t.reported (1696 + p / 2) .uc))) ∧
   (∀ (k : Nat) (s : State), k < 512 → s.twinState k = 2 → s.fget (rTwstat k) cfgTwstat_RPCNT = 4096 →
     exec (.replayEnd k) s = .next (s.fset (rTwin k) cfgTwin_STATE 1))) ∧
  ((∀ (i : Nat) (v : Word) (s : State), i < 272 → s.ledgFree = true →
     let r : Reg := ⟨.sbcClaimTile, i, 0⟩
     let new : Nat := fld v sbcClaimTile_CLAIM
     (new ≠ s.fget r sbcClaimTile_CLAIM → (∀ p ∈ coresOfTile i, s.isParked p = true) →
       ∃ t, exec (.claimChange .sbc (.tile i) v) s = .next t ∧ t.tileClaimed i = decide (new = 1)) ∧
     (new ≠ s.fget r sbcClaimTile_CLAIM → (∃ p ∈ coresOfTile i, s.isParked p = false) →
       ∃ t, exec (.claimChange .sbc (.tile i) v) s = .next t ∧ t.tileClaimed i = s.tileClaimed i ∧
         t.fget r sbcClaimTile_ERR = 1)) ∧
   (∀ (v : Word) (s : State), s.ledgFree = true →
     ∃ t, exec (.claimChange .sbc .mc v) s = .next t ∧ ∀ k, k < 16 → t.mcClaimed k = v.getLsbD k) ∧
   (∀ (v : Word) (s : State), s.ledgFree = true →
     ∃ t, exec (.claimChange .sbc (.key 0) v) s = .next t ∧ ∀ k, k < 64 → t.keyClaimed k = v.getLsbD k) ∧
   (∀ (j : Nat) (v : Word) (s : State), j < 4 → s.ledgFree = true →
     ∃ t, exec (.claimChange .sbc (.fn j) v) s = .next t ∧ ∀ i, i < 64 →
       t.fnClaimed (64 * j + i) = if s.fget ⟨.fxFnCtl, 64 * j + i, 0⟩ fxFnCtl_STATE = 0 then v.getLsbD i
         else s.fnClaimed (64 * j + i)) ∧
   (∀ (p : Nat) (s : State), isCore p = true →
     let c : Core := s.core p
     exec (.debugHaltRequest p) s = .next (s.modCore p (fun x => { x with haltReq := !x.halted })) ∧
     (c.haltReq = true → c.halted = false → c.run = .running → c.mustFinish = false → c.draining = false →
       s.invasive p = true → s.follows p = false →
       ∃ t, exec (.debugHalt p) s = .next t ∧ (t.core p).halted = true ∧ (t.core p).haltReq = false ∧
         (t.core p).arch = c.arch) ∧
     (s.invasive p = false → exec (.debugHalt p) s = .next s) ∧
     (c.run = .running → c.halted = false → s.sampling p = true → ∃ t, ∃ v : Line, exec (.debugSample p) s = .next t ∧ t.out = s.out ++ [.jtag v] ∧
       v.setWidth 64 = c.arch.pc ∧ (v >>> 64).setWidth 64 = c.cycle ∧ (v >>> 128).setWidth 64 = c.arch.instret - BitVec.ofNat 64 c.unagreed.length) ∧
     (c.run ≠ .running ∨ c.halted = true ∨ s.sampling p = false → exec (.debugSample p) s = .next { s with out := s.out ++ [.jtag 0] }) ∧
     (c.halted = false ∨ s.invasive p = false → ∀ req, req.core = p → req.free = false →
       exec (.debugAccess req) s = .next { s with out := s.out ++ [.jtagRefuse] }) ∧
     (c.halted = true → s.invasive p = true →
       (∀ r, exec (.debugAccess (.readG p r)) s = .next { s with out := s.out ++ [.jtag ((c.g r).setWidth 512)] }) ∧
       (∀ r v, exec (.debugAccess (.writeG p r v)) s = .next (s.modCore p (fun x => x.setG r v))) ∧
       (∀ r v, exec (.debugAccess (.writeF p r v)) s = .next (s.modCore p (fun x => x.setF r v))) ∧
       exec (.debugAccess (.readPc p)) s = .next { s with out := s.out ++ [.jtag (c.arch.pc.setWidth 512)] } ∧
       (∀ v, ∃ t, exec (.debugAccess (.writePc p v)) s = .next t ∧
         (t.core p).arch.pc = BitVec.ofNat 64 (v.toNat % 2 ^ 48 / 4 * 4)) ∧
       (∀ pa size, s.meshCalm → s.dbg = none → c.sq = [] → dbgSize size = true → pa % size = 0 → place pa = .dram →
         s.dramOk pa = true →
         ∃ t, exec (.debugAccess (.readMem p pa size)) s = .next t ∧ s.sends t [fun k => k.isTo .readOnce (lineOf pa)
           (.home (s.homeFrom (routerOf 0x850) pa)) ∧ k.src = 0x850 ∧ k.world = c.arch.world ∧
           k.dom = c.crFld ⟨c.arch.world, 0x130#12⟩ domid_DOM]) ∧
       exec (.debugAccess (.step p)) s = .next (s.modCore p (fun x => { x with stepping := true })) ∧
       exec (.debugAccess (.resume p)) s = .next (s.modCore p (fun x => { x with halted := false, stepping := false })))))

/-! Field Exchange (R403–R453, R533, R578). -/

/-- R404–R406, R422–R424, R427, R430, R431, R433, R533, R578: a port that is up receives a frame, with a timestamp within 5
ns, or drops it; a received frame goes to the queue of the classifier entry that it matches if that queue takes it, and is
counted if not. Links go up and down with their events. A port fails over to its partner lane, by command or 100 µs after the
loss of its link, and is restored 100 ms after the command. A free port starts the launch-time frame that is due, and
otherwise a ready ordinary frame of the highest class that may start. A gate list commits, becomes operational at a cycle
start at least 1 µs later, and sets the gates. Safe frames repeat. The loss of a field reference clock takes the links of its
die down. A launch-time frame that is not ready at its deadline is late. -/
def Obligations.FieldPorts : Prop :=
  (∀ (p : Nat) (s : State), p < 32 →
    let st : Reg := rPt .fxPortStat p
    (∀ bytes ok, s.portUp p = true →
      (ok = false ∨ bytes.length < 60 ∨ 9212 < bytes.length ∨ beAt bytes 12 2 = 0x8808 →
        exec (.frameReceive p bytes ok) s = .next (s.finc (rPt .fxPortCnt p) fxPortCnt_RXDROP)) ∧
      (ok = true → 60 ≤ bytes.length → bytes.length ≤ 9212 → beAt bytes 12 2 ≠ 0x8808 →
        ∃ t, ∃ d : Nat, d ≤ 10 ∧ exec (.frameReceive p bytes ok) s = .next t ∧
          (t.port p).rx = (s.port p).rx ++ [⟨bytes, s.ct + BitVec.ofNat 64 d - 5⟩])) ∧
    (∀ f rest, (s.port p).rx = f :: rest →
      let key : FxKey := keyOf p (s.fget (rPt .fxPortCfg p) fxPortCfg_SIDOFF) f.bytes
      let q : Nat → Nat := fun i => s.fget (rClsAct i) fxClsAct_QUEUE
      (s.clsFind key = none → s.fget (rPt .fxPortCfg p) fxPortCfg_DEFQEN = 0 →
        ∃ t, exec (.classifierLookup p) s = .next t ∧ (t.port p).rx = rest ∧
          t.rd (rPt .fxPortCnt p) = (s.finc (rPt .fxPortCnt p) fxPortCnt_RXDROP).rd (rPt .fxPortCnt p)) ∧
      (∀ i, s.clsFind key = some i → s.qSize (q i) ≤ 2 ^ 16 →
        let takes : Prop := s.qRx (q i) = true ∧ s.qState (q i) = 1 ∧ s.safeAt = none ∧ s.qHead (q i) ≠ s.qTail (q i) ∧
          s.ringFull (q i) = false
        ∃ t, exec (.classifierLookup p) s = .next t ∧
          t.fget (rClsAct i) fxClsAct_HITS = (s.fget (rClsAct i) fxClsAct_HITS + 1) % 2 ^ 32 ∧
          (takes → t.qHead (q i) = (s.qHead (q i) + 1) % s.qSize (q i)) ∧
          (¬ takes → t.qHead (q i) = s.qHead (q i) ∧
            t.fget (rQ .fxQErr (q i)) fxQErr_NODESC = min 65535 (s.fget (rQ .fxQErr (q i)) fxQErr_NODESC + 1)))) ∧
    (s.portUp p = true → ∃ t, exec (.linkStateChange p false) s = .next t ∧ t.portUp p = false ∧
      t.fget st fxPortStat_EVT = 1 ∧ t.reported (3336 + p) .ce) ∧
    (s.portUp p = false → s.portEn p = true → ∃ t, exec (.linkStateChange p true) s = .next t ∧ t.portUp p = true ∧
      t.fget st fxPortStat_EVT = 1) ∧
    (s.portEn p = false → exec (.linkStateChange p true) s = .next s) ∧
    (let moved : State → Prop := fun t => t.laneOf p = s.fget (rPt .fxPortCfg p) fxPortCfg_PARTNER ∧
       t.fget st fxPortStat_LANEFAIL = 1 ∧ t.fget st fxPortStat_EVT = 1 ∧
       t.portState (s.fget (rPt .fxPortCfg p) fxPortCfg_PARTNER) = 2 ∧ t.reported (3336 + p) .uc
     (∀ who, s.mayWrite who st →
       (s.mayFailover p = true → ∃ t, exec (.portFailover who p) s = .next t ∧ moved t) ∧
       (s.mayFailover p = false → ∃ t, exec (.portFailover who p) s = .next t ∧ t.laneOf p = s.laneOf p ∧
         t.fget st fxPortStat_ERR = 1) ∧
       (s.fget st fxPortStat_LANEFAIL = 1 → (s.port p).restore = none →
         ∃ t, exec (.portRestore who p) s = .next t ∧ (t.port p).restore = some s.now ∧ t.laneOf p = s.laneOf p) ∧
       (s.fget st fxPortStat_LANEFAIL = 0 → ∃ t, exec (.portRestore who p) s = .next t ∧
         (t.port p).restore = (s.port p).restore ∧ t.fget st fxPortStat_ERR = 1)) ∧
     (s.portUp p = false → s.portEn p = true → s.fget (rPt .fxPortCfg p) fxPortCfg_AUTOFO = 1 →
       s.fget st fxPortStat_LANEFAIL = 0 → s.mayFailover p = true →
       ((s.port p).downAt + 20000 ≤ s.now → ∃ t, exec (.autoFailover p) s = .next t ∧ moved t) ∧
       (s.now < (s.port p).downAt + 20000 → exec (.autoFailover p) s = .next s))) ∧
    (∀ t0, s.portQs p = [] → (s.port p).restore = some t0 → (s.port p).wire = none →
      (t0 + 20000000 ≤ s.now → ∃ t, exec (.restoreSwitch p) s = .next t ∧ t.laneOf p = p ∧
        t.fget st fxPortStat_LANEFAIL = 0 ∧ t.fget st fxPortStat_EVT = 1 ∧ (t.port p).restore = none) ∧
      (s.now < t0 + 20000000 → exec (.restoreSwitch p) s = .next s)) ∧
    (s.portUp p = true → s.fget (rPt .fxPortCfg p) fxPortCfg_PREEMPT = 1 → s.fget (rPt .fxPortCfg p) fxPortCfg_VERIFYDIS = 0 →
      exec (.preemptVerify p true) s = .next (s.fset st fxPortStat_VERIFIED 1) ∧ exec (.preemptVerify p false) s = .next s) ∧
    (s.portEn p = true → s.portUp p = true → s.safeAt = none → (s.port p).busyTill ≤ s.now → s.wireJob p = none →
      (∀ q j, s.launchPick p = some (q, j) → ∃ t, exec (.frameStart p) s = .next t ∧ (t.port p).wire = some q ∧
        ∃ k ∈ t.jobs q, k.idx = j.idx ∧ k.st = .wire ∧ k.endAt = s.now + (s.frameNs p j + 4) / 5) ∧
      (∀ q j, s.launchPick p = none → s.ordinaryPick p = some (q, j) → ∃ t, exec (.frameStart p) s = .next t ∧
        (t.port p).wire = some q ∧ (∃ k ∈ t.jobs q, k.idx = j.idx ∧ k.st = .wire) ∧
        ∀ q' ∈ s.portQs p, ∀ k, s.headReady q' = some k → s.mayStart p q' k = true → s.qTc q' ≤ s.qTc q)) ∧
    (s.portEn p = false ∨ s.portUp p = false ∨ s.safeAt.isSome = true → exec (.frameStart p) s = .next s)) ∧
  (∀ (who : Agent) (p : Nat) (s : State), p < 32 → s.mayWrite who (rPt .fxQbvCtl p) → s.portState p ≠ 2 →
    let r : Reg := rPt .fxQbvCtl p
    let cycle : Nat := s.fget (rPt .fxQbvCycle p) fxQbvCycle_CYCLE
    let good : Prop := s.adminList p ≠ [] ∧ cycle ≠ 0 ∧ (∀ e ∈ s.adminList p, e.2.2 ≠ 0 ∧ e.2.1 ≠ 3) ∧
      s.fget r fxQbvCtl_PENDING = 0
    (good → ∃ t, exec (.gclCommit who p) s = .next t ∧ t.fget r fxQbvCtl_PENDING = 1 ∧
      s.ct.toNat + 1000 ≤ (t.port p).commitAt ∧ s.fget (rPt .fxQbvBase p) fxQbvBase_BASE ≤ (t.port p).commitAt ∧
      ((t.port p).commitAt - s.fget (rPt .fxQbvBase p) fxQbvBase_BASE) % cycle = 0) ∧
    (¬ good → ∃ t, exec (.gclCommit who p) s = .next t ∧ t.fget r fxQbvCtl_PENDING = s.fget r fxQbvCtl_PENDING ∧
      t.fget r fxQbvCtl_ERR = 1 ∧ (t.port p).commitAt = (s.port p).commitAt)) ∧
  (∀ (p : Nat) (s : State), p < 32 →
    (s.fget (rPt .fxQbvCtl p) fxQbvCtl_PENDING = 1 → (s.port p).commitAt ≤ s.ct.toNat →
      ∃ t, exec (.gclActivate p) s = .next t ∧ t.fget (rPt .fxQbvCtl p) fxQbvCtl_PENDING = 0 ∧
        (t.port p).opl = s.adminList p ∧ t.fget (rPt .fxQbvCtl p) fxQbvCtl_OLEN = (s.adminList p).length) ∧
    (s.ct.toNat < (s.port p).commitAt → exec (.gclActivate p) s = .next s) ∧
    (∀ g op iv, (s.port p).opl ≠ [] → (s.port p).opCycle ≠ 0 → (s.port p).opFrom ≤ s.ct.toNat →
      entryAt (s.port p).opl ((s.ct.toNat - (s.port p).opFrom) % (s.port p).opCycle) = some (g, op, iv) →
      ∃ t, exec (.gateChange p) s = .next t ∧ (t.port p).gates = g ∧
        (t.port p).hold = (if op = 1 then true else if op = 2 then false else (s.port p).hold)) ∧
    ((s.port p).safeOn = true → s.portUp p = true → s.wireJob p = none → (s.port p).safeNext ≤ s.now →
      (s.port p).busyTill ≤ s.now → ∃ t, exec (.safeFrameRepeat p) s = .next t ∧
        t.out = s.out ++ [.frame (s.laneOf p) (s.safeFrame p)] ∧
        (t.port p).safeNext = s.now + 200 * s.fget (rPt .fxPsafeCtl p) fxPsafeCtl_GAP ∧
        ((s.port p).safeLeft = 1 → (t.port p).safeOn = false ∧ t.fget (rPt .fxPsafeCtl p) fxPsafeCtl_SENT = 1)) ∧
    ((s.port p).safeOn = false → exec (.safeFrameRepeat p) s = .next s)) ∧
  (∀ (east : Bool) (s : State), ∃ t, exec (.fieldRefclkLoss east) s = .next t ∧
    ∀ p, p < 32 → t.portUp p = (s.portUp p && !decide (p / 16 = b2n east))) ∧
  (∀ (q : Nat) (j : FxJob) (s : State), q < 4096 → (∀ k ∈ s.jobs q, k.st ≠ .wire) →
    (s.jobs q).find? (fun k => k.pendingLaunch && decide (k.launch ≤ s.ct.toNat + 160)) = some j → j.st ≠ .ready →
    ∃ t, exec (.launchDeadline q) s = .next t ∧
      t.fget (rPt .fxPortCnt (s.qPort q)) fxPortCnt_LATE = min 65535 (s.fget (rPt .fxPortCnt (s.qPort q)) fxPortCnt_LATE + 1) ∧
      ∀ k ∈ t.jobs q, k.idx = j.idx → if j.lateact = 0 then k.st = .done ∧ k.status = 2 else k.late = true)

/-- R405, R409, R410, R412, R414, R420, R421, R425, R440–R445, R450: a queue is enabled, stopped and drained; doorbells move
the tail or the completion head, and are counted where their sender, generation or index does not fit; a returned descriptor
becomes a frame to read, ends with status 5, or stops the queue; the data of a frame is read in its time, and the frame is
then ready or ends with status 6; a completion takes its slot, or waits for room, and its end raises the queue's interrupt. A
function is configured while disabled, enabled after its checks, disabled, reset with a new generation, and reported when
stuck. -/
def Obligations.QueuesAndFunctions : Prop :=
  (∀ (who : Agent) (q : Nat) (s : State), q < 4096 → s.mayWrite who (rQ .fxQCtl q) →
    (s.mayEnableQ q = true → ∃ t, exec (.queueEnable who q) s = .next t ∧ t.qState q = 1 ∧ t.rd (rQ .fxQPtr q) = 0 ∧
      t.fget (rQ .fxQCtl q) fxQCtl_PHASE = 1 ∧ t.jobs q = []) ∧
    (s.mayEnableQ q = false → ∃ t, exec (.queueEnable who q) s = .next t ∧ t.qState q = s.qState q ∧
      t.fget (rQ .fxQCtl q) fxQCtl_CFGERR = 1) ∧
    (∃ t, exec (.queueStop who q) s = .next t ∧ t.qState q = if s.qState q = 0 then 0 else 2)) ∧
  (∀ (q : Nat) (s : State), q < 4096 → (∀ r ∈ s.io, r.ofFx = false) → s.qState q = 2 →
    (s.jobs q = [] → ∃ t, exec (.queueDrainDone q) s = .next t ∧ t.qState q = 0) ∧
    (s.jobs q ≠ [] → exec (.queueDrainDone q) s = .next s)) ∧
  (∀ (who : Agent) (fn j : Nat) (v : Word) (s : State), fn < 256 → agentOk who = true →
    (s.accOf who).isCore = true ∨ who = .sbc → j < s.fget (rFn .fxFnCfg fn) fxFnCfg_QCNT →
    let q : Nat := s.fget (rFn .fxFnCfg fn) fxFnCfg_QBASE + j
    let i : Nat := bits v.toNat 0 16
    let n : Nat := s.qSize q
    let mine : Prop := s.streamWho fn = some ((s.accOf who).world, (s.accOf who).dom)
    let gen : Prop := bits v.toNat 16 8 = s.fnGen fn
    let fit : Prop := s.qState q = 1 ∧ i < n ∧ bits v.toNat 24 8 = 0
    (¬ mine →
      exec (.descriptorDoorbell who fn j v) s = .next ((s.finc (rFn .fxFnStat fn) fxFnStat_DBDENY).report (3080 + fn) .uc) ∧
      exec (.completionDoorbell who fn j v) s = .next ((s.finc (rFn .fxFnStat fn) fxFnStat_DBDENY).report (3080 + fn) .uc)) ∧
    (mine → ¬ gen → exec (.descriptorDoorbell who fn j v) s = .next (s.finc (rFn .fxFnStat fn) fxFnStat_GENDROP) ∧
      exec (.completionDoorbell who fn j v) s = .next (s.finc (rFn .fxFnStat fn) fxFnStat_GENDROP)) ∧
    (mine → gen → ¬ fit → exec (.descriptorDoorbell who fn j v) s = .next (s.finc (rQ .fxQErr q) fxQErr_DBERR) ∧
      exec (.completionDoorbell who fn j v) s = .next (s.finc (rQ .fxQErr q) fxQErr_DBERR)) ∧
    (mine → gen → fit →
      ((s.qTail q + n - s.qHead q) % n ≤ (i + n - s.qHead q) % n →
        ∃ t, exec (.descriptorDoorbell who fn j v) s = .next t ∧ t.qTail q = i) ∧
      ((i + n - s.qHead q) % n < (s.qTail q + n - s.qHead q) % n →
        exec (.descriptorDoorbell who fn j v) s = .next (s.finc (rQ .fxQErr q) fxQErr_DBERR)) ∧
      ((i + n - s.qChead q) % n ≤ (s.qCtail q + n - s.qChead q) % n →
        exec (.completionDoorbell who fn j v) s = .next (s.fset (rQ .fxQPtr q) fxQPtr_CHEAD i)) ∧
      ((s.qCtail q + n - s.qChead q) % n < (i + n - s.qChead q) % n →
        exec (.completionDoorbell who fn j v) s = .next (s.finc (rQ .fxQErr q) fxQErr_DBERR)))) ∧
  (∀ (q i : Nat) (r : IoReq) (j : FxJob) (s : State), q < 4096 → s.io = [r] → r.use = .desc q i 1 → r.done = true →
    r.drop = false → s.jobs q = [j] → j.idx = i → j.st = .fetch → s.qState q = 1 → s.portUp (s.qPort q) = true →
    let bad : Bool := poisoned (poison8 r.poison) (32 * (i % 2)) 32
    let d0 : Nat := descDw r.data i 0
    let d2 : Nat := descDw r.data i 2
    let total : Nat := bits d0 48 16 + (if bit d2 2 then s.fget (rQ .fxQCfg q) fxQCfg_HDRLEN else 0)
    (r.err = true ∨ bad = true → ∃ t, exec (.descriptorFetch q) s = .next t ∧ t.qState q = 3 ∧
      t.fget (rQ .fxQCtl q) fxQCtl_QERR = (if r.err then 1 else 2) ∧ t.jobs q = [] ∧
      t.reported (if r.agent = 0x840 then 3368 else 3369) .uc) ∧
    (r.err = false → bad = false → s.qRx q = false → bits d2 3 3 = 0 → bits d2 6 2 < 2 → bits d2 8 56 = 0 →
      descDw r.data i 3 = 0 →
      (14 ≤ total → total ≤ 9212 → ∃ t, exec (.descriptorFetch q) s = .next t ∧
        ∃ k ∈ t.jobs q, k.idx = i ∧ k.st = .fetched ∧ k.buf = bits d0 0 48 ∧ k.len = bits d0 48 16 ∧
          k.launch = descDw r.data i 1 ∧ k.flen = max 60 total) ∧
      (total < 14 ∨ 9212 < total → ∃ t, exec (.descriptorFetch q) s = .next t ∧
        ∃ k ∈ t.jobs q, k.idx = i ∧ k.st = .done ∧ k.status = 5))) ∧
  (∀ (q : Nat) (j : FxJob) (s : State), q < 4096 → s.fxPump q = s → s.portUp (s.qPort q) = true →
    (s.safeAt = none → nextRead (s.jobs q) = some j → j.fetchedAt + 2 ≤ s.now → s.bufUsed (s.qPort q) + j.flen ≤ 32768 →
      (j.lt = false ∨ j.late = true ∨ j.launch ≤ s.ct.toNat + 20000 →
        ∃ t, exec (.txDataRead q) s = .next t ∧ ∃ k ∈ t.jobs q, k.idx = j.idx ∧ k.st = .reading) ∧
      (j.lt = true → j.late = false → s.ct.toNat + 20000 < j.launch → exec (.txDataRead q) s = .next s)) ∧
    (let rs : List IoReq := s.io.filter (fun r => r.use == .txData q j.idx && !r.drop)
     (s.jobs q).find? (fun k => k.st == .reading) = some j → j.lines ≤ j.pos → (∀ r ∈ rs, r.done = true) →
     ((∃ r ∈ rs, r.err = true) → ∃ t, exec (.frameReady q) s = .next t ∧
       ∃ k ∈ t.jobs q, k.idx = j.idx ∧ k.st = .done ∧ k.status = 6) ∧
     ((∀ r ∈ rs, r.err = false ∧ r.poison = 0) → ∃ t, exec (.frameReady q) s = .next t ∧
       ∃ k ∈ t.jobs q, k.idx = j.idx ∧ k.st = .ready ∧
         k.frame = padTo 60 ((if j.hdr then s.qHeader q else []) ++
           ((rs.flatMap (fun r => lineBytes 64 r.data)).drop (j.buf % 64)).take j.len)))) ∧
  (∀ (q n : Nat) (j : FxJob) (s : State), q < 4096 → s.jobs q = [j] → s.fnOfQueue q = some n → j.st = .done →
    s.qSize q ≤ 2 ^ 16 →
    (j.cstep = 0 → s.ringFull q = false → s.fxShut n j.gen = false →
      ∃ t, exec (.completionWrite q) s = .next t ∧ t.qCtail q = (s.qCtail q + 1) % s.qSize q ∧
        t.fget (rQ .fxQCtl q) fxQCtl_PHASE =
          if (s.qCtail q + 1) % s.qSize q = 0 then 1 - s.fget (rQ .fxQCtl q) fxQCtl_PHASE
          else s.fget (rQ .fxQCtl q) fxQCtl_PHASE) ∧
    (j.cstep = 0 → s.ringFull q = true → s.qState q ≠ 2 → exec (.completionWrite q) s = .next s) ∧
    (∀ r, j.cstep = 2 → s.io.find? (fun r => r.use == .compl q j.idx) = some r → r.done = true → r.err = false →
      r.drop = false → j.status ≠ 5 → s.qHead q = s.qTail q →
      ∃ t, exec (.completionWrite q) s = .next t ∧ t.jobs q = [] ∧
        (s.fget (rQ .fxQCfg q) fxQCfg_IRQEN = 1 → s.qRx q = true ∨ j.irq = true →
          let v : Nat := s.fget (rFn .fxFnCfg n) fxFnCfg_INTBASE + s.fget (rQ .fxQCfg q) fxQCfg_VEC
          s.canPend v = true → s.edgeSrc v = true → s.intClr.contains v = false → (t.src v).edgePend = true))) ∧
  (∀ (who : Agent) (n : Nat) (v : Word) (s : State), n < 256 → s.mayWrite who (rFn .fxFnCfg n) →
    let r : Reg := rFn .fxFnCfg n
    let new : Word := mergeReg (fields .fxFnCfg) allFields (s.rd r) v (BitVec.allOnes 64)
    ∃ t, exec (.fnCfgWrite who n v) s = .next t ∧
      (s.fnCfgBad n (s.rd r) new = 0 → t.rd r = new) ∧
      (s.fnCfgBad n (s.rd r) new ≠ 0 → t.rd r = s.rd r ∧ t.fget (rFn .fxFnCtl n) fxFnCtl_ERR = 1 ∧
        t.fget (rFn .fxFnCtl n) fxFnCtl_ERRCODE = s.fnCfgBad n (s.rd r) new)) ∧
  (∀ (n : Nat) (s : State), n < 256 →
    let r : Reg := rFn .fxFnCtl n
    let f : State → Fld → Nat := fun t g => t.fget r g
    (∀ who, s.mayWrite who r →
      (s.fnState n = 0 → s.fnEnableBad n = 0 →
        ∃ t, exec (.functionEnable who n) s = .next t ∧ t.fnState n = 1 ∧ t.rd (rFn .fxFnStat n) = 0) ∧
      (s.fnState n = 0 → s.fnEnableBad n ≠ 0 → ∃ t, exec (.functionEnable who n) s = .next t ∧ t.fnState n = 0 ∧
        f t fxFnCtl_ERR = 1 ∧ f t fxFnCtl_ERRCODE = s.fnEnableBad n) ∧
      (s.fnState n ≠ 0 → ∃ t, exec (.functionEnable who n) s = .next t ∧ t.fnState n = s.fnState n ∧
        f t fxFnCtl_ERR = 1 ∧ f t fxFnCtl_ERRCODE = 1) ∧
      (s.fnState n = 2 → ∃ t, exec (.functionDisable who n) s = .next t ∧ t.fnState n = 3 ∧ f t fxFnCtl_DKIND = 0 ∧
        t.fnGen n = s.fnGen n) ∧
      (s.fnState n ≠ 2 → ∃ t, exec (.functionDisable who n) s = .next t ∧ t.fnState n = s.fnState n ∧
        f t fxFnCtl_ERR = 1 ∧ f t fxFnCtl_ERRCODE = 1) ∧
      (s.fnState n = 0 ∨ s.fnState n = 2 ∨ (s.fnState n = 3 ∧ f s fxFnCtl_DKIND = 0) →
        ∃ t, exec (.functionReset who n) s = .next t ∧ t.fnGen n = (s.fnGen n + 1) % 256 ∧
          t.fnState n = (if s.fnState n = 0 then 0 else 3) ∧ (s.fnState n ≠ 0 → f t fxFnCtl_DKIND = 1)) ∧
      (s.fnState n = 1 ∨ (s.fnState n = 3 ∧ f s fxFnCtl_DKIND = 1) →
        ∃ t, exec (.functionReset who n) s = .next t ∧ t.fnGen n = s.fnGen n ∧ t.fnState n = s.fnState n ∧
          f t fxFnCtl_ERR = 1)) ∧
    (s.fnState n = 1 → s.fnReset.contains n = false →
      ∃ t, exec (.functionEnabled n) s = .next t ∧ t.fnState n = 2 ∧ f t fxFnCtl_EVT = 1) ∧
    (s.fnState n = 3 → (∀ e ∈ s.regs, e.1.name = .fxQCtl → fld e.2 fxQCtl_STATE = 0) → (∀ x ∈ s.io, x.ofFx = false) →
      ∃ t, exec (.functionDisabled n) s = .next t ∧ t.fnState n = 0 ∧ f t fxFnCtl_EVT = 1 ∧
        t.fnGen n = if f s fxFnCtl_DKIND = 0 then (s.fnGen n + 1) % 256 else s.fnGen n) ∧
    (∀ t0, s.fnState n = 3 → tfind s.fnSince n = some t0 → f s fxFnCtl_STUCK = 0 →
      (t0 + 1000000 ≤ s.ct.toNat → ∃ t, exec (.functionStuck n) s = .next t ∧ f t fxFnCtl_STUCK = 1 ∧
        t.reported (3080 + n) .uc) ∧
      (s.ct.toNat < t0 + 1000000 → exec (.functionStuck n) s = .next s)))

/-! The Supervisor Port and the root ports (R457–R487, R569). -/

/-- R458, R460, R463, R465–R469, R485, R569: the Supervisor Port. A commit of windows is refused while one is busy or the
shadows overlap, and ends when no request of the old windows is left. SP_HINTSET signals the host. A request of the host
waits behind a commit; a configuration request is answered, with CRS before READY; one that the function does not claim, or
with a PASID or an AT field, is an Unsupported Request; so is one of BAR2 that no window holds. Doorbell, configuration
access and ROM read of the host have their effects when no other request is on its way: a configuration access goes over the
mesh as agent 0x820, and its answer completes it. Resets and link events leave what R465 and R569 say. -/
def Obligations.SupervisorPort : Prop :=
  (∀ (who : Agent) (s : State), s.mayWrite who (rSp .spWctl) →
    let w : Reg := rSp .spWctl
    (s.fget w spWctl_BUSY = 1 → ∃ t, exec (.windowCommit who) s = .next t ∧ t.fget w spWctl_BUSY = 1 ∧
      t.fget w spWctl_REFUSED = 1 ∧ t.spAct = s.spAct) ∧
    (s.fget w spWctl_BUSY = 0 → s.winOverlap = true → ∃ t, exec (.windowCommit who) s = .next t ∧ t.fget w spWctl_BUSY = 0 ∧
      t.fget w spWctl_OVERLAP = 1 ∧ t.spAct = s.spAct) ∧
    (s.fget w spWctl_BUSY = 0 → s.winOverlap = false → ∃ t, exec (.windowCommit who) s = .next t ∧
      t.fget w spWctl_BUSY = 1 ∧ t.spAct = s.spAct)) ∧
  (∀ (s : State),
    (s.fget (rSp .spWctl) spWctl_BUSY = 1 → (∀ r ∈ s.io, r.agent = 0x820 → r.done = true) → s.spWait = [] →
      ∃ t, exec .windowCommitDone s = .next t ∧ t.fget (rSp .spWctl) spWctl_BUSY = 0 ∧
        ∀ i, i < 16 → t.winCfg i = s.rd (rWinCfg i) ∧ t.winTgt i = s.rd (rWinTgt i)) ∧
    (s.fget (rSp .spWctl) spWctl_BUSY = 0 ∨ (∃ r ∈ s.io, r.agent = 0x820 ∧ r.done = false) →
      exec .windowCommitDone s = .next s)) ∧
  (∀ (who : Agent) (v : Word) (s : State), s.mayWrite who (rSp .spHintset) →
    ∃ t, exec (.hintSet who v) s = .next t ∧ t.rd (rSp .spHint) = s.rd (rSp .spHint) ||| BitVec.ofNat 64 (bits v.toNat 0 32) ∧
      t.spInta = (t.spSignalled != 0 && !(s.spDword 1).getLsbD 10 && !s.spMsiEn)) ∧
  (∀ (r : SpTlp) (s : State),
    let up : Prop := s.spPerst = false ∧ s.fget (rSp .spStat) spStat_LINK = 1
    let idle : Prop := up ∧ s.fget (rSp .spWctl) spWctl_BUSY = 0
    let claimed : Prop := (s.spDword 0x21 &&& 3) = 0 ∧ (s.spDword 1).getLsbD 1 = true
    (¬ up → exec (.spInboundRequest r) s = .next s) ∧
    (up → s.fget (rSp .spWctl) spWctl_BUSY = 1 → exec (.spInboundRequest r) s = .next { s with spWait := s.spWait ++ [r] }) ∧
    (idle → s.io = [] →
      let own : Prop := r.pasid = false ∧ r.atField = 0
      (r.kind = .vendor1 → own → exec (.spInboundRequest r) s = .next { s with ioSeq := s.ioSeq + 1 }) ∧
      (r.kind = .cfg → own → s.fget (rSp .spCtl) spCtl_READY = 0 → r.size ≤ 64 →
        exec (.spInboundRequest r) s =
          .next { s with out := s.out ++ [.hostCpl 2 false r.size 0], ioSeq := s.ioSeq + 1 }) ∧
      (r.kind = .cfg → own → s.fget (rSp .spCtl) spCtl_READY = 1 → r.write = false → r.off < 0x1000 → r.off % 4 = 0 → r.size = 4 →
        exec (.spInboundRequest r) s =
          .next { s with out := s.out ++ [.hostCpl 0 false 4 ((s.spDword (r.off / 4)).setWidth 512)], ioSeq := s.ioSeq + 1 }) ∧
      (r.kind = .cfg → ¬ own → r.size ≤ 64 → ∃ t, exec (.spInboundRequest r) s = .next t ∧
        (t.spDword 0x41).getLsbD 20 = true ∧ t.regs = s.regs ∧
        t.out = s.out ++ [.hostCpl 1 false (if r.write then 0 else r.size) 0]) ∧
      (r.kind ≠ .vendor1 → r.kind ≠ .cfg → r.pasid = true ∨ r.atField ≠ 0 ∨ ¬ claimed → r.size ≤ 64 →
        ∃ t, exec (.spInboundRequest r) s = .next t ∧ (t.spDword 0x41).getLsbD 20 = true ∧
          t.out = s.out ++ (if r.write then [] else [.hostCpl 1 false r.size 0]) ∧ t.regs = s.regs ∧ t.io = s.io) ∧
      (r.kind = .bar2 → claimed → r.pasid = false → r.atField = 0 → r.off + r.size ≤ 0x100000000 → r.size ≤ 64 →
        s.winOf r.off r.size = none → ∃ t, exec (.spInboundRequest r) s = .next t ∧ t.io = s.io ∧
          (t.spDword 0x41).getLsbD 20 = true ∧
          t.fget (rSp .spWstat) spWstat_URCNT = min 65535 (s.fget (rSp .spWstat) spWstat_URCNT + 1)))) ∧
  (∀ (s : State), s.spPerst = false → s.fget (rSp .spStat) spStat_LINK = 1 → s.fget (rSp .spWctl) spWctl_BUSY = 0 →
    (s.spDword 0x21 &&& 3) = 0 → (s.spDword 1).getLsbD 1 = true → s.io = [] →
    (∀ v, ∃ t, exec (.hostDoorbell v) s = .next t ∧ t.fget (rSp .spHdbval) spHdbval_VALUE = bits v.toNat 0 32 ∧
      (s.canPend 160 = true → s.edgeSrc 160 = true → s.intClr.contains 160 = false → (t.src 160).edgePend = true)) ∧
    (∀ off, s.meshCalm → off < 2 ^ 32 → off % 8 = 0 → place (cfgBase + off) = .cfg off →
      tget 0 s.setNow (rSp .spHcfgaddr) = 0 →
      ∃ t, exec (.hostConfigAccess false 8 off 0) s = .next t ∧ s.sends t [fun k => k.isTo .ncRead (cfgBase + off) .target ∧
        k.src = 0x820 ∧ k.size = 8 ∧ k.aux = s.ioSeq + 1]) ∧
    (∀ off, (s.spDword 0x0C).getLsbD 0 = true → off < 0x80000 →
      exec (.expansionRomRead off) s =
        .next { s with out := s.out ++ [.hostCpl 0 false 8 ((tget 0 s.spRom (off / 8)).setWidth 512)], ioSeq := s.ioSeq + 1 })) ∧
  (∀ (off : Nat) (r : Reg) (m : Msg) (s s1 : State), m.opc = .ncRead → m.src = 0x820 → m.dst = .target → m.size = 8 →
    place m.pa = .cfg off → s1.meshCalm → s1.cfgAt m.acc off 8 = .reg r none →
    s.recv (fun k => (k.opc == .ncRead && k.src == 0x820 && k.pa == m.pa) && decide (k.dst = .target)) = some (m, s1) →
    (globalRead m.acc r = true → ∃ t, exec (.ncRead 0x820 m.pa) s = .next t ∧ s1.sends t [fun k =>
      k.isTo .ncData m.pa (.agent 0x820) ∧ k.aux = m.aux ∧ k.data = (s1.regRead r).setWidth 512 ∧ k.poison = 0]) ∧
    (globalRead m.acc r = false → ∃ t, exec (.ncRead 0x820 m.pa) s = .next t ∧ t.reported 3390 .ce ∧ s1.sends t [fun k =>
      k.isTo .ncErr m.pa (.agent 0x820) ∧ k.aux = m.aux])) ∧
  (∀ (m : Msg) (q : IoReq) (s s1 : State), s1.io = [q] → q.use = .hostCfg → q.id = m.aux → q.write = false → q.drop = false →
    q.done = false → q.size = 8 → q.pa % 8 = 0 →
    let comes : Opc → Prop := fun o => m.opc = o ∧ s.recv (fun k => k.opc == o && decide (k.dst = .agent 0x820)) = some (m, s1)
    (comes .ncData → ∃ t, exec (.ncData 0x820) s = .next t ∧ t.io = [] ∧
      t.out = s1.out ++ [.hostCpl 0 (m.poison != 0) 8 (lineGet m.data 0 8)]) ∧
    (comes .ncErr → ∃ t, exec (.ncErr 0x820) s = .next t ∧ t.io = [] ∧ t.out = s1.out ++ [.hostCpl 0 false 8 0] ∧
      t.fget (rSp .spHcfgstat) spHcfgstat_DROPPED = 1)) ∧
  (∀ (s : State),
    let fresh : State → Prop := fun t => t.spHdr = [] ∧ t.rd (rSp .spHint) = resetReg (rSp .spHint) ∧
      t.rd (rSp .spHintmask) = resetReg (rSp .spHintmask) ∧ t.rd (rSp .spHcfgaddr) = resetReg (rSp .spHcfgaddr) ∧
      t.rd (rSp .spHashsel) = resetReg (rSp .spHashsel) ∧ t.fget (rSp .spStat) spStat_EVT = 1 ∧ t.spRom = s.spRom ∧
      t.spAct = s.spAct ∧ t.fget (rSp .spCtl) spCtl_READY = s.fget (rSp .spCtl) spCtl_READY
    (∀ k, ∃ t, exec (.spLinkReset k) s = .next t ∧ fresh t ∧
      t.fget (rSp .spStat) spStat_LINK = if k = .linkDown then 0 else s.fget (rSp .spStat) spStat_LINK) ∧
    exec (.spPerst true) s = .next { s with spPerst := false } ∧
    (s.spPerst = false → ∃ t, exec (.spPerst false) s = .next t ∧ fresh t ∧ t.spPerst = true ∧
      t.fget (rSp .spStat) spStat_LINK = 0) ∧
    (∀ width speed, width < 4 → speed < 5 →
      (s.spPerst = false → s.fget (rSp .spStat) spStat_LINK = 0 → ∃ t, exec (.spLinkUp width speed) s = .next t ∧
        t.fget (rSp .spStat) spStat_LINK = 1 ∧ t.fget (rSp .spStat) spStat_WIDTH = width ∧
        t.fget (rSp .spStat) spStat_SPEED = speed ∧ t.fget (rSp .spStat) spStat_EVT = 1) ∧
      (s.spPerst = true → exec (.spLinkUp width speed) s = .next s)))

/-- R214, R472–R481: a root port answers a read of a core with all ones while it is contained or its link is down, and drops
a posted write; else it sends the request to its card, a read under a free tag. A completion, good, failed or poisoned, and
the completion timeout answer the read. Of a card, it takes INTx and error messages, answers what it does not support, or
what has a PASID or an AT field, as an Unsupported Request, and counts a bad MSI, all when no other request is on its way.
Presence, attention, link and slot events set their bits; a surprise down and a DPC trigger contain the port; software ends
containment unless DPC holds it. -/
def Obligations.RootPorts : Prop :=
  (∀ (k off : Nat) (m : Msg) (s : State), k < 16 → s.net = [m] → m.dst = .target → place m.pa = .rp k off →
    s.rpMerged k = false → m.inj = true → s.heldAt m = none → s.meshCalm → m.fromCore = true → m.spec = false →
    (s.contained k = true ∨ s.linkActive k = false →
      (m.opc = .ncRead → ∃ t a, exec (.rpOutboundRequest k) s = .next t ∧ t.net = [a] ∧ a.isTo .ncData m.pa (.agent m.src) ∧
        a.data = onesOf m.size ∧ t.out = s.out ∧ (tget false s.rpRep k = false → t.reported (3373 + k) .uc)) ∧
      (m.opc = .ncWriteP → ∃ t, exec (.rpOutboundRequest k) s = .next t ∧ t.net = [] ∧ t.out = s.out)) ∧
    (s.contained k = false → s.linkActive k = true → off < 0xFFF0000000 →
      (m.opc = .ncWriteP → ∃ t, exec (.rpOutboundRequest k) s = .next t ∧ t.net = [] ∧
        t.out = s.out ++ [.cardReq k 0 true 0 off m.size m.data (m.poison != 0)]) ∧
      (∀ tag, m.opc = .ncRead → s.rpTag k = some tag → ∃ t, exec (.rpOutboundRequest k) s = .next t ∧ t.net = [] ∧
        t.out = s.out ++ [.cardReq k 0 false tag off m.size 0 false] ∧ tfind t.rpOut (k, tag) = some ⟨some m, m.size, s.now⟩) ∧
      (m.opc = .ncRead → s.rpTag k = none → exec (.rpOutboundRequest k) s = .next s))) ∧
  (∀ (k tag : Nat) (m : Msg) (x : RpOut) (data : BitVec 512) (s : State), k < 16 → s.meshCalm → m.fromCore = true →
    tfind s.rpOut (k, tag) = some x → x.msg = some m → m.opc = .ncRead →
    (∃ t, exec (.rpCompletion k tag .ok data) s = .next t ∧ tfind t.rpOut (k, tag) = none ∧
      s.sends t [fun a => a.isTo .ncData m.pa (.agent m.src) ∧ a.data = (data &&& onesOf x.size) ∧ a.poison = 0]) ∧
    (∀ st, st = .ur ∨ st = .ca → ∃ t, exec (.rpCompletion k tag st data) s = .next t ∧ tfind t.rpOut (k, tag) = none ∧
      t.reported (3373 + k) .ce ∧ s.sends t [fun a => a.isTo .ncErr m.pa (.agent m.src) ∧ a.status = 3]) ∧
    (∃ t, exec (.rpCompletion k tag .poisoned data) s = .next t ∧ t.reported (3373 + k) .uc ∧
      s.sends t [fun a => a.isTo .ncData m.pa (.agent m.src) ∧ a.poison = 15]) ∧
    (s.rpOut = [((k, tag), x)] →
      (x.since + s.rpTimeout k ≤ s.now → ∃ t, exec (.completionTimeout k) s = .next t ∧ t.rpOut = [] ∧
        t.fget (rRp .rpStat k) rpStat_CTOCNT = min 65535 (s.fget (rRp .rpStat k) rpStat_CTOCNT + 1) ∧
        t.reported (3373 + k) .uc ∧
        s.sends t [fun a => a.isTo .ncData m.pa (.agent m.src) ∧ a.data = onesOf x.size ∧ a.poison = 0]) ∧
      (s.now < x.since + s.rpTimeout k → exec (.completionTimeout k) s = .next s))) ∧
  (∀ (k : Nat) (r : RpTlp) (s : State), k < 16 → s.io = [] →
    let own : Prop := r.pasid = false ∧ r.atField = 0
    (s.linkActive k = false ∨ s.contained k = true → exec (.rpInboundRequest k r) s = .next s) ∧
    (s.linkActive k = true → s.contained k = false →
      (∀ w up, r.kind = .intx w up → own → w < 4 → ∃ t, exec (.rpInboundRequest k r) s = .next t ∧
        (tget 0 t.rpIntx k).getLsbD w = up) ∧
      (r.kind = .errCor → own → ∃ t, exec (.rpInboundRequest k r) s = .next t ∧ t.reported (3373 + k) .ce) ∧
      (r.kind = .errNonfatal ∨ r.kind = .errFatal → own → ∃ t, exec (.rpInboundRequest k r) s = .next t ∧
        t.reported (3373 + k) .uc) ∧
      (r.kind = .unsupported ∨ ¬ own →
        ∃ t, exec (.rpInboundRequest k r) s = .next t ∧ t.reported (3373 + k) .uc ∧
          t.out = s.out ++ (if rpPosted r then [] else [.cardCpl k 1 false r.size 0])) ∧
      (r.kind = .silent → own → exec (.rpInboundRequest k r) s = .next s) ∧
      (r.kind = .mem → own → r.write = true → r.size ≠ 4 →
        r.addr / 4096 = s.fget (rRp .rpMsiaddr k) rpMsiaddr_ADDR →
        exec (.rpInboundRequest k r) s = .next (s.finc (rRp .rpStat k) rpStat_MSIDROP)))) ∧
  (∀ (k : Nat) (s : State), k < 16 →
    (∀ p, tget false s.rpCard k ≠ p → s.rpMerged k = false → ∃ t, exec (.presenceChange k p) s = .next t ∧
      tget false t.rpCard k = p ∧ t.imgBit k 0x16 19 = true ∧ t.imgBit k 0x16 22 = p) ∧
    (∀ p, tget false s.rpCard k = p → exec (.presenceChange k p) s = .next s) ∧
    (s.rpMerged k = false → ∃ t, exec (.attentionButton k) s = .next t ∧ t.imgBit k 0x16 16 = true) ∧
    (s.linkActive k = true → s.rpOut = [] → ∃ t, exec (.surpriseDown k) s = .next t ∧ t.contained k = true ∧
      t.linkActive k = false ∧ t.reported (3373 + k) .uc) ∧
    (s.linkActive k = false → exec (.surpriseDown k) s = .next s) ∧
    (bits (s.img k 0x53).toNat 16 2 ≠ 0 → s.imgBit k 0x54 0 = false → s.rpOut = [] → ∃ t, exec (.dpcTrigger k) s = .next t ∧
      t.contained k = true ∧ t.linkActive k = false ∧ t.imgBit k 0x54 0 = true ∧ t.reported (3373 + k) .uc) ∧
    (s.rpMayTrain k = true → s.linkActive k = false → ∃ t, exec (.rpLinkUp k) s = .next t ∧ t.linkActive k = true ∧
      t.imgBit k 0x16 24 = true) ∧
    (s.rpMayTrain k = false → exec (.rpLinkUp k) s = .next s) ∧
    (∀ who, s.mayWrite who (rRp .rpStat k) →
      (s.imgBit k 0x54 0 = false → ∃ t, exec (.containmentClear who k) s = .next t ∧ t.contained k = false) ∧
      (s.imgBit k 0x54 0 = true → ∃ t, exec (.containmentClear who k) s = .next t ∧ t.contained k = s.contained k ∧
        t.fget (rRp .rpStat k) rpStat_ERR = 1) ∧
      (∀ v, s.linkActive k = false → tget 0 s.imgNow (k, 0x16) = 0 → ∃ t, exec (.slotControlWrite who k v) s = .next t ∧ t.imgBit k 0x16 20 = true ∧
        (t.img k 0x16 &&& 0x17FF) = (v.setWidth 32 &&& 0x17FF))))

/-! Firebreak (R488–R514). -/

/-- R490, R491, R494, R498–R501, R503–R505, R508: an event is counted, recorded and either reacts or arms a watch slot;
acknowledgement and escalation; the error pin; the safe state and its sequence; voting. -/
def Obligations.Firebreak : Prop :=
  (∀ (n detail : Nat) (cls : FbClass) (s : State), n < 4096 →
    (fbRaises n cls = false → exec (.firebreakEvent n cls detail) s = .next s) ∧
    (fbRaises n cls = true → detail < 2 ^ 32 → s.fbq = [] →
      let st : Reg := rFbStat n
      let taken : State → Prop := fun t => t.fget st (fbPendFld cls).1 = 1 ∧
        t.fget st (fbPendFld cls).2 = min 65535 (s.fget st (fbPendFld cls).2 + 1) ∧ t.rd ⟨.fbSrcLast, n, 0⟩ = s.ct ∧
        (s.frozen = false → s.ashQ.length < 64 → ∃ e, s.ashQ ++ [e] <+: t.ashQ ∧ e.typ = 1 ∧ e.src = n ∧ e.cls = clsNum cls)
      (s.safeAt.isSome = true → ∃ t, exec (.firebreakEvent n cls detail) s = .next t ∧ taken t ∧ t.cores = s.cores ∧
        t.rst = s.rst ∧ t.nmiQ = s.nmiQ ∧ t.armed = s.armed) ∧
      (∀ w, s.safeAt = none → s.watchOf n cls = some w → s.fget (rWatchStat w) fbWatchStat_STATE ≠ 1 →
        ∃ t, exec (.firebreakEvent n cls detail) s = .next t ∧ taken t ∧ t.fget (rWatchStat w) fbWatchStat_STATE = 1 ∧
          t.fget (rWatchStat w) fbWatchStat_SEQ = (s.fget (rWatchStat w) fbWatchStat_SEQ + 1) % 256 ∧
          tfind t.armed w = some ⟨s.now + 200 * s.fget (rWatchCfg w) fbWatchCfg_TIMEOUT, n, cls, detail⟩ ∧
          t.rst = s.rst ∧ t.nmiQ = s.nmiQ ∧ t.cores = s.cores) ∧
      (s.safeAt = none → s.watchOf n cls = none →
        let code : Nat := s.fget (rFbCfg n) (fbCodeFld cls)
        ∃ t, exec (.firebreakEvent n cls detail) s = .next t ∧ taken t ∧ t.armed = s.armed ∧
          (code = 1 → t.fget st fbSrcStat_IP = 1) ∧
          (∀ p, code = 2 → s.nmiCore n detail = some p → isCore p = true → t.nmiQ = s.nmiQ ++ [(p, n)]) ∧
          (code = 3 → n < 1088 → (s.core n).run = .running → s.leads n = false → s.follows n = false → (t.core n).run = .parking) ∧
          (code = 4 → s.rst = none → t.rst = some (4, 2)) ∧
          (code = 5 ∨ code = 6 → t.fget rFbPin fbPin_ASSERTED = 1 ∧ t.fget rFbPin fbPin_MINDONE = 0 ∧
            t.fget rFbPin fbPin_SEQ = (s.fget rFbPin fbPin_SEQ + 1) % 256 ∧
            t.pinEnd = s.now + 200 * s.fget ⟨.fbPinmin, 0, 0⟩ fbPinmin_MIN) ∧
          (code = 7 → t.safeAt = some s.now ∧ t.fget rFbSafe fbStat_SAFE = 1 ∧ t.fget rFbSafe fbStat_SAFECAUSE = 1 ∧
            t.fget rFbSafe fbStat_SAFESRC = n)))) ∧
  (∀ (e : FbEv) (s : State), e.src < 4096 → fbRaises e.src e.cls = true → s.fbq = [e] → s.safeAt.isSome = true →
    ∀ detail, ∃ t, exec (.firebreakEvent e.src e.cls detail) s = .next t ∧ t.fbq = [] ∧
      t.fget (rFbStat e.src) (fbPendFld e.cls).2 = min 65535 (s.fget (rFbStat e.src) (fbPendFld e.cls).2 + e.n)) ∧
  (∀ (w : Nat) (a : Armed) (s : State), w < 32 → tfind s.armed w = some a → s.safeAt = none →
    (s.now < a.expiry → exec (.watchExpiry w) s = .next s) ∧
    (a.expiry ≤ s.now → ∃ t, exec (.watchExpiry w) s = .next t ∧ t.fget (rWatchStat w) fbWatchStat_STATE = 2 ∧
      t.fget (rWatchStat w) fbWatchStat_ESC = 1 ∧ tfind t.armed w = none ∧
      (s.fget (rWatchCfg w) fbWatchCfg_STAGE2 = 7 → fbCodeOk a.src a.cls 7 = true → t.safeAt = some s.now) ∧
      (s.fget (rWatchCfg w) fbWatchCfg_STAGE2 = 4 → fbCodeOk a.src a.cls 4 = true → s.rst = none → t.rst = some (4, 2)))) ∧
  (∀ (who : Agent) (w : Nat) (v : Word) (s : State), w < 32 → s.mayWrite who (rWatchStat w) →
    let r : Reg := rWatchStat w
    (s.fget r fbWatchStat_STATE = 0 → ∃ t, exec (.watchAck who w v) s = .next t ∧ t.fget r fbWatchStat_STATE = 0 ∧
      t.armed = s.armed) ∧
    (s.fget r fbWatchStat_STATE ≠ 0 → v.toNat % 256 = s.fget r fbWatchStat_SEQ → ∃ t, exec (.watchAck who w v) s = .next t ∧
      t.fget r fbWatchStat_STATE = 0 ∧ t.fget r fbWatchStat_EVCNT = 0 ∧ tfind t.armed w = none) ∧
    (s.fget r fbWatchStat_STATE ≠ 0 → v.toNat % 256 ≠ s.fget r fbWatchStat_SEQ → ∃ t, exec (.watchAck who w v) s = .next t ∧
      t.fget r fbWatchStat_STATE = s.fget r fbWatchStat_STATE ∧ t.fget r fbWatchStat_ACKSTALE = 1 ∧ t.armed = s.armed)) ∧
  (∀ (who : Agent) (v : Word) (s : State), s.mayWrite who rFbPin → s.fget rFbPin fbPin_ASSERTED = 1 →
    let pin : State → Nat := fun t => t.fget rFbPin fbPin_ASSERTED
    (s.safeAt = none → v.toNat % 256 = s.fget rFbPin fbPin_SEQ → ∃ t, exec (.pinRelease who v) s = .next t ∧
      (s.fget rFbPin fbPin_MINDONE = 1 → pin t = 0) ∧
      (s.fget rFbPin fbPin_MINDONE = 0 → pin t = 1 ∧ t.fget rFbPin fbPin_HELD = 1)) ∧
    (s.safeAt = none → v.toNat % 256 ≠ s.fget rFbPin fbPin_SEQ → ∃ t, exec (.pinRelease who v) s = .next t ∧ pin t = 1 ∧
      t.fget rFbPin fbPin_RELERR = 1) ∧
    (s.safeAt.isSome = true → ∃ t, exec (.pinRelease who v) s = .next t ∧ pin t = 1)) ∧
  (∀ (s : State), s.pinEnd ≠ 0 →
    (s.now < s.pinEnd → exec .pinMinEnd s = .next s) ∧
    (s.pinEnd ≤ s.now → ∃ t, exec .pinMinEnd s = .next t ∧ t.fget rFbPin fbPin_MINDONE = 1 ∧
      t.fget rFbPin fbPin_ASSERTED =
        if s.fget rFbPin fbPin_HELD = 1 ∧ s.safeAt = none then 0 else s.fget rFbPin fbPin_ASSERTED)) ∧
  (∀ (who : Agent) (s : State), s.mayWrite who ⟨.fbCtl, 0, 0⟩ →
    ((who = .sbc ∨ (s.accOf who).sealed3 = true) → s.safeAt = none →
      ∃ t, exec (.safeRequest who) s = .next t ∧ t.safeAt = some s.now ∧ t.fget rFbSafe fbStat_SAFE = 1 ∧
        t.fget rFbSafe fbStat_SAFECAUSE = 3) ∧
    (who ≠ .sbc → (s.accOf who).sealed3 = false → ∃ t, exec (.safeRequest who) s = .next t ∧ t.safeAt = s.safeAt) ∧
    (s.safeAt.isSome = true → ∃ t, exec (.safeRequest who) s = .next t ∧ t.safeAt = s.safeAt)) ∧
  (∀ (s : State) (t0 : Nat), s.safeAt = some t0 → s.nSafe = false →
    (s.now < t0 + 2000 → exec .safeNsafeAssert s = .next s) ∧
    (t0 + 2000 ≤ s.now → ∃ t, exec .safeNsafeAssert s = .next t ∧ t.nSafe = true ∧ t.fget rFbPin fbPin_ASSERTED = 1 ∧
      ∀ p, isCore p = true → (t.core p).arch = (s.core p).arch ∧ (t.core p).run =
        if (s.core p).run ∈ [.running, .vechalt, .stopped, .parking] then .safehalt else (s.core p).run)) ∧
  (∀ (s : State), s.safeAt = none → exec .safeNsafeAssert s = .next s) ∧
  (∀ (k : Nat) (s : State), k < 16 →
    (s.nSafe = true → s.chanLive k = true → (s.chan k).queue = [] → ∃ t, exec (.safeSelfRefresh k) s = .next t ∧
      t.chanState k = 4 ∧ t.mem = s.mem ∧
      ((∀ j, j < 16 → j ≠ k → s.chanLive j = false) → s.frozen = false → t.frozen = true ∧
        t.fget rAshStat ashStat_FRZCAUSE = 1)) ∧
    (s.nSafe = false → exec (.safeSelfRefresh k) s = .next s)) ∧
  (∀ (off : Nat) (r : Reg) (a b c : Word) (s : State), off < 2 ^ 27 → s.fbWordAt off = some r →
    let h : Word := heldMask r.name
    (a &&& h ≠ b &&& h → a &&& h ≠ c &&& h → b &&& h ≠ c &&& h → s.safeAt = none →
      ∃ t, exec (.backgroundVoteCheck off a b c) s = .next t ∧ t.safeAt = some s.now ∧ t.fget rFbSafe fbStat_SAFECAUSE = 2) ∧
    (a &&& h ≠ 0 → r ≠ rFbSafe → ∃ t, exec (.backgroundVoteCheck off a 0 0) s = .next t ∧ t.rd r = s.rd r ∧
      t.fget rFbSafe fbStat_VOTECORR = min 65535 (s.fget rFbSafe fbStat_VOTECORR + 1) ∧
      t.fget rFbSafe fbStat_LASTOFF = off ∧ t.reported 3393 .ce) ∧
    (∃ t, exec (.backgroundVoteCheck off 0 0 0) s = .next t ∧ t.rd r = s.rd r ∧
      t.fget rFbSafe fbStat_VOTECORR = if r = rFbSafe then s.fget r fbStat_VOTECORR else s.fget rFbSafe fbStat_VOTECORR))

/-! The Ash Record and the Change Ledger (R549–R559). -/

/-- R549, R550, R552, R554–R557: events enter the Ash ring in order until it freezes; the power-fail copy; logged writes
enter the Ledger and then act; its mirror. -/
def Obligations.RecordAndLedger : Prop :=
  (∀ (s : State),
    let n : Nat := s.fget rAshHead ashHead_SEQ
    (∀ e q, s.frozen = false → s.fget rAshStat ashStat_READY = 1 → s.ashTrig ≠ some 0 → s.ashQ = e :: q →
      ∃ t, exec .ashRecordEvent s = .next t ∧ tget 0 t.ash (n % 65536) = e.enc n ∧ t.ashQ = q ∧
        t.fget rAshHead ashHead_SEQ = (n + 1) % 2 ^ 32 ∧ (∀ i, i ≠ n % 65536 → tget 0 t.ash i = tget 0 s.ash i)) ∧
    (s.frozen = true ∨ s.fget rAshStat ashStat_READY = 0 ∨ s.ashQ = [] → exec .ashRecordEvent s = .next s) ∧
    (s.ashTrig = some 0 → s.frozen = false → ∃ t, exec .ashTriggerFreeze s = .next t ∧ t.frozen = true ∧
      t.fget rAshStat ashStat_FRZCAUSE = 4 ∧ t.ashQ = [] ∧
      t.fget rAshStat ashStat_LOST = min 65535 (s.fget rAshStat ashStat_LOST + s.ashQ.length)) ∧
    (s.ashTrig ≠ some 0 → exec .ashTriggerFreeze s = .next s) ∧
    (s.frozen = false → s.flushTo = none → ∃ t, ∃ i : Nat, exec .powerFailWarning s = .next t ∧ t.frozen = true ∧
      t.fget rAshStat ashStat_FRZCAUSE = 2 ∧ t.fget rAshStat ashStat_FLUSHING = 1 ∧ t.flushTo = some i ∧ i < 2 ∧
      (s.area i).gen ≤ (s.area (1 - i)).gen ∧ (t.area i).gen = (s.area (1 - i)).gen + 1 ∧ (t.area i).marked = false ∧
      t.area (1 - i) = s.area (1 - i)) ∧
    (∀ i, s.flushTo = some i → ∃ t, exec .flushDone s = .next t ∧ (t.area i).marked = true ∧
      (t.area i).events = (s.area i).events ∧ t.flushTo = none ∧ t.fget rAshStat ashStat_FLUSHING = 0) ∧
    (s.flushTo = none → exec .flushDone s = .next s)) ∧
  (∀ (who : Agent) (s : State), s.mayWrite who rAshCtl →
    (s.frozen = false → ∃ t, exec (.ashFreeze who) s = .next t ∧ t.frozen = true ∧ t.fget rAshStat ashStat_FRZCAUSE = 3) ∧
    (let may : Prop := s.safeAt = none ∧ s.fget rAshStat ashStat_FLUSHING = 0 ∧ (who = .sbc ∨ (s.accOf who).collier = true)
     (may → ∃ t, exec (.ashUnfreeze who) s = .next t ∧ t.frozen = false ∧ t.fget rAshStat ashStat_FRZCAUSE = 0 ∧
       t.fget rAshStat ashStat_LOST = 0) ∧
     (¬ may → ∃ t, exec (.ashUnfreeze who) s = .next t ∧ t.frozen = s.frozen ∧ t.fget rAshStat ashStat_ERR = 1))) ∧
  (∀ (who : Agent) (v : Word) (s : State), s.mayWrite who ⟨.ashSwevt, 0, 0⟩ →
    (s.frozen = false → s.ashQ.length < 64 → ∃ t e, exec (.softwareEvent who v) s = .next t ∧ t.ashQ = s.ashQ ++ [e] ∧
      e.ct = s.ct ∧ e.typ = 0x50 ∧ e.src = agentNo who ∧ e.d0 = v) ∧
    (s.frozen = true → ∃ t, exec (.softwareEvent who v) s = .next t ∧ t.ashQ = s.ashQ ∧
      t.fget rAshStat ashStat_LOST = min 65535 (s.fget rAshStat ashStat_LOST + 1))) ∧
  (∀ (w : WriteReq) (q : List WriteReq) (r : Reg) (a : Nat) (s : State), s.ledgRoom = true → s.ledgQ = w :: q →
    w.tgt = .reg r a → r.name ∈ [.coreEntry, .fbPinmin, .iotuSte] → w.bank = some 0 → w.ack = none → w.at_ ≤ s.now →
    tget 0 s.setNow r = 0 →
    let n : Nat := (s.rd rLedgHead).toNat
    n + 1 < 2 ^ 64 → a < 2 ^ 64 →
    ∃ t, exec .ledgerEntry s = .next t ∧ t.ledgQ = q ∧ (t.rd rLedgHead).toNat = n + 1 ∧
      t.rd r = mergeReg (fields r.name) allFields (s.rd r) w.val w.mask ∧
      let e : Line := tget 0 t.ledg (n % 8192)
      let dw : Nat → Nat := fun i => ((e >>> (64 * i)).setWidth 64).toNat
      dw 0 = n ∧ dw 1 = s.ct.toNat ∧ dw 2 = a ∧ dw 3 = (s.rd r).toNat ∧ dw 4 = (offered (s.rd r) w.val w.mask).toNat) ∧
  (∀ (s : State), s.ledgRoom = false → exec .ledgerEntry s = .next s) ∧
  (∀ (s : State), s.meshCalm →
    let n : Nat := (s.rd rLedgMseq).toNat
    let ready : Prop := s.fget rLedgCtl ledgCtl_MEN = 1 ∧ s.mirOut = false ∧ s.mirRef = false ∧ n < (s.rd rLedgHead).toNat
    (ready → ∃ t, exec .ledgerMirrorCopy s = .next t ∧ t.mirOut = true ∧ t.ledg = s.ledg ∧
      s.sends t [fun m => m.opc = .writeUnique ∧ m.data = tget 0 s.ledg (n % 8192) ∧ m.world = true ∧
        m.pa = s.fget rLedgCtl ledgCtl_MBASE * 2 ^ 26 + 64 * (n % 2 ^ 20)]) ∧
    (¬ ready → exec .ledgerMirrorCopy s = .next s) ∧
    (s.mirRef = true → ∃ t, exec .mirrorAbandon s = .next t ∧ t.fget rLedgCtl ledgCtl_MEN = 0 ∧
      t.fget rLedgStat ledgStat_MIRERR = 1 ∧ t.mirRef = false ∧ t.mirOut = false ∧ t.reported 3396 .uc) ∧
    (s.mirRef = false → s.ledgQ = [] → exec .mirrorAbandon s = .next s))

/-! Resets, the boot sequence, Kindling's services (R538–R548, R562, R565). -/

/-- R538–R541, R543–R545, R565, while no spare core has failed its self-test: power-on and supply reset take effect at once;
nRST, a chip-reset request and SBC_RST are noted, and the reset takes effect once the Ledger queue is empty and no key is
being generated. Each is stated by what it leaves of the registers named here, of DRAM, CT, the mesh, the key slots and the
cores. The steps of the boot sequence each advance SBC_STAT.STEP when the one before has been reached, while the Ledger takes
a write with its mirror off; SBC_CONFIRM ends the trial of the new Kiln. R545–R548, R562: Kindling serves the bank whose turn
it is, while the Ledger takes a write: the capability requests 1 to 8 and 10, each with its result and the reasons for which
it is refused that are named here; the turn then passes on. A valid request for authenticated debug, by JTAG or by capability
request 9, grants or revokes the enables of its range of cores, and each request makes a fresh nonce. -/
def Obligations.ResetsBootAndKindling : Prop :=
  ((∀ (s : State),
     (∃ t, exec .powerOnReset s = .next t ∧ (∀ r, r ≠ rSbcStat → t.rd r = resetReg r) ∧ t.fget rSbcStat sbcStat_LASTRST = 0 ∧
       t.cores = [] ∧ t.net = [] ∧ t.mem = [] ∧ t.ledg = State.reset.ledg ∧ t.ash = [] ∧ t.pending = s.pending) ∧
     (s.frozen = false → (∀ p, (s.core p).bistFailed = false) → ∃ t, exec .supplyReset s = .next t ∧ t.ct = s.ct ∧ t.mem = [] ∧ t.net = [] ∧
       t.cores = [] ∧ t.fget rSbcStat sbcStat_LASTRST = 1 ∧ (∀ k, k < 66 → t.keyGen k = s.keyGen k) ∧ t.slotState 0 = 0 ∧
       (∀ p, p < 1088 → t.fget ⟨.coreDbgen, p, 0⟩ coreDbgen_AUTH = s.fget ⟨.coreDbgen, p, 0⟩ coreDbgen_AUTH) ∧
       (t.rd rLedgHead).toNat = ((s.rd rLedgHead).toNat + 1) % 2 ^ 64) ∧
     (s.rst = none → exec .islandReset s = .next { s with rst := some (3, 0) } ∧
       exec .chipReset s = .next { s with rst := some (4, 1) } ∧
       (s.ledgFree = true → (∃ t, exec (.sbcRstChip .sbc) s = .next t ∧ t.rst = some (4, 1)) ∧
         ∃ t, exec (.sbcRstIsland .sbc) s = .next t ∧ t.rst = some (3, 1))) ∧
     (s.rst = none ∨ s.ledgQ ≠ [] ∨ s.keysQuiet = false → exec .resetEffect s = .next s) ∧
     (∀ code cause, s.rst = some (code, cause) → code = 3 ∨ code = 4 → s.ledgQ = [] → s.keysQuiet = true →
       (∀ k, k < 16 → (s.chan k).queue = []) → s.frozen = false → s.ledgRoom = true → (∀ p, (s.core p).bistFailed = false) →
       ∃ t, exec .resetEffect s = .next t ∧ t.rst = none ∧ t.mem = s.mem ∧ t.memKey = s.memKey ∧ t.ct = s.ct ∧ t.net = [] ∧
         t.cores = [] ∧ t.fget rSbcStat sbcStat_LASTRST = code - 1 ∧ (∀ k, k < 66 → t.keyGen k = s.keyGen k) ∧
         (code = 4 → ∀ r, blkOf r.name = some .fb → t.rd r = s.rd r) ∧
         (code = 3 → ∀ r, blkOf r.name = some .fb → t.rd r = resetReg r))) ∧
   (∀ (s : State), s.ledgFree = true → s.fget rLedgCtl ledgCtl_MEN = 0 → s.setNow = [] →
     let step : State → Nat := fun t => t.fget rSbcStat sbcStat_STEP
     (∀ i, s.fget rPll clkPll_LOCK = 1 → step s ≤ 2 → s.chooseSlot 1 = some i →
       ∃ t, exec (.bootSequence .stage2) s = .next t ∧ step t = 3 ∧ t.fget rSbcStat sbcStat_KSLOT = i ∧
         t.attemptsOf 1 i = s.attemptsOf 1 i + 1) ∧
     (s.fget rPll clkPll_LOCK = 1 → step s ≤ 2 → s.chooseSlot 1 = none →
       ∃ t, exec (.bootSequence .stage2) s = .next t ∧ step t = 15 ∧ t.reported 3397 .uc ∧
         t.fget (rSp .spCtl) spCtl_READY = 1) ∧
     (step s = 3 → ∃ t, exec (.bootSequence .record) s = .next t ∧ step t = 4 ∧ t.fget rAshStat ashStat_READY = 1) ∧
     (step s = 4 → ∀ rom, ∃ t, exec (.bootSequence (.ports rom [])) s = .next t ∧ step t = 5 ∧
       t.fget (rSp .spCtl) spCtl_READY = 1) ∧
     (∀ i, step s = 5 → s.chooseSlot 2 = some i → s.slotState 64 ≠ 1 → s.slotState 65 ≠ 1 →
       ∃ t, exec (.bootSequence .images) s = .next t ∧ step t = 6 ∧ t.fget rSbcStat sbcStat_KILNSLOT = i ∧
         t.slotState 64 = 1 ∧ t.slotState 65 = 1) ∧
     (step s = 6 → ∀ cs ilv, ∃ t, exec (.bootSequence (.train cs ilv)) s = .next t ∧ step t = 7 ∧ t.mcLocked = true) ∧
     (step s = 7 → s.slotState 64 = 2 → s.slotState 65 = 2 → ∀ rs lines e c m,
       ∃ t, exec (.bootSequence (.regions rs lines e c m)) s = .next t ∧ step t = 8) ∧
     (step s = 8 → (s.chooseSlot 3).isSome = true → ∃ t, exec (.bootSequence .release) s = .next t ∧ step t = 9 ∧
       ∀ c, c < 4 → (t.core (1088 + c)).run = .running ∧ (t.core (1088 + c)).arch.level = 2 ∧
         (t.core (1088 + c)).arch.world = false ∧
         (t.core (1088 + c)).arch.pc = BitVec.ofNat 64 (s.fget ⟨.coreEntry, 1088 + c, 0⟩ coreEntry_PC * 4)) ∧
     (step s = 9 → ∀ b, exec (.bootSequence b) s = .next s)) ∧
   (∀ (who : Agent) (v : Word) (s : State), s.mayWrite who ⟨.sbcConfirm, 0, 0⟩ → v.getLsbD 0 = true →
     ∃ t, exec (.kilnConfirm who v) s = .next t ∧ t.attemptsOf 2 (s.fget rSbcStat sbcStat_KILNSLOT) = 0 ∧
       (s.updating = some 2 → t.updating = none ∧ t.fget rSbcStat sbcStat_UPD = 0))) ∧
  ((∀ (c : Nat) (s : State), c < 4 → s.setNow = [] →
     let mine : Nat → Prop := fun op => s.capTurn = some c ∧ tfind s.capOp c = some op ∧ s.ledgFree = true
     let ends : State → Nat → Prop := fun t why => tfind t.capOp c = none ∧ t.capNext = (c + 1) % 4 ∧
       t.fget (rCapstat c) sbcCapstat_STATE = (if why = 0 then 2 else 3) ∧ t.fget (rCapstat c) sbcCapstat_REASON = why
     let arg : Nat := s.capArg c
     let val : Nat := s.capVal c
     let slot : Nat → Nat := fun k => s.fget rSbcStat (slotFld k)
     (s.capTurn ≠ some c → exec (.mapcore c) s = .next s ∧ exec (.confirm c) s = .next s) ∧
     (mine 1 →
       (1024 ≤ arg ∨ 1088 ≤ val → ∃ t, exec (.mapcore c) s = .next t ∧ ends t 4 ∧ t.pcnOf arg = s.pcnOf arg) ∧
       (arg < 1024 → val < 1088 →
         let claimed : Bool := s.coreClaimed (s.pcnOf arg) || s.coreClaimed val
         (claimed = true → ∃ t, exec (.mapcore c) s = .next t ∧ ends t 3 ∧ t.pcnOf arg = s.pcnOf arg) ∧
         (claimed = false → val ≠ s.pcnOf arg → s.lcnRefused arg val = true →
           ∃ t, exec (.mapcore c) s = .next t ∧ ends t 2 ∧ t.pcnOf arg = s.pcnOf arg) ∧
         (claimed = false → val = s.pcnOf arg ∨ s.lcnRefused arg val = false →
           ∃ t, exec (.mapcore c) s = .next t ∧ ends t 0 ∧ t.pcnOf arg = val))) ∧
     (mine 2 →
       (512 ≤ arg → ∃ t, exec (.twin c) s = .next t ∧ ends t 4) ∧
       (∀ p, arg < 512 → s.pairPcn arg = some p → s.coreClaimed p = false → s.coreClaimed (p + 1) = false →
         s.isParked p = true → s.isParked (p + 1) = true →
         ∃ t, exec (.twin c) s = .next t ∧ ends t 0 ∧ t.fget (rTwin arg) cfgTwin_EN = val % 2)) ∧
     (mine 3 → ∃ t, exec (.quietd0 c) s = .next t ∧ ends t 0 ∧ t.quiet false 0 = decide (val % 2 = 1)) ∧
     (mine 4 → s.rst = none →
       (arg < 2 → ∃ t, exec (.reset c) s = .next t ∧ ends t 0 ∧ t.rst = some (4 - arg, 1)) ∧
       (2 ≤ arg → ∃ t, exec (.reset c) s = .next t ∧ ends t 4 ∧ t.rst = none)) ∧
     (mine 5 → s.safeAt = none → ∃ t, exec (.safe c) s = .next t ∧ ends t 0 ∧ t.safeAt = some s.now) ∧
     (mine 6 →
       let k : Nat := arg % 4
       (k = 0 → ∃ t, exec (.stage c) s = .next t ∧ ends t 4 ∧ t.slots = s.slots) ∧
       (∀ l x, 0 < k → s.d0Bytes val (min (arg / 2 ^ 32) (slotRoom k)) = some l → s.judgeImage k l = some x →
         ∃ t, exec (.stage c) s = .next t ∧ ends t 0 ∧ t.imgSlot k (1 - slot k) = x ∧ t.imgSlot k (slot k) = s.imgSlot k (slot k))) ∧
     (mine 7 →
       (arg = 0 ∨ 3 < arg → ∃ t, exec (.activate c) s = .next t ∧ ends t 4) ∧
       (1 ≤ arg → arg ≤ 3 → s.updating.isSome = true → ∃ t, exec (.activate c) s = .next t ∧ ends t 5) ∧
       (1 ≤ arg → arg ≤ 3 → s.updating = none → s.slotOk arg (1 - slot arg) = false →
         ∃ t, exec (.activate c) s = .next t ∧ ends t 4) ∧
       (arg = 3 → s.updating = none → s.slotOk 3 (1 - slot 3) = true →
         ∃ t, exec (.activate c) s = .next t ∧ ends t 0 ∧ t.fget rSbcStat sbcStat_CWSLOT = 1 - slot 3 ∧ t.updating = some 3 ∧
           t.fget rSbcStat sbcStat_UPD = 1)) ∧
     (mine 8 →
       (arg = 0 ∨ 3 < arg ∨ s.runsImage arg = false → ∃ t, exec (.confirm c) s = .next t ∧ ends t 4) ∧
       (1 ≤ arg → arg ≤ 3 → s.runsImage arg = true → ∃ t, exec (.confirm c) s = .next t ∧ ends t 0 ∧ t.attemptsOf arg (slot arg) = 0 ∧
         (s.updating = some arg → t.updating = none))) ∧
     (mine 10 → 1 ≤ arg → arg ≤ 3 →
       (val ≤ (s.imgSlot arg (slot arg)).ver → ∃ t, exec (.svnraise c) s = .next t ∧ ends t 0 ∧ val ≤ t.minVersion arg ∧
         s.minVersion arg ≤ t.minVersion arg) ∧
       ((s.imgSlot arg (slot arg)).ver < val → ∃ t, exec (.svnraise c) s = .next t ∧ ends t 4 ∧
         t.minVersion arg = s.minVersion arg))) ∧
   (∀ (c : Nat) (l : List Byte) (s : State), s.ledgRoomFor 1088 = true → s.ledgFree = true →
     let auth : State → Nat → Nat := fun t p => t.fget ⟨.coreDbgen, p, 0⟩ coreDbgen_AUTH
     let en : Nat := leAt l 28 1 % 16
     let granted : State → Prop := fun t => ∀ p, p < 1088 → auth t p =
       if leAt l 24 2 ≤ p ∧ p ≤ leAt l 26 2 then
         (if 128 ≤ leAt l 28 1 then auth s p &&& (15 - en) else auth s p ||| en) else auth s p
     let fresh : State → Prop := fun t => t.rd ⟨.sbcDbgnonce, 0, 0⟩ = freeNonce s.draws ∧ t.draws = s.draws + 1
     (l.length = 256 →
       (s.debugValid l = true → ∃ t, exec (.jtagDebugRequest l) s = .next t ∧ granted t ∧ fresh t) ∧
       (s.debugValid l = false → ∃ t, exec (.jtagDebugRequest l) s = .next t ∧ fresh t ∧ ∀ p, auth t p = auth s p)) ∧
     (c < 4 → s.capTurn = some c → tfind s.capOp c = some 9 → s.d0Bytes (s.capVal c) 256 = some l →
       (s.debugValid l = true → ∃ t, exec (.dbgreq c) s = .next t ∧ granted t ∧ fresh t ∧
         t.fget (rCapstat c) sbcCapstat_STATE = 2) ∧
       (s.debugValid l = false → ∃ t, exec (.dbgreq c) s = .next t ∧ fresh t ∧ (∀ p, auth t p = auth s p) ∧
         t.fget (rCapstat c) sbcCapstat_STATE = 3 ∧ t.fget (rCapstat c) sbcCapstat_REASON = 4))))

/-! Rails and temperatures (R570–R581). -/

/-- R570–R572, R576, R579–R581: a set value within range taken or refused; a rail turned on that is off; a rail turned off or
refused, with the cores of its die off; a reading of a rail and of a sensor, with the events named here; the PMBus alert,
whose rails are a free value. -/
def Obligations.RailsAndTemperatures : Prop :=
  (∀ (who : Agent) (r : Nat) (v : Word) (s : State), r < 16 → s.mayWrite who (rRail r) →
    let x : Nat := v.toNat % 64
    let stat : State → Fld → Nat := fun t f => t.fget (rRailStat r) f
    let setv : State → Nat := fun t => t.fget (rRail r) pwrRailCtl_SETV
    (x ≤ 50 → s.railMin r ≤ 650 + 5 * x → stat s pwrRailStat_SETTLED = 1 →
      ∃ t, exec (.setvWrite who r v) s = .next t ∧ setv t = x ∧ stat t pwrRailStat_STATUS = 0) ∧
    (x ≤ 50 → 650 + 5 * x < s.railMin r ∨ stat s pwrRailStat_SETTLED = 0 →
      ∃ t, exec (.setvWrite who r v) s = .next t ∧ setv t = setv s ∧ stat t pwrRailStat_STATUS = 1 ∧
        stat t pwrRailStat_ERR = 1) ∧
    (stat s pwrRailStat_ON = 0 → ∃ t, exec (.railOn who r) s = .next t ∧ stat t pwrRailStat_ON = 1 ∧ t.railSet r = 650 ∧
      stat t pwrRailStat_STATUS = 0) ∧
    ((tilesOfDie r).any s.tileClaimed = true → ∃ t, exec (.railOff who r) s = .next t ∧
      stat t pwrRailStat_ON = stat s pwrRailStat_ON ∧ stat t pwrRailStat_STATUS = 2) ∧
    ((tilesOfDie r).any s.tileClaimed = false → s.dieFenced r = false → ∃ t, exec (.railOff who r) s = .next t ∧
      stat t pwrRailStat_ON = stat s pwrRailStat_ON ∧ stat t pwrRailStat_STATUS = 1) ∧
    ((tilesOfDie r).any s.tileClaimed = false → s.dieFenced r = true → ∃ t, exec (.railOff who r) s = .next t ∧
      stat t pwrRailStat_ON = 0 ∧ ∀ i ∈ tilesOfDie r, ∀ p ∈ tileCores i, (t.core p).run = .off)) ∧
  (∀ (r mv ma : Nat) (s : State), r < 22 → mv ≤ 4095 → ma < 1024000 →
    let set : Nat := s.railSet r
    let calm : Prop := s.fget (rRailStat r) pwrRailStat_ON = 1 ∧ tget false s.railRamp r = false
    ∃ t, exec (.railSample r mv ma) s = .next t ∧ t.fget (rRailStat r) pwrRailStat_VMEAS = mv ∧
      t.fget (rRailStat r) pwrRailStat_IMEAS = ma / 1000 ∧
      t.fget (rRailStat r) pwrRailStat_SETTLED = b2n (decide (railOff mv set ≤ 10)) ∧
      (calm → mv + 60 < set → tget 0 s.railFt r = 1 → t.reported 3395 .ft) ∧
      (calm → railOut r mv set = true → tget 0 s.railBad r = 9 → t.reported 3395 .uc)) ∧
  (∀ (k : Nat) (temp : Int) (s : State), k < 18 → 0 ≤ temp → temp ≤ 255 →
    let old : Nat := s.fget ⟨.pwrTemp, k, 0⟩ pwrTemp_TEMP
    let warn : Nat := s.fget rTherm pwrTherm_TWARN
    let crit : Nat := s.fget rTherm pwrTherm_TCRIT
    ∃ t, exec (.tempSample k temp) s = .next t ∧ t.fget ⟨.pwrTemp, k, 0⟩ pwrTemp_TEMP = temp.toNat ∧
      (old < warn → warn ≤ temp.toNat → t.fget ⟨.pwrTemp, k, 0⟩ pwrTemp_WARN = 1 ∧ t.reported 3394 .uc) ∧
      (old < crit → crit ≤ temp.toNat → t.reported 3394 .ft) ∧
      (∀ i, i < 18 → t.fget ⟨.pwrTemp, i, 0⟩ pwrTemp_TEMP ≤ t.fget rTherm pwrTherm_TMAX)) ∧
  (∀ (s : State), ∃ t, exec .pmbusAlert s = .next t ∧ t.reported 3395 .uc ∧
    ∀ r, r < 21 → t.fget (rRailStat r) pwrRailStat_ALERT =
      max (s.fget (rRailStat r) pwrRailStat_ALERT) (b2n ((freeAlert s.draws).getLsbD r)))

/-! The block as a whole: its queue, its reset state, its registers and its memory. -/

/-- R51: the g registers. g0 reads as zero and a write of it changes nothing; g31 has one copy for each level and world;
g1–g30 have one copy; JAL writes g30. -/
def Obligations.RegisterFile : Prop :=
  (∀ (c : Core) (v : Word), c.g 0 = 0 ∧ c.setG 0 v = c) ∧
  (∀ (c : Core) (r q : RegNo) (v : Word), r ≠ 0 → (c.setG r v).g r = v ∧ (q ≠ r → (c.setG r v).g q = c.g q)) ∧
  (∀ (c : Core) (r : RegNo) (lv : Nat) (w : Bool), r ≠ 31 →
    ({ c with arch := { c.arch with level := lv, world := w } } : Core).g r = c.g r) ∧
  (∀ (c : Core) (v : Word) (lv : Nat) (w : Bool), (lv ≠ c.arch.level ∨ w ≠ c.arch.world) →
    ({ c.setG 31 v with arch := { (c.setG 31 v).arch with level := lv, world := w } } : Core).g 31 =
      ({ c with arch := { c.arch with level := lv, world := w } } : Core).g 31) ∧
  (∀ (p : Nat) (disp : BitVec 25) (s s2 : State) (x : Ctx), fetched p s = some (x, s2) → s2.noSlot p →
    ∃ t, exec (.jal p false disp) s = .next t ∧ (t.core p).g 30 = x.pc + 8 ∧
      ∀ r, r ≠ 30 → (t.core p).g r = (s2.core p).g r)

/-- A step takes the command at the front of the queue and runs it with the queue's rest. On an empty queue one CLK_PERI
cycle passes (the model's choice, log entry 4): the clock advances by one, and where no timer of Firebreak is due no register
of a core, no byte of memory and no message on the mesh changes. A watch slot whose expiry has come is escalated in that
cycle, and a minimum pulse whose end has come ends in it (R489, R500, R503). -/
def Obligations.StepRunsFront : Prop :=
  (∀ (c : Instr) (r : List Instr) (s : State), s.pending = c :: r → step s = exec c { s with pending := r }) ∧
  (∀ (s : State), s.pending = [] → (∀ e ∈ s.armed, s.now < e.2.expiry) → s.safeAt = none ∨ s.nSafe = true →
    ∃ t, step s = .next t ∧ t.pending = [] ∧ t.now = s.now + 1 ∧ t.mem = s.mem ∧
      (∃ ms, t.net = s.net ++ ms) ∧ (∀ p, (t.core p).arch = (s.core p).arch ∧ (t.core p).run = (s.core p).run) ∧
      (s.pinEnd ≠ 0 → s.pinEnd ≤ s.now → t.fget rFbPin fbPin_MINDONE = 1)) ∧
  (∀ (s : State) (w : Nat) (a : Armed), s.pending = [] → w < 32 → s.armed = [(w, a)] → a.expiry ≤ s.now → s.safeAt = none →
    ∃ t, step s = .next t ∧ t.now = s.now + 1 ∧ t.fget (rWatchStat w) fbWatchStat_STATE = 2 ∧
      t.fget (rWatchStat w) fbWatchStat_ESC = 1 ∧ tfind t.armed w = none)

/-- What power-on reset leaves: an empty queue, no byte of DRAM, every register at its reset value, the identity core map and
bucket table (R24, R299), the cores before their self-test, off or parked (R540, R542), at sealed L3, and the registers of
each core at 0, which is the model's choice where the spec gives no value (log entry 2). -/
def Obligations.StateAfterReset : Prop :=
  let s : State := State.reset
  s.pending = [] ∧ s.memCanonical ∧ s.mem = [] ∧ s.net = [] ∧ s.rst = none ∧ (∀ r, s.rd r = resetReg r) ∧
  (∀ n, n < 1024 → s.pcnOf n = n) ∧
  (∀ b, b < 4096 → s.fget (rBkt b) slBkt_SN = b % 256 ∧ s.fget (rBkt b) slBkt_STATE = 0) ∧
  (∀ p, (p < 1024 → (s.core p).run = .bist) ∧ (1024 ≤ p → p < 1088 → (s.core p).run = .off) ∧
    (1088 ≤ p → (s.core p).run = .parked)) ∧
  (∀ p, (s.core p).arch.level = 3 ∧ (s.core p).arch.world = true ∧ (s.core p).arch.slot = none ∧
    (s.core p).monitor = none ∧ (s.core p).sq = [] ∧ (s.core p).lines = [] ∧ (s.core p).nmiLatch = false ∧
    (∀ r, (s.core p).g r = 0 ∧ (s.core p).fr r = 0)) ∧
  s.rd ⟨.ledgHead, 0, 0⟩ = 1 ∧ s.ledg = [(0, ledgStart)] ∧ s.ash = []

/-- Every step keeps DRAM in its canonical form: addresses strictly rising. -/
def Obligations.MemoryStaysCanonical : Prop :=
  ∀ (s t : State), s.memCanonical → step s = .next t → t.memCanonical

/-- A command whose units exist is answered with a next state, whatever the state; one that names a unit that does not exist
stops with `noSuchUnit`. No command is refused. -/
def Obligations.CommandsAnswer : Prop :=
  ∀ (c : Instr) (s : State),
    (c.wf = true → ∃ t, exec c s = .next t) ∧ (c.wf = false → exec c s = .fault .noSuchUnit)

/-- An instruction of one core, whatever it does, leaves alone: the registers and the run state of every other core, every
byte of DRAM with its key and poison, the directory, the LLC, and the queue of commands. It reaches them only by the messages
that it puts onto the mesh, behind those already there. -/
def Obligations.InstructionsStayInTheirCore : Prop :=
  ∀ (i : Instr) (p : Nat) (s t : State), insnCore i = some p → exec i s = .next t →
    t.pending = s.pending ∧ t.mem = s.mem ∧ t.memKey = s.memKey ∧ t.memPoison = s.memPoison ∧ t.dir = s.dir ∧ t.llc = s.llc ∧
    (∀ q, q ≠ p → (t.core q).arch = (s.core q).arch ∧ (t.core q).run = (s.core q).run) ∧
    ∃ ms, t.net = s.net ++ ms
end

