-- ==== Sys2Proof/Laws/Tables.lean ====
section
/-! SUPPORT. Reading and writing a sparse table. -/

namespace Sys2Proof.Machine

variable {κ α : Type} [DecidableEq κ]

@[simp] theorem tget_nil (d : α) (k : κ) : tget d ([] : Tab κ α) k = d := rfl
@[simp] theorem tfind_nil (k : κ) : tfind ([] : Tab κ α) k = none := rfl
@[simp] theorem tget_cons (d : α) (t : Tab κ α) (k k' : κ) (v : α) :
    tget d ((k', v) :: t) k = if k' = k then v else tget d t k := rfl
@[simp] theorem tfind_cons (t : Tab κ α) (k k' : κ) (v : α) :
    tfind ((k', v) :: t) k = if k' = k then some v else tfind t k := rfl

theorem tget_eq_tfind (d : α) (t : Tab κ α) (k : κ) : tget d t k = (tfind t k).getD d := by
  induction t with
  | nil => rfl
  | cons e t ih =>
    obtain ⟨k', v⟩ := e
    by_cases h : k' = k <;> simp [h, ih]

@[simp] theorem tfind_tdel_same (t : Tab κ α) (k : κ) : tfind (tdel t k) k = none := by
  induction t with
  | nil => rfl
  | cons e t ih =>
    obtain ⟨k', v⟩ := e
    by_cases h : k' = k
    · subst h; simpa [tdel] using ih
    · simpa [tdel, h] using ih

theorem tfind_tdel_ne (t : Tab κ α) {k j : κ} (h : j ≠ k) : tfind (tdel t k) j = tfind t j := by
  induction t with
  | nil => rfl
  | cons e t ih =>
    obtain ⟨k', v⟩ := e
    by_cases hk : k' = k
    · subst hk
      have : ¬ k' = j := fun e => h e.symm
      simpa [tdel, this] using ih
    · by_cases hj : k' = j
      · subst hj; simp [tdel, hk]
      · simpa [tdel, hk, hj] using ih

@[simp] theorem tdel_tdel (t : Tab κ α) (k : κ) : tdel (tdel t k) k = tdel t k := by
  simp [tdel, List.filter_filter]

@[simp] theorem tfind_tput_same (t : Tab κ α) (k : κ) (v : α) : tfind (tput t k v) k = some v := by simp [tput]

theorem tfind_tput_ne (t : Tab κ α) {k j : κ} (v : α) (h : j ≠ k) : tfind (tput t k v) j = tfind t j := by
  have : ¬ k = j := fun e => h e.symm
  simp [tput, this, tfind_tdel_ne t h]

@[simp] theorem tget_tput_same (d : α) (t : Tab κ α) (k : κ) (v : α) : tget d (tput t k v) k = v := by
  simp [tget_eq_tfind]

theorem tget_tput_ne (d : α) (t : Tab κ α) {k j : κ} (v : α) (h : j ≠ k) : tget d (tput t k v) j = tget d t j := by
  simp [tget_eq_tfind, tfind_tput_ne t v h]

theorem tget_tdel_ne (d : α) (t : Tab κ α) {k j : κ} (h : j ≠ k) : tget d (tdel t k) j = tget d t j := by
  simp [tget_eq_tfind, tfind_tdel_ne t h]

@[simp] theorem tput_tput (t : Tab κ α) (k : κ) (v w : α) : tput (tput t k v) k w = tput t k w := by
  simp [tput, tdel, List.filter_filter]

end Sys2Proof.Machine
end

