-- ==== Sys2Proof/Laws/State.lean ====
section
/-! SUPPORT. What the updates of State, of a core and of its architectural state change, and what they leave alone. Each
theorem that ends in `_frame` gives simp one rewrite rule per field. -/

namespace Sys2Proof.Machine

/-- Replacing a core leaves every other part of the state alone. -/
@[simp] theorem State.setCore_frame (s : State) (p : Nat) (c : Core) :
    (s.setCore p c).pending = s.pending ∧
    (s.setCore p c).now = s.now ∧
    (s.setCore p c).draws = s.draws ∧
    (s.setCore p c).ctFrac = s.ctFrac ∧
    (s.setCore p c).ctOn = s.ctOn ∧
    (s.setCore p c).onRefclk = s.onRefclk ∧
    (s.setCore p c).tileDiv = s.tileDiv ∧
    (s.setCore p c).regs = s.regs ∧
    (s.setCore p c).setNow = s.setNow ∧
    (s.setCore p c).imgNow = s.imgNow ∧
    (s.setCore p c).net = s.net ∧
    (s.setCore p c).dir = s.dir ∧
    (s.setCore p c).plru = s.plru ∧
    (s.setCore p c).llc = s.llc ∧
    (s.setCore p c).used = s.used ∧
    (s.setCore p c).slFlaws = s.slFlaws ∧
    (s.setCore p c).hq = s.hq ∧
    (s.setCore p c).txns = s.txns ∧
    (s.setCore p c).bkts = s.bkts ∧
    (s.setCore p c).resend = s.resend ∧
    (s.setCore p c).urgSeq = s.urgSeq ∧
    (s.setCore p c).slotAct = s.slotAct ∧
    (s.setCore p c).linkOk = s.linkOk ∧
    (s.setCore p c).linkUp = s.linkUp ∧
    (s.setCore p c).linkOld = s.linkOld ∧
    (s.setCore p c).slTest = s.slTest ∧
    (s.setCore p c).rtBkt = s.rtBkt ∧
    (s.setCore p c).mem = s.mem ∧
    (s.setCore p c).memKey = s.memKey ∧
    (s.setCore p c).memPoison = s.memPoison ∧
    (s.setCore p c).chans = s.chans ∧
    (s.setCore p c).mgAct = s.mgAct ∧
    (s.setCore p c).intSrc = s.intSrc ∧
    (s.setCore p c).intClr = s.intClr ∧
    (s.setCore p c).ifaces = s.ifaces ∧
    (s.setCore p c).intSent = s.intSent ∧
    (s.setCore p c).nmiQ = s.nmiQ ∧
    (s.setCore p c).hotPlug = s.hotPlug ∧
    (s.setCore p c).io = s.io ∧
    (s.setCore p c).ioSeq = s.ioSeq ∧
    (s.setCore p c).iotlb = s.iotlb ∧
    (s.setCore p c).iotlbPtr = s.iotlbPtr ∧
    (s.setCore p c).fbq = s.fbq ∧
    (s.setCore p c).armed = s.armed ∧
    (s.setCore p c).pinEnd = s.pinEnd ∧
    (s.setCore p c).safeAt = s.safeAt ∧
    (s.setCore p c).nSafe = s.nSafe ∧
    (s.setCore p c).ledg = s.ledg ∧
    (s.setCore p c).ledgQ = s.ledgQ ∧
    (s.setCore p c).ledgSince = s.ledgSince ∧
    (s.setCore p c).ledgLast = s.ledgLast ∧
    (s.setCore p c).mirOut = s.mirOut ∧
    (s.setCore p c).mirRef = s.mirRef ∧
    (s.setCore p c).ash = s.ash ∧
    (s.setCore p c).ashQ = s.ashQ ∧
    (s.setCore p c).ashTrig = s.ashTrig ∧
    (s.setCore p c).areas = s.areas ∧
    (s.setCore p c).flushTo = s.flushTo ∧
    (s.setCore p c).fxq = s.fxq ∧
    (s.setCore p c).fxp = s.fxp ∧
    (s.setCore p c).fnSince = s.fnSince ∧
    (s.setCore p c).fnReset = s.fnReset ∧
    (s.setCore p c).spAct = s.spAct ∧
    (s.setCore p c).spRom = s.spRom ∧
    (s.setCore p c).spHdr = s.spHdr ∧
    (s.setCore p c).spWait = s.spWait ∧
    (s.setCore p c).spVoid = s.spVoid ∧
    (s.setCore p c).spPerst = s.spPerst ∧
    (s.setCore p c).spInta = s.spInta ∧
    (s.setCore p c).rpImg = s.rpImg ∧
    (s.setCore p c).rpOut = s.rpOut ∧
    (s.setCore p c).rpUp = s.rpUp ∧
    (s.setCore p c).rpCard = s.rpCard ∧
    (s.setCore p c).rpIntx = s.rpIntx ∧
    (s.setCore p c).rpRep = s.rpRep ∧
    (s.setCore p c).rst = s.rst ∧
    (s.setCore p c).capOp = s.capOp ∧
    (s.setCore p c).capNext = s.capNext ∧
    (s.setCore p c).attempts = s.attempts ∧
    (s.setCore p c).slots = s.slots ∧
    (s.setCore p c).updating = s.updating ∧
    (s.setCore p c).minVer = s.minVer ∧
    (s.setCore p c).railBad = s.railBad ∧
    (s.setCore p c).railFt = s.railFt ∧
    (s.setCore p c).railRamp = s.railRamp ∧
    (s.setCore p c).dbg = s.dbg ∧
    (s.setCore p c).dbgSeq = s.dbgSeq ∧
    (s.setCore p c).out = s.out := by
  and_intros <;> rfl

/-- Changing a core leaves every other part of the state alone. -/
@[simp] theorem State.modCore_frame (s : State) (p : Nat) (f : Core → Core) :
    (s.modCore p f).pending = s.pending ∧
    (s.modCore p f).now = s.now ∧
    (s.modCore p f).draws = s.draws ∧
    (s.modCore p f).ctFrac = s.ctFrac ∧
    (s.modCore p f).ctOn = s.ctOn ∧
    (s.modCore p f).onRefclk = s.onRefclk ∧
    (s.modCore p f).tileDiv = s.tileDiv ∧
    (s.modCore p f).regs = s.regs ∧
    (s.modCore p f).setNow = s.setNow ∧
    (s.modCore p f).imgNow = s.imgNow ∧
    (s.modCore p f).net = s.net ∧
    (s.modCore p f).dir = s.dir ∧
    (s.modCore p f).plru = s.plru ∧
    (s.modCore p f).llc = s.llc ∧
    (s.modCore p f).used = s.used ∧
    (s.modCore p f).slFlaws = s.slFlaws ∧
    (s.modCore p f).hq = s.hq ∧
    (s.modCore p f).txns = s.txns ∧
    (s.modCore p f).bkts = s.bkts ∧
    (s.modCore p f).resend = s.resend ∧
    (s.modCore p f).urgSeq = s.urgSeq ∧
    (s.modCore p f).slotAct = s.slotAct ∧
    (s.modCore p f).linkOk = s.linkOk ∧
    (s.modCore p f).linkUp = s.linkUp ∧
    (s.modCore p f).linkOld = s.linkOld ∧
    (s.modCore p f).slTest = s.slTest ∧
    (s.modCore p f).rtBkt = s.rtBkt ∧
    (s.modCore p f).mem = s.mem ∧
    (s.modCore p f).memKey = s.memKey ∧
    (s.modCore p f).memPoison = s.memPoison ∧
    (s.modCore p f).chans = s.chans ∧
    (s.modCore p f).mgAct = s.mgAct ∧
    (s.modCore p f).intSrc = s.intSrc ∧
    (s.modCore p f).intClr = s.intClr ∧
    (s.modCore p f).ifaces = s.ifaces ∧
    (s.modCore p f).intSent = s.intSent ∧
    (s.modCore p f).nmiQ = s.nmiQ ∧
    (s.modCore p f).hotPlug = s.hotPlug ∧
    (s.modCore p f).io = s.io ∧
    (s.modCore p f).ioSeq = s.ioSeq ∧
    (s.modCore p f).iotlb = s.iotlb ∧
    (s.modCore p f).iotlbPtr = s.iotlbPtr ∧
    (s.modCore p f).fbq = s.fbq ∧
    (s.modCore p f).armed = s.armed ∧
    (s.modCore p f).pinEnd = s.pinEnd ∧
    (s.modCore p f).safeAt = s.safeAt ∧
    (s.modCore p f).nSafe = s.nSafe ∧
    (s.modCore p f).ledg = s.ledg ∧
    (s.modCore p f).ledgQ = s.ledgQ ∧
    (s.modCore p f).ledgSince = s.ledgSince ∧
    (s.modCore p f).ledgLast = s.ledgLast ∧
    (s.modCore p f).mirOut = s.mirOut ∧
    (s.modCore p f).mirRef = s.mirRef ∧
    (s.modCore p f).ash = s.ash ∧
    (s.modCore p f).ashQ = s.ashQ ∧
    (s.modCore p f).ashTrig = s.ashTrig ∧
    (s.modCore p f).areas = s.areas ∧
    (s.modCore p f).flushTo = s.flushTo ∧
    (s.modCore p f).fxq = s.fxq ∧
    (s.modCore p f).fxp = s.fxp ∧
    (s.modCore p f).fnSince = s.fnSince ∧
    (s.modCore p f).fnReset = s.fnReset ∧
    (s.modCore p f).spAct = s.spAct ∧
    (s.modCore p f).spRom = s.spRom ∧
    (s.modCore p f).spHdr = s.spHdr ∧
    (s.modCore p f).spWait = s.spWait ∧
    (s.modCore p f).spVoid = s.spVoid ∧
    (s.modCore p f).spPerst = s.spPerst ∧
    (s.modCore p f).spInta = s.spInta ∧
    (s.modCore p f).rpImg = s.rpImg ∧
    (s.modCore p f).rpOut = s.rpOut ∧
    (s.modCore p f).rpUp = s.rpUp ∧
    (s.modCore p f).rpCard = s.rpCard ∧
    (s.modCore p f).rpIntx = s.rpIntx ∧
    (s.modCore p f).rpRep = s.rpRep ∧
    (s.modCore p f).rst = s.rst ∧
    (s.modCore p f).capOp = s.capOp ∧
    (s.modCore p f).capNext = s.capNext ∧
    (s.modCore p f).attempts = s.attempts ∧
    (s.modCore p f).slots = s.slots ∧
    (s.modCore p f).updating = s.updating ∧
    (s.modCore p f).minVer = s.minVer ∧
    (s.modCore p f).railBad = s.railBad ∧
    (s.modCore p f).railFt = s.railFt ∧
    (s.modCore p f).railRamp = s.railRamp ∧
    (s.modCore p f).dbg = s.dbg ∧
    (s.modCore p f).dbgSeq = s.dbgSeq ∧
    (s.modCore p f).out = s.out := by
  and_intros <;> rfl

/-- Writing a register leaves every other part of the state alone. -/
@[simp] theorem State.wr_frame (s : State) (r : Reg) (v : Word) :
    (s.wr r v).pending = s.pending ∧
    (s.wr r v).now = s.now ∧
    (s.wr r v).draws = s.draws ∧
    (s.wr r v).ctFrac = s.ctFrac ∧
    (s.wr r v).ctOn = s.ctOn ∧
    (s.wr r v).onRefclk = s.onRefclk ∧
    (s.wr r v).tileDiv = s.tileDiv ∧
    (s.wr r v).cores = s.cores ∧
    (s.wr r v).setNow = s.setNow ∧
    (s.wr r v).imgNow = s.imgNow ∧
    (s.wr r v).net = s.net ∧
    (s.wr r v).dir = s.dir ∧
    (s.wr r v).plru = s.plru ∧
    (s.wr r v).llc = s.llc ∧
    (s.wr r v).used = s.used ∧
    (s.wr r v).slFlaws = s.slFlaws ∧
    (s.wr r v).hq = s.hq ∧
    (s.wr r v).txns = s.txns ∧
    (s.wr r v).bkts = s.bkts ∧
    (s.wr r v).resend = s.resend ∧
    (s.wr r v).urgSeq = s.urgSeq ∧
    (s.wr r v).slotAct = s.slotAct ∧
    (s.wr r v).linkOk = s.linkOk ∧
    (s.wr r v).linkUp = s.linkUp ∧
    (s.wr r v).linkOld = s.linkOld ∧
    (s.wr r v).slTest = s.slTest ∧
    (s.wr r v).rtBkt = s.rtBkt ∧
    (s.wr r v).mem = s.mem ∧
    (s.wr r v).memKey = s.memKey ∧
    (s.wr r v).memPoison = s.memPoison ∧
    (s.wr r v).chans = s.chans ∧
    (s.wr r v).mgAct = s.mgAct ∧
    (s.wr r v).intSrc = s.intSrc ∧
    (s.wr r v).intClr = s.intClr ∧
    (s.wr r v).ifaces = s.ifaces ∧
    (s.wr r v).intSent = s.intSent ∧
    (s.wr r v).nmiQ = s.nmiQ ∧
    (s.wr r v).hotPlug = s.hotPlug ∧
    (s.wr r v).io = s.io ∧
    (s.wr r v).ioSeq = s.ioSeq ∧
    (s.wr r v).iotlb = s.iotlb ∧
    (s.wr r v).iotlbPtr = s.iotlbPtr ∧
    (s.wr r v).fbq = s.fbq ∧
    (s.wr r v).armed = s.armed ∧
    (s.wr r v).pinEnd = s.pinEnd ∧
    (s.wr r v).safeAt = s.safeAt ∧
    (s.wr r v).nSafe = s.nSafe ∧
    (s.wr r v).ledg = s.ledg ∧
    (s.wr r v).ledgQ = s.ledgQ ∧
    (s.wr r v).ledgSince = s.ledgSince ∧
    (s.wr r v).ledgLast = s.ledgLast ∧
    (s.wr r v).mirOut = s.mirOut ∧
    (s.wr r v).mirRef = s.mirRef ∧
    (s.wr r v).ash = s.ash ∧
    (s.wr r v).ashQ = s.ashQ ∧
    (s.wr r v).ashTrig = s.ashTrig ∧
    (s.wr r v).areas = s.areas ∧
    (s.wr r v).flushTo = s.flushTo ∧
    (s.wr r v).fxq = s.fxq ∧
    (s.wr r v).fxp = s.fxp ∧
    (s.wr r v).fnSince = s.fnSince ∧
    (s.wr r v).fnReset = s.fnReset ∧
    (s.wr r v).spAct = s.spAct ∧
    (s.wr r v).spRom = s.spRom ∧
    (s.wr r v).spHdr = s.spHdr ∧
    (s.wr r v).spWait = s.spWait ∧
    (s.wr r v).spVoid = s.spVoid ∧
    (s.wr r v).spPerst = s.spPerst ∧
    (s.wr r v).spInta = s.spInta ∧
    (s.wr r v).rpImg = s.rpImg ∧
    (s.wr r v).rpOut = s.rpOut ∧
    (s.wr r v).rpUp = s.rpUp ∧
    (s.wr r v).rpCard = s.rpCard ∧
    (s.wr r v).rpIntx = s.rpIntx ∧
    (s.wr r v).rpRep = s.rpRep ∧
    (s.wr r v).rst = s.rst ∧
    (s.wr r v).capOp = s.capOp ∧
    (s.wr r v).capNext = s.capNext ∧
    (s.wr r v).attempts = s.attempts ∧
    (s.wr r v).slots = s.slots ∧
    (s.wr r v).updating = s.updating ∧
    (s.wr r v).minVer = s.minVer ∧
    (s.wr r v).railBad = s.railBad ∧
    (s.wr r v).railFt = s.railFt ∧
    (s.wr r v).railRamp = s.railRamp ∧
    (s.wr r v).dbg = s.dbg ∧
    (s.wr r v).dbgSeq = s.dbgSeq ∧
    (s.wr r v).out = s.out := by
  and_intros <;> rfl

/-- Writing a field leaves every other part of the state alone. -/
@[simp] theorem State.fset_frame (s : State) (r : Reg) (f : Fld) (x : Nat) :
    (s.fset r f x).pending = s.pending ∧
    (s.fset r f x).now = s.now ∧
    (s.fset r f x).draws = s.draws ∧
    (s.fset r f x).ctFrac = s.ctFrac ∧
    (s.fset r f x).ctOn = s.ctOn ∧
    (s.fset r f x).onRefclk = s.onRefclk ∧
    (s.fset r f x).tileDiv = s.tileDiv ∧
    (s.fset r f x).cores = s.cores ∧
    (s.fset r f x).imgNow = s.imgNow ∧
    (s.fset r f x).net = s.net ∧
    (s.fset r f x).dir = s.dir ∧
    (s.fset r f x).plru = s.plru ∧
    (s.fset r f x).llc = s.llc ∧
    (s.fset r f x).used = s.used ∧
    (s.fset r f x).slFlaws = s.slFlaws ∧
    (s.fset r f x).hq = s.hq ∧
    (s.fset r f x).txns = s.txns ∧
    (s.fset r f x).bkts = s.bkts ∧
    (s.fset r f x).resend = s.resend ∧
    (s.fset r f x).urgSeq = s.urgSeq ∧
    (s.fset r f x).slotAct = s.slotAct ∧
    (s.fset r f x).linkOk = s.linkOk ∧
    (s.fset r f x).linkUp = s.linkUp ∧
    (s.fset r f x).linkOld = s.linkOld ∧
    (s.fset r f x).slTest = s.slTest ∧
    (s.fset r f x).rtBkt = s.rtBkt ∧
    (s.fset r f x).mem = s.mem ∧
    (s.fset r f x).memKey = s.memKey ∧
    (s.fset r f x).memPoison = s.memPoison ∧
    (s.fset r f x).chans = s.chans ∧
    (s.fset r f x).mgAct = s.mgAct ∧
    (s.fset r f x).intSrc = s.intSrc ∧
    (s.fset r f x).intClr = s.intClr ∧
    (s.fset r f x).ifaces = s.ifaces ∧
    (s.fset r f x).intSent = s.intSent ∧
    (s.fset r f x).nmiQ = s.nmiQ ∧
    (s.fset r f x).hotPlug = s.hotPlug ∧
    (s.fset r f x).io = s.io ∧
    (s.fset r f x).ioSeq = s.ioSeq ∧
    (s.fset r f x).iotlb = s.iotlb ∧
    (s.fset r f x).iotlbPtr = s.iotlbPtr ∧
    (s.fset r f x).fbq = s.fbq ∧
    (s.fset r f x).armed = s.armed ∧
    (s.fset r f x).pinEnd = s.pinEnd ∧
    (s.fset r f x).safeAt = s.safeAt ∧
    (s.fset r f x).nSafe = s.nSafe ∧
    (s.fset r f x).ledg = s.ledg ∧
    (s.fset r f x).ledgQ = s.ledgQ ∧
    (s.fset r f x).ledgSince = s.ledgSince ∧
    (s.fset r f x).ledgLast = s.ledgLast ∧
    (s.fset r f x).mirOut = s.mirOut ∧
    (s.fset r f x).mirRef = s.mirRef ∧
    (s.fset r f x).ash = s.ash ∧
    (s.fset r f x).ashQ = s.ashQ ∧
    (s.fset r f x).ashTrig = s.ashTrig ∧
    (s.fset r f x).areas = s.areas ∧
    (s.fset r f x).flushTo = s.flushTo ∧
    (s.fset r f x).fxq = s.fxq ∧
    (s.fset r f x).fxp = s.fxp ∧
    (s.fset r f x).fnSince = s.fnSince ∧
    (s.fset r f x).fnReset = s.fnReset ∧
    (s.fset r f x).spAct = s.spAct ∧
    (s.fset r f x).spRom = s.spRom ∧
    (s.fset r f x).spHdr = s.spHdr ∧
    (s.fset r f x).spWait = s.spWait ∧
    (s.fset r f x).spVoid = s.spVoid ∧
    (s.fset r f x).spPerst = s.spPerst ∧
    (s.fset r f x).spInta = s.spInta ∧
    (s.fset r f x).rpImg = s.rpImg ∧
    (s.fset r f x).rpOut = s.rpOut ∧
    (s.fset r f x).rpUp = s.rpUp ∧
    (s.fset r f x).rpCard = s.rpCard ∧
    (s.fset r f x).rpIntx = s.rpIntx ∧
    (s.fset r f x).rpRep = s.rpRep ∧
    (s.fset r f x).rst = s.rst ∧
    (s.fset r f x).capOp = s.capOp ∧
    (s.fset r f x).capNext = s.capNext ∧
    (s.fset r f x).attempts = s.attempts ∧
    (s.fset r f x).slots = s.slots ∧
    (s.fset r f x).updating = s.updating ∧
    (s.fset r f x).minVer = s.minVer ∧
    (s.fset r f x).railBad = s.railBad ∧
    (s.fset r f x).railFt = s.railFt ∧
    (s.fset r f x).railRamp = s.railRamp ∧
    (s.fset r f x).dbg = s.dbg ∧
    (s.fset r f x).dbgSeq = s.dbgSeq ∧
    (s.fset r f x).out = s.out := by
  unfold State.fset; dsimp only; split <;> and_intros <;> rfl

/-- Counting in a field leaves every other part of the state alone. -/
@[simp] theorem State.finc_frame (s : State) (r : Reg) (f : Fld) :
    (s.finc r f).pending = s.pending ∧
    (s.finc r f).now = s.now ∧
    (s.finc r f).draws = s.draws ∧
    (s.finc r f).ctFrac = s.ctFrac ∧
    (s.finc r f).ctOn = s.ctOn ∧
    (s.finc r f).onRefclk = s.onRefclk ∧
    (s.finc r f).tileDiv = s.tileDiv ∧
    (s.finc r f).cores = s.cores ∧
    (s.finc r f).imgNow = s.imgNow ∧
    (s.finc r f).net = s.net ∧
    (s.finc r f).dir = s.dir ∧
    (s.finc r f).plru = s.plru ∧
    (s.finc r f).llc = s.llc ∧
    (s.finc r f).used = s.used ∧
    (s.finc r f).slFlaws = s.slFlaws ∧
    (s.finc r f).hq = s.hq ∧
    (s.finc r f).txns = s.txns ∧
    (s.finc r f).bkts = s.bkts ∧
    (s.finc r f).resend = s.resend ∧
    (s.finc r f).urgSeq = s.urgSeq ∧
    (s.finc r f).slotAct = s.slotAct ∧
    (s.finc r f).linkOk = s.linkOk ∧
    (s.finc r f).linkUp = s.linkUp ∧
    (s.finc r f).linkOld = s.linkOld ∧
    (s.finc r f).slTest = s.slTest ∧
    (s.finc r f).rtBkt = s.rtBkt ∧
    (s.finc r f).mem = s.mem ∧
    (s.finc r f).memKey = s.memKey ∧
    (s.finc r f).memPoison = s.memPoison ∧
    (s.finc r f).chans = s.chans ∧
    (s.finc r f).mgAct = s.mgAct ∧
    (s.finc r f).intSrc = s.intSrc ∧
    (s.finc r f).intClr = s.intClr ∧
    (s.finc r f).ifaces = s.ifaces ∧
    (s.finc r f).intSent = s.intSent ∧
    (s.finc r f).nmiQ = s.nmiQ ∧
    (s.finc r f).hotPlug = s.hotPlug ∧
    (s.finc r f).io = s.io ∧
    (s.finc r f).ioSeq = s.ioSeq ∧
    (s.finc r f).iotlb = s.iotlb ∧
    (s.finc r f).iotlbPtr = s.iotlbPtr ∧
    (s.finc r f).fbq = s.fbq ∧
    (s.finc r f).armed = s.armed ∧
    (s.finc r f).pinEnd = s.pinEnd ∧
    (s.finc r f).safeAt = s.safeAt ∧
    (s.finc r f).nSafe = s.nSafe ∧
    (s.finc r f).ledg = s.ledg ∧
    (s.finc r f).ledgQ = s.ledgQ ∧
    (s.finc r f).ledgSince = s.ledgSince ∧
    (s.finc r f).ledgLast = s.ledgLast ∧
    (s.finc r f).mirOut = s.mirOut ∧
    (s.finc r f).mirRef = s.mirRef ∧
    (s.finc r f).ash = s.ash ∧
    (s.finc r f).ashQ = s.ashQ ∧
    (s.finc r f).ashTrig = s.ashTrig ∧
    (s.finc r f).areas = s.areas ∧
    (s.finc r f).flushTo = s.flushTo ∧
    (s.finc r f).fxq = s.fxq ∧
    (s.finc r f).fxp = s.fxp ∧
    (s.finc r f).fnSince = s.fnSince ∧
    (s.finc r f).fnReset = s.fnReset ∧
    (s.finc r f).spAct = s.spAct ∧
    (s.finc r f).spRom = s.spRom ∧
    (s.finc r f).spHdr = s.spHdr ∧
    (s.finc r f).spWait = s.spWait ∧
    (s.finc r f).spVoid = s.spVoid ∧
    (s.finc r f).spPerst = s.spPerst ∧
    (s.finc r f).spInta = s.spInta ∧
    (s.finc r f).rpImg = s.rpImg ∧
    (s.finc r f).rpOut = s.rpOut ∧
    (s.finc r f).rpUp = s.rpUp ∧
    (s.finc r f).rpCard = s.rpCard ∧
    (s.finc r f).rpIntx = s.rpIntx ∧
    (s.finc r f).rpRep = s.rpRep ∧
    (s.finc r f).rst = s.rst ∧
    (s.finc r f).capOp = s.capOp ∧
    (s.finc r f).capNext = s.capNext ∧
    (s.finc r f).attempts = s.attempts ∧
    (s.finc r f).slots = s.slots ∧
    (s.finc r f).updating = s.updating ∧
    (s.finc r f).minVer = s.minVer ∧
    (s.finc r f).railBad = s.railBad ∧
    (s.finc r f).railFt = s.railFt ∧
    (s.finc r f).railRamp = s.railRamp ∧
    (s.finc r f).dbg = s.dbg ∧
    (s.finc r f).dbgSeq = s.dbgSeq ∧
    (s.finc r f).out = s.out := by
  unfold State.finc State.fset; dsimp only; split <;> and_intros <;> rfl

/-- A draw only advances the counter of draws. -/
@[simp] theorem State.draw_frame (s : State) :
    (s.draw).pending = s.pending ∧
    (s.draw).now = s.now ∧
    (s.draw).ctFrac = s.ctFrac ∧
    (s.draw).ctOn = s.ctOn ∧
    (s.draw).onRefclk = s.onRefclk ∧
    (s.draw).tileDiv = s.tileDiv ∧
    (s.draw).cores = s.cores ∧
    (s.draw).regs = s.regs ∧
    (s.draw).setNow = s.setNow ∧
    (s.draw).imgNow = s.imgNow ∧
    (s.draw).net = s.net ∧
    (s.draw).dir = s.dir ∧
    (s.draw).plru = s.plru ∧
    (s.draw).llc = s.llc ∧
    (s.draw).used = s.used ∧
    (s.draw).slFlaws = s.slFlaws ∧
    (s.draw).hq = s.hq ∧
    (s.draw).txns = s.txns ∧
    (s.draw).bkts = s.bkts ∧
    (s.draw).resend = s.resend ∧
    (s.draw).urgSeq = s.urgSeq ∧
    (s.draw).slotAct = s.slotAct ∧
    (s.draw).linkOk = s.linkOk ∧
    (s.draw).linkUp = s.linkUp ∧
    (s.draw).linkOld = s.linkOld ∧
    (s.draw).slTest = s.slTest ∧
    (s.draw).rtBkt = s.rtBkt ∧
    (s.draw).mem = s.mem ∧
    (s.draw).memKey = s.memKey ∧
    (s.draw).memPoison = s.memPoison ∧
    (s.draw).chans = s.chans ∧
    (s.draw).mgAct = s.mgAct ∧
    (s.draw).intSrc = s.intSrc ∧
    (s.draw).intClr = s.intClr ∧
    (s.draw).ifaces = s.ifaces ∧
    (s.draw).intSent = s.intSent ∧
    (s.draw).nmiQ = s.nmiQ ∧
    (s.draw).hotPlug = s.hotPlug ∧
    (s.draw).io = s.io ∧
    (s.draw).ioSeq = s.ioSeq ∧
    (s.draw).iotlb = s.iotlb ∧
    (s.draw).iotlbPtr = s.iotlbPtr ∧
    (s.draw).fbq = s.fbq ∧
    (s.draw).armed = s.armed ∧
    (s.draw).pinEnd = s.pinEnd ∧
    (s.draw).safeAt = s.safeAt ∧
    (s.draw).nSafe = s.nSafe ∧
    (s.draw).ledg = s.ledg ∧
    (s.draw).ledgQ = s.ledgQ ∧
    (s.draw).ledgSince = s.ledgSince ∧
    (s.draw).ledgLast = s.ledgLast ∧
    (s.draw).mirOut = s.mirOut ∧
    (s.draw).mirRef = s.mirRef ∧
    (s.draw).ash = s.ash ∧
    (s.draw).ashQ = s.ashQ ∧
    (s.draw).ashTrig = s.ashTrig ∧
    (s.draw).areas = s.areas ∧
    (s.draw).flushTo = s.flushTo ∧
    (s.draw).fxq = s.fxq ∧
    (s.draw).fxp = s.fxp ∧
    (s.draw).fnSince = s.fnSince ∧
    (s.draw).fnReset = s.fnReset ∧
    (s.draw).spAct = s.spAct ∧
    (s.draw).spRom = s.spRom ∧
    (s.draw).spHdr = s.spHdr ∧
    (s.draw).spWait = s.spWait ∧
    (s.draw).spVoid = s.spVoid ∧
    (s.draw).spPerst = s.spPerst ∧
    (s.draw).spInta = s.spInta ∧
    (s.draw).rpImg = s.rpImg ∧
    (s.draw).rpOut = s.rpOut ∧
    (s.draw).rpUp = s.rpUp ∧
    (s.draw).rpCard = s.rpCard ∧
    (s.draw).rpIntx = s.rpIntx ∧
    (s.draw).rpRep = s.rpRep ∧
    (s.draw).rst = s.rst ∧
    (s.draw).capOp = s.capOp ∧
    (s.draw).capNext = s.capNext ∧
    (s.draw).attempts = s.attempts ∧
    (s.draw).slots = s.slots ∧
    (s.draw).updating = s.updating ∧
    (s.draw).minVer = s.minVer ∧
    (s.draw).railBad = s.railBad ∧
    (s.draw).railFt = s.railFt ∧
    (s.draw).railRamp = s.railRamp ∧
    (s.draw).dbg = s.dbg ∧
    (s.draw).dbgSeq = s.dbgSeq ∧
    (s.draw).out = s.out := by
  and_intros <;> rfl

/-- A report only enters the queue of fault events. -/
@[simp] theorem State.report_frame (s : State) (n : Nat) (k : FbClass) (d : Nat) :
    (s.report n k d).pending = s.pending ∧
    (s.report n k d).now = s.now ∧
    (s.report n k d).draws = s.draws ∧
    (s.report n k d).ctFrac = s.ctFrac ∧
    (s.report n k d).ctOn = s.ctOn ∧
    (s.report n k d).onRefclk = s.onRefclk ∧
    (s.report n k d).tileDiv = s.tileDiv ∧
    (s.report n k d).cores = s.cores ∧
    (s.report n k d).regs = s.regs ∧
    (s.report n k d).setNow = s.setNow ∧
    (s.report n k d).imgNow = s.imgNow ∧
    (s.report n k d).net = s.net ∧
    (s.report n k d).dir = s.dir ∧
    (s.report n k d).plru = s.plru ∧
    (s.report n k d).llc = s.llc ∧
    (s.report n k d).used = s.used ∧
    (s.report n k d).slFlaws = s.slFlaws ∧
    (s.report n k d).hq = s.hq ∧
    (s.report n k d).txns = s.txns ∧
    (s.report n k d).bkts = s.bkts ∧
    (s.report n k d).resend = s.resend ∧
    (s.report n k d).urgSeq = s.urgSeq ∧
    (s.report n k d).slotAct = s.slotAct ∧
    (s.report n k d).linkOk = s.linkOk ∧
    (s.report n k d).linkUp = s.linkUp ∧
    (s.report n k d).linkOld = s.linkOld ∧
    (s.report n k d).slTest = s.slTest ∧
    (s.report n k d).rtBkt = s.rtBkt ∧
    (s.report n k d).mem = s.mem ∧
    (s.report n k d).memKey = s.memKey ∧
    (s.report n k d).memPoison = s.memPoison ∧
    (s.report n k d).chans = s.chans ∧
    (s.report n k d).mgAct = s.mgAct ∧
    (s.report n k d).intSrc = s.intSrc ∧
    (s.report n k d).intClr = s.intClr ∧
    (s.report n k d).ifaces = s.ifaces ∧
    (s.report n k d).intSent = s.intSent ∧
    (s.report n k d).nmiQ = s.nmiQ ∧
    (s.report n k d).hotPlug = s.hotPlug ∧
    (s.report n k d).io = s.io ∧
    (s.report n k d).ioSeq = s.ioSeq ∧
    (s.report n k d).iotlb = s.iotlb ∧
    (s.report n k d).iotlbPtr = s.iotlbPtr ∧
    (s.report n k d).armed = s.armed ∧
    (s.report n k d).pinEnd = s.pinEnd ∧
    (s.report n k d).safeAt = s.safeAt ∧
    (s.report n k d).nSafe = s.nSafe ∧
    (s.report n k d).ledg = s.ledg ∧
    (s.report n k d).ledgQ = s.ledgQ ∧
    (s.report n k d).ledgSince = s.ledgSince ∧
    (s.report n k d).ledgLast = s.ledgLast ∧
    (s.report n k d).mirOut = s.mirOut ∧
    (s.report n k d).mirRef = s.mirRef ∧
    (s.report n k d).ash = s.ash ∧
    (s.report n k d).ashQ = s.ashQ ∧
    (s.report n k d).ashTrig = s.ashTrig ∧
    (s.report n k d).areas = s.areas ∧
    (s.report n k d).flushTo = s.flushTo ∧
    (s.report n k d).fxq = s.fxq ∧
    (s.report n k d).fxp = s.fxp ∧
    (s.report n k d).fnSince = s.fnSince ∧
    (s.report n k d).fnReset = s.fnReset ∧
    (s.report n k d).spAct = s.spAct ∧
    (s.report n k d).spRom = s.spRom ∧
    (s.report n k d).spHdr = s.spHdr ∧
    (s.report n k d).spWait = s.spWait ∧
    (s.report n k d).spVoid = s.spVoid ∧
    (s.report n k d).spPerst = s.spPerst ∧
    (s.report n k d).spInta = s.spInta ∧
    (s.report n k d).rpImg = s.rpImg ∧
    (s.report n k d).rpOut = s.rpOut ∧
    (s.report n k d).rpUp = s.rpUp ∧
    (s.report n k d).rpCard = s.rpCard ∧
    (s.report n k d).rpIntx = s.rpIntx ∧
    (s.report n k d).rpRep = s.rpRep ∧
    (s.report n k d).rst = s.rst ∧
    (s.report n k d).capOp = s.capOp ∧
    (s.report n k d).capNext = s.capNext ∧
    (s.report n k d).attempts = s.attempts ∧
    (s.report n k d).slots = s.slots ∧
    (s.report n k d).updating = s.updating ∧
    (s.report n k d).minVer = s.minVer ∧
    (s.report n k d).railBad = s.railBad ∧
    (s.report n k d).railFt = s.railFt ∧
    (s.report n k d).railRamp = s.railRamp ∧
    (s.report n k d).dbg = s.dbg ∧
    (s.report n k d).dbgSeq = s.dbgSeq ∧
    (s.report n k d).out = s.out := by
  and_intros <;> rfl

/-- Writing a g register leaves everything of the core but its architectural state alone. -/
@[simp] theorem Core.setG_frame (c : Core) (r : RegNo) (v : Word) :
    (c.setG r v).run = c.run ∧
    (c.setG r v).ctxv = c.ctxv ∧
    (c.setG r v).bistpass = c.bistpass ∧
    (c.setG r v).bistFailed = c.bistFailed ∧
    (c.setG r v).monitor = c.monitor ∧
    (c.setG r v).defers = c.defers ∧
    (c.setG r v).deferred = c.deferred ∧
    (c.setG r v).shOn = c.shOn ∧
    (c.setG r v).shield = c.shield ∧
    (c.setG r v).shRec = c.shRec ∧
    (c.setG r v).shDefs = c.shDefs ∧
    (c.setG r v).nmiLatch = c.nmiLatch ∧
    (c.setG r v).nmiAct = c.nmiAct ∧
    (c.setG r v).fresh = c.fresh ∧
    (c.setG r v).cycle = c.cycle ∧
    (c.setG r v).rootTicks = c.rootTicks ∧
    (c.setG r v).itlb = c.itlb ∧
    (c.setG r v).itlbPtr = c.itlbPtr ∧
    (c.setG r v).dtlb = c.dtlb ∧
    (c.setG r v).dtlbPtr = c.dtlbPtr ∧
    (c.setG r v).l2tlb = c.l2tlb ∧
    (c.setG r v).l2tlbPtr = c.l2tlbPtr ∧
    (c.setG r v).tlbOut = c.tlbOut ∧
    (c.setG r v).tlbOwed = c.tlbOwed ∧
    (c.setG r v).ras = c.ras ∧
    (c.setG r v).tgtBuf = c.tgtBuf ∧
    (c.setG r v).tgtPtr = c.tgtPtr ∧
    (c.setG r v).redirect = c.redirect ∧
    (c.setG r v).pflush = c.pflush ∧
    (c.setG r v).sq = c.sq ∧
    (c.setG r v).sqSeq = c.sqSeq ∧
    (c.setG r v).mload = c.mload ∧
    (c.setG r v).wait = c.wait ∧
    (c.setG r v).must = c.must ∧
    (c.setG r v).pick = c.pick ∧
    (c.setG r v).quietSeen = c.quietSeen ∧
    (c.setG r v).ncSeq = c.ncSeq ∧
    (c.setG r v).cmo = c.cmo ∧
    (c.setG r v).refused = c.refused ∧
    (c.setG r v).specRefused = c.specRefused ∧
    (c.setG r v).lateAbort = c.lateAbort ∧
    (c.setG r v).range = c.range ∧
    (c.setG r v).lines = c.lines ∧
    (c.setG r v).l2ptr = c.l2ptr ∧
    (c.setG r v).l1i = c.l1i ∧
    (c.setG r v).l1iPtr = c.l1iPtr ∧
    (c.setG r v).l1d = c.l1d ∧
    (c.setG r v).l1dPtr = c.l1dPtr ∧
    (c.setG r v).fills = c.fills ∧
    (c.setG r v).flaws = c.flaws ∧
    (c.setG r v).lostPend = c.lostPend ∧
    (c.setG r v).early = c.early ∧
    (c.setG r v).peat = c.peat ∧
    (c.setG r v).converting = c.converting ∧
    (c.setG r v).wfi = c.wfi ∧
    (c.setG r v).intView = c.intView ∧
    (c.setG r v).draining = c.draining ∧
    (c.setG r v).halted = c.halted ∧
    (c.setG r v).haltReq = c.haltReq ∧
    (c.setG r v).stepping = c.stepping ∧
    (c.setG r v).acted = c.acted ∧
    (c.setG r v).ck = c.ck ∧
    (c.setG r v).unagreed = c.unagreed := by
  and_intros <;> rfl

/-- Writing an f register leaves everything of the core but its architectural state alone. -/
@[simp] theorem Core.setF_frame (c : Core) (r : RegNo) (v : BitVec 128) :
    (c.setF r v).run = c.run ∧
    (c.setF r v).ctxv = c.ctxv ∧
    (c.setF r v).bistpass = c.bistpass ∧
    (c.setF r v).bistFailed = c.bistFailed ∧
    (c.setF r v).monitor = c.monitor ∧
    (c.setF r v).defers = c.defers ∧
    (c.setF r v).deferred = c.deferred ∧
    (c.setF r v).shOn = c.shOn ∧
    (c.setF r v).shield = c.shield ∧
    (c.setF r v).shRec = c.shRec ∧
    (c.setF r v).shDefs = c.shDefs ∧
    (c.setF r v).nmiLatch = c.nmiLatch ∧
    (c.setF r v).nmiAct = c.nmiAct ∧
    (c.setF r v).fresh = c.fresh ∧
    (c.setF r v).cycle = c.cycle ∧
    (c.setF r v).rootTicks = c.rootTicks ∧
    (c.setF r v).itlb = c.itlb ∧
    (c.setF r v).itlbPtr = c.itlbPtr ∧
    (c.setF r v).dtlb = c.dtlb ∧
    (c.setF r v).dtlbPtr = c.dtlbPtr ∧
    (c.setF r v).l2tlb = c.l2tlb ∧
    (c.setF r v).l2tlbPtr = c.l2tlbPtr ∧
    (c.setF r v).tlbOut = c.tlbOut ∧
    (c.setF r v).tlbOwed = c.tlbOwed ∧
    (c.setF r v).ras = c.ras ∧
    (c.setF r v).tgtBuf = c.tgtBuf ∧
    (c.setF r v).tgtPtr = c.tgtPtr ∧
    (c.setF r v).redirect = c.redirect ∧
    (c.setF r v).pflush = c.pflush ∧
    (c.setF r v).sq = c.sq ∧
    (c.setF r v).sqSeq = c.sqSeq ∧
    (c.setF r v).mload = c.mload ∧
    (c.setF r v).wait = c.wait ∧
    (c.setF r v).must = c.must ∧
    (c.setF r v).pick = c.pick ∧
    (c.setF r v).quietSeen = c.quietSeen ∧
    (c.setF r v).ncSeq = c.ncSeq ∧
    (c.setF r v).cmo = c.cmo ∧
    (c.setF r v).refused = c.refused ∧
    (c.setF r v).specRefused = c.specRefused ∧
    (c.setF r v).lateAbort = c.lateAbort ∧
    (c.setF r v).range = c.range ∧
    (c.setF r v).lines = c.lines ∧
    (c.setF r v).l2ptr = c.l2ptr ∧
    (c.setF r v).l1i = c.l1i ∧
    (c.setF r v).l1iPtr = c.l1iPtr ∧
    (c.setF r v).l1d = c.l1d ∧
    (c.setF r v).l1dPtr = c.l1dPtr ∧
    (c.setF r v).fills = c.fills ∧
    (c.setF r v).flaws = c.flaws ∧
    (c.setF r v).lostPend = c.lostPend ∧
    (c.setF r v).early = c.early ∧
    (c.setF r v).peat = c.peat ∧
    (c.setF r v).converting = c.converting ∧
    (c.setF r v).wfi = c.wfi ∧
    (c.setF r v).intView = c.intView ∧
    (c.setF r v).draining = c.draining ∧
    (c.setF r v).halted = c.halted ∧
    (c.setF r v).haltReq = c.haltReq ∧
    (c.setF r v).stepping = c.stepping ∧
    (c.setF r v).acted = c.acted ∧
    (c.setF r v).ck = c.ck ∧
    (c.setF r v).unagreed = c.unagreed := by
  and_intros <;> rfl

/-- Writing a control register leaves everything of the core but its architectural state alone. -/
@[simp] theorem Core.setCr_frame (c : Core) (k : CrKey) (v : Word) :
    (c.setCr k v).run = c.run ∧
    (c.setCr k v).ctxv = c.ctxv ∧
    (c.setCr k v).bistpass = c.bistpass ∧
    (c.setCr k v).bistFailed = c.bistFailed ∧
    (c.setCr k v).monitor = c.monitor ∧
    (c.setCr k v).defers = c.defers ∧
    (c.setCr k v).deferred = c.deferred ∧
    (c.setCr k v).shOn = c.shOn ∧
    (c.setCr k v).shield = c.shield ∧
    (c.setCr k v).shRec = c.shRec ∧
    (c.setCr k v).shDefs = c.shDefs ∧
    (c.setCr k v).nmiLatch = c.nmiLatch ∧
    (c.setCr k v).nmiAct = c.nmiAct ∧
    (c.setCr k v).fresh = c.fresh ∧
    (c.setCr k v).cycle = c.cycle ∧
    (c.setCr k v).rootTicks = c.rootTicks ∧
    (c.setCr k v).itlb = c.itlb ∧
    (c.setCr k v).itlbPtr = c.itlbPtr ∧
    (c.setCr k v).dtlb = c.dtlb ∧
    (c.setCr k v).dtlbPtr = c.dtlbPtr ∧
    (c.setCr k v).l2tlb = c.l2tlb ∧
    (c.setCr k v).l2tlbPtr = c.l2tlbPtr ∧
    (c.setCr k v).tlbOut = c.tlbOut ∧
    (c.setCr k v).tlbOwed = c.tlbOwed ∧
    (c.setCr k v).ras = c.ras ∧
    (c.setCr k v).tgtBuf = c.tgtBuf ∧
    (c.setCr k v).tgtPtr = c.tgtPtr ∧
    (c.setCr k v).redirect = c.redirect ∧
    (c.setCr k v).pflush = c.pflush ∧
    (c.setCr k v).sq = c.sq ∧
    (c.setCr k v).sqSeq = c.sqSeq ∧
    (c.setCr k v).mload = c.mload ∧
    (c.setCr k v).wait = c.wait ∧
    (c.setCr k v).must = c.must ∧
    (c.setCr k v).pick = c.pick ∧
    (c.setCr k v).quietSeen = c.quietSeen ∧
    (c.setCr k v).ncSeq = c.ncSeq ∧
    (c.setCr k v).cmo = c.cmo ∧
    (c.setCr k v).refused = c.refused ∧
    (c.setCr k v).specRefused = c.specRefused ∧
    (c.setCr k v).lateAbort = c.lateAbort ∧
    (c.setCr k v).range = c.range ∧
    (c.setCr k v).lines = c.lines ∧
    (c.setCr k v).l2ptr = c.l2ptr ∧
    (c.setCr k v).l1i = c.l1i ∧
    (c.setCr k v).l1iPtr = c.l1iPtr ∧
    (c.setCr k v).l1d = c.l1d ∧
    (c.setCr k v).l1dPtr = c.l1dPtr ∧
    (c.setCr k v).fills = c.fills ∧
    (c.setCr k v).flaws = c.flaws ∧
    (c.setCr k v).lostPend = c.lostPend ∧
    (c.setCr k v).early = c.early ∧
    (c.setCr k v).peat = c.peat ∧
    (c.setCr k v).converting = c.converting ∧
    (c.setCr k v).wfi = c.wfi ∧
    (c.setCr k v).intView = c.intView ∧
    (c.setCr k v).draining = c.draining ∧
    (c.setCr k v).halted = c.halted ∧
    (c.setCr k v).haltReq = c.haltReq ∧
    (c.setCr k v).stepping = c.stepping ∧
    (c.setCr k v).acted = c.acted ∧
    (c.setCr k v).ck = c.ck ∧
    (c.setCr k v).unagreed = c.unagreed := by
  and_intros <;> rfl

/-- Writing an f register leaves the rest of the architectural state alone. -/
@[simp] theorem Arch.fset_frame (a : Arch) (r : RegNo) (v : BitVec 128) :
    (a.fset r v).g = a.g ∧
    (a.fset r v).sp = a.sp ∧
    (a.fset r v).cr = a.cr ∧
    (a.fset r v).crOld = a.crOld ∧
    (a.fset r v).pc = a.pc ∧
    (a.fset r v).level = a.level ∧
    (a.fset r v).world = a.world ∧
    (a.fset r v).slot = a.slot ∧
    (a.fset r v).entering = a.entering ∧
    (a.fset r v).instret = a.instret := by
  and_intros <;> rfl

/-- Writing a g register leaves the rest of the architectural state alone. -/
@[simp] theorem Arch.gset_frame (a : Arch) (r : RegNo) (v : Word) :
    (a.gset r v).f = a.f ∧
    (a.gset r v).cr = a.cr ∧
    (a.gset r v).crOld = a.crOld ∧
    (a.gset r v).pc = a.pc ∧
    (a.gset r v).level = a.level ∧
    (a.gset r v).world = a.world ∧
    (a.gset r v).slot = a.slot ∧
    (a.gset r v).entering = a.entering ∧
    (a.gset r v).instret = a.instret := by
  unfold Arch.gset
  split
  · simp
  · split <;> simp

/-- Writing a control register leaves the rest of the architectural state alone. -/
@[simp] theorem Core.setCr_arch_frame (c : Core) (k : CrKey) (v : Word) :
    (c.setCr k v).arch.g = c.arch.g ∧
    (c.setCr k v).arch.sp = c.arch.sp ∧
    (c.setCr k v).arch.f = c.arch.f ∧
    (c.setCr k v).arch.crOld = c.arch.crOld ∧
    (c.setCr k v).arch.pc = c.arch.pc ∧
    (c.setCr k v).arch.level = c.arch.level ∧
    (c.setCr k v).arch.world = c.arch.world ∧
    (c.setCr k v).arch.slot = c.arch.slot ∧
    (c.setCr k v).arch.entering = c.arch.entering ∧
    (c.setCr k v).arch.instret = c.arch.instret := by
  and_intros <;> rfl

/-! Cores. -/

@[simp] theorem State.core_setCore_same (s : State) (p : Nat) (c : Core) : (s.setCore p c).core p = c := by
  simp [State.core, State.setCore]

theorem State.core_setCore_ne (s : State) {p q : Nat} (c : Core) (h : q ≠ p) : (s.setCore p c).core q = s.core q := by
  simp only [State.core, State.setCore]
  exact tget_tput_ne _ _ _ h

@[simp] theorem State.core_modCore_same (s : State) (p : Nat) (f : Core → Core) :
    (s.modCore p f).core p = f (s.core p) := by
  simp [State.modCore]

theorem State.core_modCore_ne (s : State) {p q : Nat} (f : Core → Core) (h : q ≠ p) :
    (s.modCore p f).core q = s.core q := by
  simp [State.modCore, State.core_setCore_ne s _ h]

@[simp] theorem State.setCore_setCore (s : State) (p : Nat) (c d : Core) :
    (s.setCore p c).setCore p d = s.setCore p d := by
  simp [State.setCore]

/-- Two changes of one core are one change. -/
@[simp] theorem State.modCore_modCore (s : State) (p : Nat) (f g : Core → Core) :
    (s.modCore p f).modCore p g = s.modCore p (fun c => g (f c)) := by
  simp [State.modCore]

@[simp] theorem State.core_wr (s : State) (r : Reg) (v : Word) (p : Nat) : (s.wr r v).core p = s.core p := rfl
@[simp] theorem State.core_fset (s : State) (r : Reg) (f : Fld) (x p : Nat) : (s.fset r f x).core p = s.core p := by
  simp [State.core]
@[simp] theorem State.core_draw (s : State) (p : Nat) : s.draw.core p = s.core p := rfl
@[simp] theorem State.core_report (s : State) (n : Nat) (k : FbClass) (d p : Nat) :
    (s.report n k d).core p = s.core p := rfl

/-! Registers. -/

@[simp] theorem State.rd_wr_same (s : State) (r : Reg) (v : Word) : (s.wr r v).rd r = v := by
  simp [State.rd, State.wr]

theorem State.rd_wr_ne (s : State) {r q : Reg} (v : Word) (h : q ≠ r) : (s.wr r v).rd q = s.rd q := by
  simp only [State.rd, State.wr]
  exact tget_tput_ne _ _ _ h

theorem State.rd_fset_same (s : State) (r : Reg) (f : Fld) (x : Nat) :
    (s.fset r f x).rd r = setFld (s.rd r) f x := by
  simp [State.fset, State.setIn, State.rd, State.wr, apply_ite]

theorem State.rd_fset_ne (s : State) {r q : Reg} (f : Fld) (x : Nat) (h : q ≠ r) :
    (s.fset r f x).rd q = s.rd q := by
  have := State.rd_wr_ne s (setFld (s.rd r) f x) h
  unfold State.fset
  dsimp only
  split
  · exact this
  · exact this

@[simp] theorem State.rd_setCore (s : State) (p : Nat) (c : Core) (r : Reg) : (s.setCore p c).rd r = s.rd r := rfl
@[simp] theorem State.rd_modCore (s : State) (p : Nat) (f : Core → Core) (r : Reg) : (s.modCore p f).rd r = s.rd r := rfl
@[simp] theorem State.rd_draw (s : State) (r : Reg) : s.draw.rd r = s.rd r := rfl
@[simp] theorem State.rd_report (s : State) (n : Nat) (k : FbClass) (d : Nat) (r : Reg) :
    (s.report n k d).rd r = s.rd r := rfl
@[simp] theorem State.fget_modCore (s : State) (p : Nat) (f : Core → Core) (r : Reg) (fl : Fld) :
    (s.modCore p f).fget r fl = s.fget r fl := rfl
@[simp] theorem State.twinOf_modCore (s : State) (p q : Nat) (f : Core → Core) :
    (s.modCore p f).twinOf q = s.twinOf q := rfl
@[simp] theorem State.leads_modCore (s : State) (p q : Nat) (f : Core → Core) :
    (s.modCore p f).leads q = s.leads q := rfl

/-! General and floating-point registers (R51, R52). -/

@[simp] theorem Arch.gget_zero (a : Arch) : a.gget 0 = 0 := rfl
@[simp] theorem Arch.gset_zero (a : Arch) (v : Word) : a.gset 0 v = a := rfl

theorem Arch.gget_gset_same (a : Arch) {r : RegNo} (v : Word) (h : r ≠ 0) : (a.gset r v).gget r = v := by
  unfold Arch.gset Arch.gget
  simp only [if_neg h]
  split <;> exact tget_tput_same _ _ _ _

theorem Arch.gget_gset_ne (a : Arch) {r q : RegNo} (v : Word) (h : q ≠ r) : (a.gset r v).gget q = a.gget q := by
  unfold Arch.gset
  split
  · rfl
  · split
    · next r31 =>
      have q31 : q ≠ 31 := fun e => h (e.trans r31.symm)
      simp only [Arch.gget, if_neg q31]
    · simp only [Arch.gget, tget_tput_ne (0 : Word) a.g v h]

@[simp] theorem Arch.fget_fset_same (a : Arch) (r : RegNo) (v : BitVec 128) : (a.fset r v).fget r = v := by
  simp [Arch.fset, Arch.fget]

theorem Arch.fget_fset_ne (a : Arch) {r q : RegNo} (v : BitVec 128) (h : q ≠ r) : (a.fset r v).fget q = a.fget q := by
  simp only [Arch.fset, Arch.fget]
  exact tget_tput_ne _ _ _ h

@[simp] theorem Core.g_zero (c : Core) : c.g 0 = 0 := rfl

theorem Core.g_setG_same (c : Core) {r : RegNo} (v : Word) (h : r ≠ 0) : (c.setG r v).g r = v :=
  Arch.gget_gset_same c.arch v h

theorem Core.g_setG_ne (c : Core) {r q : RegNo} (v : Word) (h : q ≠ r) : (c.setG r v).g q = c.g q :=
  Arch.gget_gset_ne c.arch v h

@[simp] theorem Core.fr_setF_same (c : Core) (r : RegNo) (v : BitVec 128) : (c.setF r v).fr r = v :=
  Arch.fget_fset_same c.arch r v

theorem Core.fr_setF_ne (c : Core) {r q : RegNo} (v : BitVec 128) (h : q ≠ r) : (c.setF r v).fr q = c.fr q :=
  Arch.fget_fset_ne c.arch v h

@[simp] theorem Core.fr_setG (c : Core) (r q : RegNo) (v : Word) : (c.setG r v).fr q = c.fr q := by
  simp [Core.setG, Core.fr, Arch.fget]

@[simp] theorem Core.g_setF (c : Core) (r q : RegNo) (v : BitVec 128) : (c.setF r v).g q = c.g q := rfl

end Sys2Proof.Machine
end

