-- ==== Sys2Proof/Laws/Insn.lean ====
section
/-! SUPPORT. What running an instruction can do: it answers a next state whenever its core exists; where the instruction was
fetched, its body decides between retirement, a wait and an exception. -/

namespace Sys2Proof.Machine

theorem settle_next (m : InsnM Unit) (s : State) : ∃ t, settle m s = .next t := by
  unfold settle; split <;> exact ⟨_, rfl⟩

/-- An instruction of a core that exists answers a next state. -/
theorem runInsn_next (p : Nat) (slotOk : Bool) (kind : Busy) (body : Ctx → InsnM Flow) (s : State) (h : isCore p = true) :
    ∃ t, runInsn p slotOk kind body s = .next t := by
  unfold runInsn
  simp only [h, Bool.not_true, Bool.false_eq_true, if_false]
  split
  · exact settle_next _ _
  · split
    · exact ⟨_, rfl⟩
    · split
      · exact ⟨_, rfl⟩
      · split
        · exact ⟨_, rfl⟩
        · exact ⟨_, rfl⟩
        · exact settle_next _ _

/-- A core that is ready has no entry in progress. -/
theorem ready_vectoring {p : Nat} {s : State} {x : Ctx} {s1 : State} (h : ready p s = some (x, s1)) :
    s.vectoring p = false := by
  dsimp only [ready] at h
  split at h
  · cases h
  · next hc =>
    simp only [Bool.or_eq_true, not_or, Bool.not_eq_true] at hc
    simp [State.vectoring, hc.2]

/-- What `fetched` says of the steps before the body. -/
theorem fetched_spec {p : Nat} {s : State} {x : Ctx} {s2 : State} (h : fetched p s = some (x, s2)) :
    isCore p = true ∧ s.due p = false ∧ ∃ s1, ready p s = some (x, s1) ∧ (s1.core p).busy = .idle ∧ (s1.core p).lateAbort = none ∧
      fetchCheck x s1 = .ok () s2 := by
  unfold fetched at h
  split at h
  · next hc =>
    refine ⟨hc, ?_⟩
    split at h
    · next x1 s1 hr =>
      split at h
      · next hb =>
        split at h
        · next hf =>
          cases h
          exact ⟨hb.1, s1, hr, hb.2.1, hb.2.2, hf⟩
        · cases h
      · cases h
    · cases h
  · cases h

/-- What an instruction sees names the core that runs it. -/
theorem ready_core {p : Nat} {s : State} {x : Ctx} {s1 : State} (h : ready p s = some (x, s1)) : x.p = p := by
  dsimp only [ready] at h
  split at h
  · cases h
  · cases h; rfl

theorem fetched_core {p : Nat} {s : State} {x : Ctx} {s2 : State} (h : fetched p s = some (x, s2)) : x.p = p := by
  obtain ⟨_, _, s1, hr, _⟩ := fetched_spec h
  exact ready_core hr

/-- The steps before the body, where nothing stops them. -/
theorem attempt_body {p : Nat} {x : Ctx} {s1 s2 : State} {slotOk : Bool} {kind : Busy}
    {body : Ctx → InsnM Flow} (hp : x.p = p) (hb : (s1.core p).busy = .idle) (hl : (s1.core p).lateAbort = none)
    (hf : fetchCheck x s1 = .ok () s2) (hs : slotOk = true ∨ s2.noSlot p) :
    attempt x slotOk kind body s1 =
      (do let f ← body x
          let s ← get
          modCore x.p (·.finish x (s.leads x.p) f) : InsnM Unit) s2 := by
  subst hp
  have h1 : (getCore x.p) s1 = .ok (s1.core x.p) s1 := rfl
  have h3 : lateCheck x s1 = .ok () s1 := by
    simp only [lateCheck, bind, EStateM.bind, h1, hl]
    rfl
  have h4 : slotCheck x slotOk s2 = .ok () s2 := by
    have h5 : (getCore x.p) s2 = .ok (s2.core x.p) s2 := rfl
    rcases hs with hs | hs
    · simp [slotCheck, bind, EStateM.bind, h5, hs, illIf, pure, EStateM.pure]
    · simp only [State.noSlot] at hs
      simp [slotCheck, bind, EStateM.bind, h5, hs, illIf, pure, EStateM.pure]
  have h2 : (stallIf ((s1.core x.p).busy != .idle && (s1.core x.p).busy != kind)) s1 = .ok () s1 := by
    simp [hb, stallIf, pure, EStateM.pure]
  simp only [attempt, bind, EStateM.bind, h1, h2, h3, hf, h4]

/-- A fetched instruction whose body ends well retires. -/
theorem runInsn_done {p : Nat} {s : State} {x : Ctx} {s2 s3 : State} {slotOk : Bool} {kind : Busy}
    {body : Ctx → InsnM Flow} {f : Flow} (h : fetched p s = some (x, s2)) (hs : slotOk = true ∨ s2.noSlot p)
    (hb : body x s2 = .ok f s3) :
    runInsn p slotOk kind body s = .next (s3.after x id f) := by
  obtain ⟨hc, hdue, s1, hr, hbusy, hl, hf⟩ := fetched_spec h
  have hp := ready_core hr
  have ha := attempt_body (kind := kind) (body := body) hp hbusy hl hf hs
  unfold runInsn
  simp only [hc, ready_vectoring hr, hdue, Bool.false_and, Bool.not_true, Bool.false_eq_true, if_false, hr, ha]
  simp only [bind, EStateM.bind, hb]
  rfl

/-- A fetched instruction whose body waits leaves what it has begun. -/
theorem runInsn_stall {p : Nat} {s : State} {x : Ctx} {s2 s3 : State} {slotOk : Bool} {kind : Busy}
    {body : Ctx → InsnM Flow} (h : fetched p s = some (x, s2)) (hs : slotOk = true ∨ s2.noSlot p)
    (hb : body x s2 = .error .stall s3) : runInsn p slotOk kind body s = .next s3 := by
  obtain ⟨hc, hdue, s1, hr, hbusy, hl, hf⟩ := fetched_spec h
  have hp := ready_core hr
  have ha := attempt_body (kind := kind) (body := body) hp hbusy hl hf hs
  unfold runInsn
  simp only [hc, ready_vectoring hr, hdue, Bool.false_and, Bool.not_true, Bool.false_eq_true, if_false, hr, ha]
  simp only [bind, EStateM.bind, hb]

/-- A fetched instruction whose body raises an exception takes it. -/
theorem runInsn_exc {p : Nat} {s : State} {x : Ctx} {s2 s3 : State} {slotOk : Bool} {kind : Busy}
    {body : Ctx → InsnM Flow} {e : Exc} (h : fetched p s = some (x, s2)) (hs : slotOk = true ∨ s2.noSlot p)
    (hb : body x s2 = .error (.exc e) s3) : runInsn p slotOk kind body s = settle (takeExc x e) s3 := by
  obtain ⟨hc, hdue, s1, hr, hbusy, hl, hf⟩ := fetched_spec h
  have hp := ready_core hr
  have ha := attempt_body (kind := kind) (body := body) hp hbusy hl hf hs
  unfold runInsn
  simp only [hc, ready_vectoring hr, hdue, Bool.false_and, Bool.not_true, Bool.false_eq_true, if_false, hr, ha]
  simp only [bind, EStateM.bind, hb]

/-- A fetched instruction that may not stand in a delay slot, standing there, raises ILL (R71). -/
theorem runInsn_slot {p : Nat} {s : State} {x : Ctx} {s2 : State} {kind : Busy} {body : Ctx → InsnM Flow}
    (h : fetched p s = some (x, s2)) (hs : ¬ s2.noSlot p) :
    runInsn p false kind body s = settle (takeExc x { cause := 0x00 }) s2 := by
  obtain ⟨hc, hdue, s1, hr, hbusy, hl, hf⟩ := fetched_spec h
  have hp := ready_core hr
  subst hp
  have h1 : (getCore x.p) s1 = .ok (s1.core x.p) s1 := rfl
  have h3 : lateCheck x s1 = .ok () s1 := by
    simp only [lateCheck, bind, EStateM.bind, h1, hl]
    rfl
  have h5 : (getCore x.p) s2 = .ok (s2.core x.p) s2 := rfl
  have hss : (s2.core x.p).arch.slot.isSome = true := by
    cases hq : (s2.core x.p).arch.slot with
    | none => exact absurd hq hs
    | some v => rfl
  have h4 : slotCheck x false s2 = .error (.exc { cause := 0x00 }) s2 := by
    simp [slotCheck, bind, EStateM.bind, h5, hss, illIf, ill, raise, throw, throwThe, MonadExceptOf.throw, EStateM.throw]
  have h2 : (stallIf ((s1.core x.p).busy != .idle && (s1.core x.p).busy != kind)) s1 = .ok () s1 := by
    simp [hbusy, stallIf, pure, EStateM.pure]
  unfold runInsn
  simp only [hc, ready_vectoring hr, hdue, Bool.false_and, Bool.not_true, Bool.false_eq_true, if_false, hr, attempt, bind, EStateM.bind, h1, h2, h3, hf, h4]

end Sys2Proof.Machine
end

