-- ==== Sys2Proof/Laws/Integer.lean ====
section
/-! SUPPORT. What an integer instruction does once it is fetched. -/

namespace Sys2Proof.Machine

/-- Two changes of the core before retirement are one. -/
theorem State.after_modCore (s : State) (x : Ctx) (g f : Core → Core) (fl : Flow) :
    (s.modCore x.p g).after x f fl = s.after x (fun c => f (g c)) fl := by
  simp [State.after]

/-- An integer instruction writes its result and retires, or is illegal. -/
theorem regOp_fetched {p : Nat} {s s2 : State} {x : Ctx} (h : fetched p s = some (x, s2)) (rd : RegNo) (ill : Bool)
    (f : Core → Word → Word) :
    regOp p rd ill f s =
      if ill then s2.illegal x else .next (s2.after x (fun c => c.setG rd (f (s2.core p) x.pc)) .seq) := by
  have hp := fetched_core h
  subst hp
  cases ill
  · have := runInsn_done (slotOk := true) (kind := .idle) (f := .seq)
      (s3 := s2.modCore x.p (·.setG rd (f (s2.core x.p) x.pc)))
      (body := fun x => do
        illIf false
        let c ← getCore x.p
        setG x.p rd (f c x.pc)
        pure .seq) h (.inl rfl) rfl
    rw [State.after_modCore] at this
    exact this
  · exact runInsn_exc (slotOk := true) (kind := .idle) (s3 := s2) (e := { cause := 0x00 }) h (.inl rfl) rfl

end Sys2Proof.Machine
end

