-- ==== Sys2Proof/Laws/Access.lean ====
section
/-! SUPPORT. Data accesses that hit: translation from one TLB entry, one piece, a line that the core holds. -/

namespace Sys2Proof.Machine

/-- A granted address translates without a change of the state. -/
theorem translate_granted {s : State} {x : Ctx} {n : Need} {va pa mt : Nat} (h : s.granted x n va pa mt) (acc : Nat) :
    translate x x.world x.level false n va acc s = .ok ⟨pa, mt⟩ s := by
  obtain ⟨hv, t, ht, hp, ho, hm⟩ := h
  have hx : s.xlate x x.world x.level false n va = (s, .ok ⟨pa, mt⟩) := by
    have : ¬ va ≥ 2 ^ 48 := by omega
    simp only [State.xlate, if_neg this, ht, List.isEmpty_nil, if_true, List.getD_cons_zero, hp, ho, hm]
  simp only [translate, bind, EStateM.bind, get, getThe, MonadStateOf.get, EStateM.get, hx]
  rfl

/-- An access within one line that is granted is one piece; a strict one must be aligned. -/
theorem pieces_inline {s : State} {x : Ctx} {n : Need} {va pa size : Nat} (h : s.granted x n va pa 0) (acc : Nat)
    (strict : Bool) (hs : va % 64 + size ≤ 64) (ha : strict = true → va % size = 0) :
    pieces x n acc va size strict s = .ok [⟨va, pa, 0, 0, size⟩] s := by
  have h1 : min size (64 - va % 64) = size := by omega
  simp only [pieces, bind, EStateM.bind, translate_granted h, h1, if_true, pure, EStateM.pure]
  rw [if_neg (by cases strict <;> simp_all)]
  simp [halves, EStateM.pure]

/-- What remains of a speculative refusal of a line when an access comes to it. -/
def Core.unspec (c : Core) (pa : Nat) : Core := { c with specRefused := c.specRefused.erase (lineOf pa) }

/-- No refusal of the line stands against an access. -/
theorem takeRefusal_none {s : State} {x : Ctx} {pa : Nat} (h : (s.core x.p).refused.contains (lineOf pa) = false)
    (va acc : Nat) : takeRefusal x va pa acc s = .ok () (s.modCore x.p (·.unspec pa)) := by
  have h1 : (getCore x.p) (s.modCore x.p (·.unspec pa)) =
      .ok ((s.core x.p).unspec pa) (s.modCore x.p (·.unspec pa)) := by
    simp [getCore, bind, EStateM.bind, get, getThe, MonadStateOf.get, EStateM.get, pure, EStateM.pure]
  have h2 : ((s.core x.p).unspec pa).refused.contains (lineOf pa) = false := h
  have h3 : (modCore x.p fun c => { c with specRefused := c.specRefused.erase (lineOf pa) }) s =
      .ok () (s.modCore x.p (·.unspec pa)) := rfl
  simp only [takeRefusal, bind, EStateM.bind, h3, h1, h2, Bool.false_eq_true, if_false]
  rfl

/-- A line that the core holds with the permission asked for, in L1D, is found at once. -/
theorem wbLine_held {s : State} {x : Ctx} {pa : Nat} {l : PLine} {w write : Bool} {d : Nat}
    (hl : (s.core x.p).line pa = some l) (hw : l.world = w) (hd : l.dom = d) (hy : l.way.isSome = true)
    (hf : (s.core x.p).refused.contains (lineOf pa) = false) (hh : (s.core x.p).l1dHit w d pa = true)
    (hr : (if write then l.writable else l.holds) = true) (va acc : Nat) :
    wbLine x write w d va pa acc .data s = .ok l (s.modCore x.p (·.unspec pa)) := by
  have hn : l.way.isNone = false := by cases hq : l.way <;> simp [hq] at hy ⊢
  have h0 : (getCore x.p) (s.modCore x.p (·.unspec pa)) =
      .ok ((s.core x.p).unspec pa) (s.modCore x.p (·.unspec pa)) := by
    simp [getCore, bind, EStateM.bind, get, getThe, MonadStateOf.get, EStateM.get, pure, EStateM.pure]
  have h1 : (l1Find ((s.core x.p).unspec pa).l1d 8 (l1dSet pa) pa w d).isNone = false := by
    have : (l1Find (s.core x.p).l1d 8 (l1dSet pa) pa w d).isSome = true := hh
    show (l1Find (s.core x.p).l1d 8 (l1dSet pa) pa w d).isNone = false
    cases hq : l1Find (s.core x.p).l1d 8 (l1dSet pa) pa w d <;> simp [hq] at this ⊢
  have h2 : ((s.core x.p).unspec pa).line pa = some l := hl
  have h3 : (L1Miss.data != L1Miss.data) = false := rfl
  have hc : (l.world != w || l.dom != d) = false := by simp [hw, hd]
  cases write
  · have hr' : l.holds = true := by simpa using hr
    simp only [wbLine, bind, EStateM.bind, takeRefusal_none hf, h0, h1, h2, h3, hc, hn, hr', Bool.or_self, Bool.false_eq_true,
      if_false, if_true, Bool.not_false]
    rfl
  · have hr' : l.writable = true := by simpa using hr
    simp only [wbLine, bind, EStateM.bind, takeRefusal_none hf, h0, h1, h2, h3, hc, hn, hr', Bool.or_self, Bool.false_eq_true,
      if_false, if_true, Bool.not_true]
    rfl

/-- Where no storage error waits, a search for one changes nothing. -/
theorem State.findFlaws_none {s : State} {p : Nat} (h : (s.core p).flaws = []) (f : Flaw → Bool) : s.findFlaws p f = s := by
  simp [State.findFlaws, h]

/-- Reading a line that L1D holds, in which no poison touches the bytes. -/
theorem lineRead_clean {s : State} {x : Ctx} {va pa size acc : Nat} (hf : (s.core x.p).flaws = [])
    (hh : (s.core x.p).l1dHit x.world x.dom pa = true)
    (h : poisoned ((s.core x.p).held pa).2 (lineOff pa) size = false) :
    lineRead x .none va pa size acc s = .ok (lineGet ((s.core x.p).held pa).1 (lineOff pa) size)
      (s.modCore x.p (fun c => { c with early := tdel c.early (lineOf pa) })) := by
  have h0 : (getCore x.p) s = .ok (s.core x.p) s := rfl
  have h1 : l1dGet x.p x.world x.dom pa s = .ok () s := by
    have h2 : (modify (fun s : State => s.lookFlaws x.p 1 (l1dSet pa)) : InsnM Unit) s = .ok () s := by
      show EStateM.Result.ok () (s.lookFlaws x.p 1 (l1dSet pa)) = _
      rw [State.lookFlaws, State.findFlaws_none hf]
    simp only [l1dGet, bind, EStateM.bind, h2, h0, hh, Bool.not_true, Bool.false_eq_true, if_false]
    rfl
  let s' := s.modCore x.p (fun c => { c with early := tdel c.early (lineOf pa) })
  have hc : s'.core x.p = { s.core x.p with early := tdel (s.core x.p).early (lineOf pa) } := by simp [s']
  have hf' : (s'.core x.p).flaws = [] := by rw [hc]; exact hf
  have h4 : (modify (fun t : State => (t.readFlaws x.p 1 pa).upset x.p pa .none) : InsnM Unit) s' = .ok () s' := by
    show EStateM.Result.ok () ((s'.readFlaws x.p 1 pa).upset x.p pa .none) = _
    rw [State.readFlaws, State.findFlaws_none hf']
    rfl
  have h3 : (modCore x.p fun c => { c with early := tdel c.early (lineOf pa) }) s = .ok () s' := rfl
  have h5 : (getCore x.p) s' = .ok (s'.core x.p) s' := rfl
  have h6 : (s'.core x.p).held pa = (s.core x.p).held pa := by rw [hc]; rfl
  simp only [lineRead, bind, EStateM.bind, h1, h3, h4, h5, consume, h6, h, Bool.false_eq_true, if_false]
  rfl

/-- No queued store decides a load that none touches. -/
theorem Core.deciding_none {s : State} {p pa size : Nat} (h : s.noStoreTo p pa size) : (s.core p).deciding pa size = none := by
  have : (s.core p).sq.filter (·.overlaps pa size) = [] := List.filter_eq_nil_iff.2 (fun e he => by simp [h e he])
  simp [Core.deciding, this]

end Sys2Proof.Machine
end

