-- ==== Sys2Proof/Laws/Arms.lean ====
section
/-! SUPPORT. Which meaning each command runs: one rewrite rule per arm of exec. -/

namespace Sys2Proof.Machine

theorem exec_registerWrite who off size v (s : State) : exec (.registerWrite who off size v) s = execRegisterWrite who off size v s := rfl
theorem exec_lcnmapWrite who n v (s : State) : exec (.lcnmapWrite who n v) s = execLcnmapWrite who n v s := rfl
theorem exec_tiledivWrite who i v (s : State) : exec (.tiledivWrite who i v) s = execTiledivWrite who i v s := rfl
theorem exec_tileClockSwitch i (s : State) : exec (.tileClockSwitch i) s = execTileClockSwitch i s := rfl
theorem exec_ctadjWrite who v (s : State) : exec (.ctadjWrite who v) s = execCtadjWrite who v s := rfl
theorem exec_ctstepWrite who half v (s : State) : exec (.ctstepWrite who half v) s = execCtstepWrite who half v s := rfl
theorem exec_pllLock (s : State) : exec (.pllLock) s = execPllLock s := rfl
theorem exec_pllLossOfLock (s : State) : exec (.pllLossOfLock) s = execPllLossOfLock s := rfl
theorem exec_add p rd ra rb ill (s : State) : exec (.add p rd ra rb ill) s = execAdd p rd ra rb ill s := rfl
theorem exec_sub p rd ra rb (s : State) : exec (.sub p rd ra rb) s = execSub p rd ra rb s := rfl
theorem exec_and p rd ra rb (s : State) : exec (.and p rd ra rb) s = execAnd p rd ra rb s := rfl
theorem exec_or p rd ra rb (s : State) : exec (.or p rd ra rb) s = execOr p rd ra rb s := rfl
theorem exec_xor p rd ra rb (s : State) : exec (.xor p rd ra rb) s = execXor p rd ra rb s := rfl
theorem exec_andn p rd ra rb (s : State) : exec (.andn p rd ra rb) s = execAndn p rd ra rb s := rfl
theorem exec_orn p rd ra rb (s : State) : exec (.orn p rd ra rb) s = execOrn p rd ra rb s := rfl
theorem exec_sll p rd ra rb (s : State) : exec (.sll p rd ra rb) s = execSll p rd ra rb s := rfl
theorem exec_srl p rd ra rb (s : State) : exec (.srl p rd ra rb) s = execSrl p rd ra rb s := rfl
theorem exec_sra p rd ra rb (s : State) : exec (.sra p rd ra rb) s = execSra p rd ra rb s := rfl
theorem exec_ror p rd ra rb (s : State) : exec (.ror p rd ra rb) s = execRor p rd ra rb s := rfl
theorem exec_slt p rd ra rb (s : State) : exec (.slt p rd ra rb) s = execSlt p rd ra rb s := rfl
theorem exec_sltu p rd ra rb (s : State) : exec (.sltu p rd ra rb) s = execSltu p rd ra rb s := rfl
theorem exec_min p rd ra rb (s : State) : exec (.min p rd ra rb) s = execMin p rd ra rb s := rfl
theorem exec_max p rd ra rb (s : State) : exec (.max p rd ra rb) s = execMax p rd ra rb s := rfl
theorem exec_addw p rd ra rb (s : State) : exec (.addw p rd ra rb) s = execAddw p rd ra rb s := rfl
theorem exec_subw p rd ra rb (s : State) : exec (.subw p rd ra rb) s = execSubw p rd ra rb s := rfl
theorem exec_sllw p rd ra rb (s : State) : exec (.sllw p rd ra rb) s = execSllw p rd ra rb s := rfl
theorem exec_srlw p rd ra rb (s : State) : exec (.srlw p rd ra rb) s = execSrlw p rd ra rb s := rfl
theorem exec_sraw p rd ra rb (s : State) : exec (.sraw p rd ra rb) s = execSraw p rd ra rb s := rfl
theorem exec_clz p rd ra rb (s : State) : exec (.clz p rd ra rb) s = execClz p rd ra rb s := rfl
theorem exec_ctz p rd ra rb (s : State) : exec (.ctz p rd ra rb) s = execCtz p rd ra rb s := rfl
theorem exec_popc p rd ra rb (s : State) : exec (.popc p rd ra rb) s = execPopc p rd ra rb s := rfl
theorem exec_bswap p rd ra rb (s : State) : exec (.bswap p rd ra rb) s = execBswap p rd ra rb s := rfl
theorem exec_sextb p rd ra rb (s : State) : exec (.sextb p rd ra rb) s = execSextb p rd ra rb s := rfl
theorem exec_sexth p rd ra rb (s : State) : exec (.sexth p rd ra rb) s = execSexth p rd ra rb s := rfl
theorem exec_sextw p rd ra rb (s : State) : exec (.sextw p rd ra rb) s = execSextw p rd ra rb s := rfl
theorem exec_addi p rd ra imm ill (s : State) : exec (.addi p rd ra imm ill) s = execAddi p rd ra imm ill s := rfl
theorem exec_andi p rd ra imm (s : State) : exec (.andi p rd ra imm) s = execAndi p rd ra imm s := rfl
theorem exec_ori p rd ra imm (s : State) : exec (.ori p rd ra imm) s = execOri p rd ra imm s := rfl
theorem exec_xori p rd ra imm (s : State) : exec (.xori p rd ra imm) s = execXori p rd ra imm s := rfl
theorem exec_slti p rd ra imm (s : State) : exec (.slti p rd ra imm) s = execSlti p rd ra imm s := rfl
theorem exec_sltiu p rd ra imm (s : State) : exec (.sltiu p rd ra imm) s = execSltiu p rd ra imm s := rfl
theorem exec_lui p rd ra imm (s : State) : exec (.lui p rd ra imm) s = execLui p rd ra imm s := rfl
theorem exec_addpci p rd ra imm (s : State) : exec (.addpci p rd ra imm) s = execAddpci p rd ra imm s := rfl
theorem exec_slli p rd ra imm ill (s : State) : exec (.slli p rd ra imm ill) s = execSlli p rd ra imm ill s := rfl
theorem exec_srli p rd ra imm (s : State) : exec (.srli p rd ra imm) s = execSrli p rd ra imm s := rfl
theorem exec_srai p rd ra imm (s : State) : exec (.srai p rd ra imm) s = execSrai p rd ra imm s := rfl
theorem exec_rori p rd ra imm (s : State) : exec (.rori p rd ra imm) s = execRori p rd ra imm s := rfl
theorem exec_slliw p rd ra imm (s : State) : exec (.slliw p rd ra imm) s = execSlliw p rd ra imm s := rfl
theorem exec_srliw p rd ra imm (s : State) : exec (.srliw p rd ra imm) s = execSrliw p rd ra imm s := rfl
theorem exec_sraiw p rd ra imm (s : State) : exec (.sraiw p rd ra imm) s = execSraiw p rd ra imm s := rfl
theorem exec_mlo p rd ra rb ill (s : State) : exec (.mlo p rd ra rb ill) s = execMlo p rd ra rb ill s := rfl
theorem exec_mlow p rd ra rb (s : State) : exec (.mlow p rd ra rb) s = execMlow p rd ra rb s := rfl
theorem exec_mhuu p rd ra rb (s : State) : exec (.mhuu p rd ra rb) s = execMhuu p rd ra rb s := rfl
theorem exec_mhss p rd ra rb (s : State) : exec (.mhss p rd ra rb) s = execMhss p rd ra rb s := rfl
theorem exec_mhsu p rd ra rb (s : State) : exec (.mhsu p rd ra rb) s = execMhsu p rd ra rb s := rfl
theorem exec_div p rd ra rb ill (s : State) : exec (.div p rd ra rb ill) s = execDiv p rd ra rb ill s := rfl
theorem exec_divu p rd ra rb (s : State) : exec (.divu p rd ra rb) s = execDivu p rd ra rb s := rfl
theorem exec_rem p rd ra rb (s : State) : exec (.rem p rd ra rb) s = execRem p rd ra rb s := rfl
theorem exec_remu p rd ra rb (s : State) : exec (.remu p rd ra rb) s = execRemu p rd ra rb s := rfl
theorem exec_divw p rd ra rb (s : State) : exec (.divw p rd ra rb) s = execDivw p rd ra rb s := rfl
theorem exec_divuw p rd ra rb (s : State) : exec (.divuw p rd ra rb) s = execDivuw p rd ra rb s := rfl
theorem exec_remw p rd ra rb (s : State) : exec (.remw p rd ra rb) s = execRemw p rd ra rb s := rfl
theorem exec_remuw p rd ra rb (s : State) : exec (.remuw p rd ra rb) s = execRemuw p rd ra rb s := rfl
theorem exec_ldb p rd ra imm e (s : State) : exec (.ldb p rd ra imm e) s = execLdb p rd ra imm e s := rfl
theorem exec_ldbu p rd ra imm e (s : State) : exec (.ldbu p rd ra imm e) s = execLdbu p rd ra imm e s := rfl
theorem exec_ldh p rd ra imm e (s : State) : exec (.ldh p rd ra imm e) s = execLdh p rd ra imm e s := rfl
theorem exec_ldhu p rd ra imm e (s : State) : exec (.ldhu p rd ra imm e) s = execLdhu p rd ra imm e s := rfl
theorem exec_ldw p rd ra imm e (s : State) : exec (.ldw p rd ra imm e) s = execLdw p rd ra imm e s := rfl
theorem exec_ldwu p rd ra imm e (s : State) : exec (.ldwu p rd ra imm e) s = execLdwu p rd ra imm e s := rfl
theorem exec_ldd p rd ra imm e ill (s : State) : exec (.ldd p rd ra imm e ill) s = execLdd p rd ra imm e ill s := rfl
theorem exec_stb p rd ra imm (s : State) : exec (.stb p rd ra imm) s = execStb p rd ra imm s := rfl
theorem exec_sth p rd ra imm (s : State) : exec (.sth p rd ra imm) s = execSth p rd ra imm s := rfl
theorem exec_stw p rd ra imm (s : State) : exec (.stw p rd ra imm) s = execStw p rd ra imm s := rfl
theorem exec_std p rd ra imm ill (s : State) : exec (.std p rd ra imm ill) s = execStd p rd ra imm ill s := rfl
theorem exec_fld p fd ra size imm e ill (s : State) : exec (.fld p fd ra size imm e ill) s = execFld p fd ra size imm e ill s := rfl
theorem exec_fst p fd ra size imm (s : State) : exec (.fst p fd ra size imm) s = execFst p fd ra size imm s := rfl
theorem exec_beq p ra rb t a disp ill (s : State) : exec (.beq p ra rb t a disp ill) s = execBeq p ra rb t a disp ill s := rfl
theorem exec_bne p ra rb t a disp (s : State) : exec (.bne p ra rb t a disp) s = execBne p ra rb t a disp s := rfl
theorem exec_blt p ra rb t a disp (s : State) : exec (.blt p ra rb t a disp) s = execBlt p ra rb t a disp s := rfl
theorem exec_bge p ra rb t a disp (s : State) : exec (.bge p ra rb t a disp) s = execBge p ra rb t a disp s := rfl
theorem exec_bltu p ra rb t a disp (s : State) : exec (.bltu p ra rb t a disp) s = execBltu p ra rb t a disp s := rfl
theorem exec_bgeu p ra rb t a disp (s : State) : exec (.bgeu p ra rb t a disp) s = execBgeu p ra rb t a disp s := rfl
theorem exec_j p a disp ill (s : State) : exec (.j p a disp ill) s = execJ p a disp ill s := rfl
theorem exec_jal p a disp (s : State) : exec (.jal p a disp) s = execJal p a disp s := rfl
theorem exec_jr p rd ra rb a ill (s : State) : exec (.jr p rd ra rb a ill) s = execJr p rd ra rb a ill s := rfl
theorem exec_jalr p rd ra rb a (s : State) : exec (.jalr p rd ra rb a) s = execJalr p rd ra rb a s := rfl
theorem exec_ret p rd ra rb a (s : State) : exec (.ret p rd ra rb a) s = execRet p rd ra rb a s := rfl
theorem exec_lda p rd ra rb size oacq orel resv e ill (s : State) : exec (.lda p rd ra rb size oacq orel resv e ill) s = execLda p rd ra rb size oacq orel resv e ill s := rfl
theorem exec_stl p rd ra rb size oacq orel resv (s : State) : exec (.stl p rd ra rb size oacq orel resv) s = execStl p rd ra rb size oacq orel resv s := rfl
theorem exec_ldx p rd ra rb size oacq orel resv e (s : State) : exec (.ldx p rd ra rb size oacq orel resv e) s = execLdx p rd ra rb size oacq orel resv e s := rfl
theorem exec_stx p rd ra rb size oacq orel resv e (s : State) : exec (.stx p rd ra rb size oacq orel resv e) s = execStx p rd ra rb size oacq orel resv e s := rfl
theorem exec_atswp p rd ra rb size oacq orel resv e (s : State) : exec (.atswp p rd ra rb size oacq orel resv e) s = execAtswp p rd ra rb size oacq orel resv e s := rfl
theorem exec_atadd p rd ra rb size oacq orel resv e ill (s : State) : exec (.atadd p rd ra rb size oacq orel resv e ill) s = execAtadd p rd ra rb size oacq orel resv e ill s := rfl
theorem exec_atclr p rd ra rb size oacq orel resv e (s : State) : exec (.atclr p rd ra rb size oacq orel resv e) s = execAtclr p rd ra rb size oacq orel resv e s := rfl
theorem exec_atset p rd ra rb size oacq orel resv e (s : State) : exec (.atset p rd ra rb size oacq orel resv e) s = execAtset p rd ra rb size oacq orel resv e s := rfl
theorem exec_atflp p rd ra rb size oacq orel resv e (s : State) : exec (.atflp p rd ra rb size oacq orel resv e) s = execAtflp p rd ra rb size oacq orel resv e s := rfl
theorem exec_atsmax p rd ra rb size oacq orel resv e (s : State) : exec (.atsmax p rd ra rb size oacq orel resv e) s = execAtsmax p rd ra rb size oacq orel resv e s := rfl
theorem exec_atsmin p rd ra rb size oacq orel resv e (s : State) : exec (.atsmin p rd ra rb size oacq orel resv e) s = execAtsmin p rd ra rb size oacq orel resv e s := rfl
theorem exec_atumax p rd ra rb size oacq orel resv e (s : State) : exec (.atumax p rd ra rb size oacq orel resv e) s = execAtumax p rd ra rb size oacq orel resv e s := rfl
theorem exec_atumin p rd ra rb size oacq orel resv e (s : State) : exec (.atumin p rd ra rb size oacq orel resv e) s = execAtumin p rd ra rb size oacq orel resv e s := rfl
theorem exec_atcas p rd ra rb size oacq orel resv e (s : State) : exec (.atcas p rd ra rb size oacq orel resv e) s = execAtcas p rd ra rb size oacq orel resv e s := rfl
theorem exec_bcopy p rd ra rb e ill (s : State) : exec (.bcopy p rd ra rb e ill) s = execBcopy p rd ra rb e ill s := rfl
theorem exec_bfill p rd ra rb (s : State) : exec (.bfill p rd ra rb) s = execBfill p rd ra rb s := rfl
theorem exec_dcleanP p rd ra rb (s : State) : exec (.dcleanP p rd ra rb) s = execDcleanP p rd ra rb s := rfl
theorem exec_dinvP p rd ra rb (s : State) : exec (.dinvP p rd ra rb) s = execDinvP p rd ra rb s := rfl
theorem exec_dclinvP p rd ra rb (s : State) : exec (.dclinvP p rd ra rb) s = execDclinvP p rd ra rb s := rfl
theorem exec_dcleanM p rd ra rb (s : State) : exec (.dcleanM p rd ra rb) s = execDcleanM p rd ra rb s := rfl
theorem exec_dinvM p rd ra rb (s : State) : exec (.dinvM p rd ra rb) s = execDinvM p rd ra rb s := rfl
theorem exec_dclinvM p rd ra rb (s : State) : exec (.dclinvM p rd ra rb) s = execDclinvM p rd ra rb s := rfl
theorem exec_dzero p rd ra rb ill (s : State) : exec (.dzero p rd ra rb ill) s = execDzero p rd ra rb ill s := rfl
theorem exec_prefr p rd ra rb (s : State) : exec (.prefr p rd ra rb) s = execPrefr p rd ra rb s := rfl
theorem exec_prefw p rd ra rb (s : State) : exec (.prefw p rd ra rb) s = execPrefw p rd ra rb s := rfl
theorem exec_rcleanP p rd ra rb (s : State) : exec (.rcleanP p rd ra rb) s = execRcleanP p rd ra rb s := rfl
theorem exec_rinvP p rd ra rb (s : State) : exec (.rinvP p rd ra rb) s = execRinvP p rd ra rb s := rfl
theorem exec_rclinvP p rd ra rb (s : State) : exec (.rclinvP p rd ra rb) s = execRclinvP p rd ra rb s := rfl
theorem exec_rcleanM p rd ra rb (s : State) : exec (.rcleanM p rd ra rb) s = execRcleanM p rd ra rb s := rfl
theorem exec_rinvM p rd ra rb (s : State) : exec (.rinvM p rd ra rb) s = execRinvM p rd ra rb s := rfl
theorem exec_rclinvM p rd ra rb (s : State) : exec (.rclinvM p rd ra rb) s = execRclinvM p rd ra rb s := rfl
theorem exec_rstat p rd ra rb (s : State) : exec (.rstat p rd ra rb) s = execRstat p rd ra rb s := rfl
theorem exec_rabort p rd ra rb (s : State) : exec (.rabort p rd ra rb) s = execRabort p rd ra rb s := rfl
theorem exec_rangeEngineLine p (s : State) : exec (.rangeEngineLine p) s = execRangeEngineLine p s := rfl
theorem exec_tlbiva p rd ra rb bc ill (s : State) : exec (.tlbiva p rd ra rb bc ill) s = execTlbiva p rd ra rb bc ill s := rfl
theorem exec_tlbivaa p rd ra rb bc (s : State) : exec (.tlbivaa p rd ra rb bc) s = execTlbivaa p rd ra rb bc s := rfl
theorem exec_tlbiasid p rd ra rb bc (s : State) : exec (.tlbiasid p rd ra rb bc) s = execTlbiasid p rd ra rb bc s := rfl
theorem exec_tlbivmall p rd ra rb bc (s : State) : exec (.tlbivmall p rd ra rb bc) s = execTlbivmall p rd ra rb bc s := rfl
theorem exec_tlbivmid p rd ra rb bc (s : State) : exec (.tlbivmid p rd ra rb bc) s = execTlbivmid p rd ra rb bc s := rfl
theorem exec_tlbihva p rd ra rb bc (s : State) : exec (.tlbihva p rd ra rb bc) s = execTlbihva p rd ra rb bc s := rfl
theorem exec_tlbihall p rd ra rb bc (s : State) : exec (.tlbihall p rd ra rb bc) s = execTlbihall p rd ra rb bc s := rfl
theorem exec_tlbiworld p rd ra rb bc (s : State) : exec (.tlbiworld p rd ra rb bc) s = execTlbiworld p rd ra rb bc s := rfl
theorem exec_tlbsync p rd ra rb bc (s : State) : exec (.tlbsync p rd ra rb bc) s = execTlbsync p rd ra rb bc s := rfl
theorem exec_fadd p fd fa fb prec ill (s : State) : exec (.fadd p fd fa fb prec ill) s = execFadd p fd fa fb prec ill s := rfl
theorem exec_fsub p fd fa fb prec (s : State) : exec (.fsub p fd fa fb prec) s = execFsub p fd fa fb prec s := rfl
theorem exec_fmul p fd fa fb prec (s : State) : exec (.fmul p fd fa fb prec) s = execFmul p fd fa fb prec s := rfl
theorem exec_fdiv p fd fa fb prec (s : State) : exec (.fdiv p fd fa fb prec) s = execFdiv p fd fa fb prec s := rfl
theorem exec_fsqrt p fd fa fb prec (s : State) : exec (.fsqrt p fd fa fb prec) s = execFsqrt p fd fa fb prec s := rfl
theorem exec_fmin p fd fa fb prec (s : State) : exec (.fmin p fd fa fb prec) s = execFmin p fd fa fb prec s := rfl
theorem exec_fmax p fd fa fb prec (s : State) : exec (.fmax p fd fa fb prec) s = execFmax p fd fa fb prec s := rfl
theorem exec_fneg p fd fa fb prec (s : State) : exec (.fneg p fd fa fb prec) s = execFneg p fd fa fb prec s := rfl
theorem exec_fabs p fd fa fb prec (s : State) : exec (.fabs p fd fa fb prec) s = execFabs p fd fa fb prec s := rfl
theorem exec_fcpys p fd fa fb prec (s : State) : exec (.fcpys p fd fa fb prec) s = execFcpys p fd fa fb prec s := rfl
theorem exec_fcmpeq p fd fa fb prec (s : State) : exec (.fcmpeq p fd fa fb prec) s = execFcmpeq p fd fa fb prec s := rfl
theorem exec_fcmplt p fd fa fb prec (s : State) : exec (.fcmplt p fd fa fb prec) s = execFcmplt p fd fa fb prec s := rfl
theorem exec_fcmple p fd fa fb prec (s : State) : exec (.fcmple p fd fa fb prec) s = execFcmple p fd fa fb prec s := rfl
theorem exec_fkind p fd fa fb prec (s : State) : exec (.fkind p fd fa fb prec) s = execFkind p fd fa fb prec s := rfl
theorem exec_fcmpun p fd fa fb prec (s : State) : exec (.fcmpun p fd fa fb prec) s = execFcmpun p fd fa fb prec s := rfl
theorem exec_fcvtf p fd fa fb prec (s : State) : exec (.fcvtf p fd fa fb prec) s = execFcvtf p fd fa fb prec s := rfl
theorem exec_fcvtgs p fd fa fb prec (s : State) : exec (.fcvtgs p fd fa fb prec) s = execFcvtgs p fd fa fb prec s := rfl
theorem exec_fcvtgu p fd fa fb prec (s : State) : exec (.fcvtgu p fd fa fb prec) s = execFcvtgu p fd fa fb prec s := rfl
theorem exec_fcvtfs p fd fa fb prec (s : State) : exec (.fcvtfs p fd fa fb prec) s = execFcvtfs p fd fa fb prec s := rfl
theorem exec_fcvtfu p fd fa fb prec (s : State) : exec (.fcvtfu p fd fa fb prec) s = execFcvtfu p fd fa fb prec s := rfl
theorem exec_fmvgf p fd fa fb prec (s : State) : exec (.fmvgf p fd fa fb prec) s = execFmvgf p fd fa fb prec s := rfl
theorem exec_fmvfg p fd fa fb prec (s : State) : exec (.fmvfg p fd fa fb prec) s = execFmvfg p fd fa fb prec s := rfl
theorem exec_fmadd p fd fa fb fc prec resv ill (s : State) : exec (.fmadd p fd fa fb fc prec resv ill) s = execFmadd p fd fa fb fc prec resv ill s := rfl
theorem exec_fmsub p fd fa fb fc prec resv (s : State) : exec (.fmsub p fd fa fb fc prec resv) s = execFmsub p fd fa fb fc prec resv s := rfl
theorem exec_fnmsub p fd fa fb fc prec resv (s : State) : exec (.fnmsub p fd fa fb fc prec resv) s = execFnmsub p fd fa fb fc prec resv s := rfl
theorem exec_fnmadd p fd fa fb fc prec resv (s : State) : exec (.fnmadd p fd fa fb fc prec resv) s = execFnmadd p fd fa fb fc prec resv s := rfl
theorem exec_vadd p fd fa fb lane ill (s : State) : exec (.vadd p fd fa fb lane ill) s = execVadd p fd fa fb lane ill s := rfl
theorem exec_vsub p fd fa fb lane (s : State) : exec (.vsub p fd fa fb lane) s = execVsub p fd fa fb lane s := rfl
theorem exec_vmul p fd fa fb lane (s : State) : exec (.vmul p fd fa fb lane) s = execVmul p fd fa fb lane s := rfl
theorem exec_vmins p fd fa fb lane (s : State) : exec (.vmins p fd fa fb lane) s = execVmins p fd fa fb lane s := rfl
theorem exec_vminu p fd fa fb lane (s : State) : exec (.vminu p fd fa fb lane) s = execVminu p fd fa fb lane s := rfl
theorem exec_vmaxs p fd fa fb lane (s : State) : exec (.vmaxs p fd fa fb lane) s = execVmaxs p fd fa fb lane s := rfl
theorem exec_vmaxu p fd fa fb lane (s : State) : exec (.vmaxu p fd fa fb lane) s = execVmaxu p fd fa fb lane s := rfl
theorem exec_vsll p fd fa fb lane (s : State) : exec (.vsll p fd fa fb lane) s = execVsll p fd fa fb lane s := rfl
theorem exec_vsrl p fd fa fb lane (s : State) : exec (.vsrl p fd fa fb lane) s = execVsrl p fd fa fb lane s := rfl
theorem exec_vsra p fd fa fb lane (s : State) : exec (.vsra p fd fa fb lane) s = execVsra p fd fa fb lane s := rfl
theorem exec_vaddss p fd fa fb lane (s : State) : exec (.vaddss p fd fa fb lane) s = execVaddss p fd fa fb lane s := rfl
theorem exec_vaddus p fd fa fb lane (s : State) : exec (.vaddus p fd fa fb lane) s = execVaddus p fd fa fb lane s := rfl
theorem exec_vand p fd fa fb lane (s : State) : exec (.vand p fd fa fb lane) s = execVand p fd fa fb lane s := rfl
theorem exec_vor p fd fa fb lane (s : State) : exec (.vor p fd fa fb lane) s = execVor p fd fa fb lane s := rfl
theorem exec_vxor p fd fa fb lane (s : State) : exec (.vxor p fd fa fb lane) s = execVxor p fd fa fb lane s := rfl
theorem exec_vandn p fd fa fb lane (s : State) : exec (.vandn p fd fa fb lane) s = execVandn p fd fa fb lane s := rfl
theorem exec_vceq p fd fa fb lane (s : State) : exec (.vceq p fd fa fb lane) s = execVceq p fd fa fb lane s := rfl
theorem exec_vcgts p fd fa fb lane (s : State) : exec (.vcgts p fd fa fb lane) s = execVcgts p fd fa fb lane s := rfl
theorem exec_vcgtu p fd fa fb lane (s : State) : exec (.vcgtu p fd fa fb lane) s = execVcgtu p fd fa fb lane s := rfl
theorem exec_vfadd p fd fa fb lane (s : State) : exec (.vfadd p fd fa fb lane) s = execVfadd p fd fa fb lane s := rfl
theorem exec_vfsub p fd fa fb lane (s : State) : exec (.vfsub p fd fa fb lane) s = execVfsub p fd fa fb lane s := rfl
theorem exec_vfmul p fd fa fb lane (s : State) : exec (.vfmul p fd fa fb lane) s = execVfmul p fd fa fb lane s := rfl
theorem exec_vfdiv p fd fa fb lane (s : State) : exec (.vfdiv p fd fa fb lane) s = execVfdiv p fd fa fb lane s := rfl
theorem exec_vfmin p fd fa fb lane (s : State) : exec (.vfmin p fd fa fb lane) s = execVfmin p fd fa fb lane s := rfl
theorem exec_vfmax p fd fa fb lane (s : State) : exec (.vfmax p fd fa fb lane) s = execVfmax p fd fa fb lane s := rfl
theorem exec_vfceq p fd fa fb lane (s : State) : exec (.vfceq p fd fa fb lane) s = execVfceq p fd fa fb lane s := rfl
theorem exec_vfclt p fd fa fb lane (s : State) : exec (.vfclt p fd fa fb lane) s = execVfclt p fd fa fb lane s := rfl
theorem exec_vzipl p fd fa fb lane (s : State) : exec (.vzipl p fd fa fb lane) s = execVzipl p fd fa fb lane s := rfl
theorem exec_vziph p fd fa fb lane (s : State) : exec (.vziph p fd fa fb lane) s = execVziph p fd fa fb lane s := rfl
theorem exec_vuzpe p fd fa fb lane (s : State) : exec (.vuzpe p fd fa fb lane) s = execVuzpe p fd fa fb lane s := rfl
theorem exec_vuzpo p fd fa fb lane (s : State) : exec (.vuzpo p fd fa fb lane) s = execVuzpo p fd fa fb lane s := rfl
theorem exec_vtbl p fd fa fb lane (s : State) : exec (.vtbl p fd fa fb lane) s = execVtbl p fd fa fb lane s := rfl
theorem exec_vdupg p fd fa fb lane (s : State) : exec (.vdupg p fd fa fb lane) s = execVdupg p fd fa fb lane s := rfl
theorem exec_vmovgl p fd fa fb lane (s : State) : exec (.vmovgl p fd fa fb lane) s = execVmovgl p fd fa fb lane s := rfl
theorem exec_vinsg p fd fa fb lane (s : State) : exec (.vinsg p fd fa fb lane) s = execVinsg p fd fa fb lane s := rfl
theorem exec_fence p imm resv ill (s : State) : exec (.fence p imm resv ill) s = execFence p imm resv ill s := rfl
theorem exec_csync p imm resv (s : State) : exec (.csync p imm resv) s = execCsync p imm resv s := rfl
theorem exec_isync p imm resv (s : State) : exec (.isync p imm resv) s = execIsync p imm resv s := rfl
theorem exec_clrex p imm resv (s : State) : exec (.clrex p imm resv) s = execClrex p imm resv s := rfl
theorem exec_wfi p imm resv (s : State) : exec (.wfi p imm resv) s = execWfi p imm resv s := rfl
theorem exec_brk p imm resv (s : State) : exec (.brk p imm resv) s = execBrk p imm resv s := rfl
theorem exec_shield p imm resv (s : State) : exec (.shield p imm resv) s = execShield p imm resv s := rfl
theorem exec_shieldExpiry p (s : State) : exec (.shieldExpiry p) s = execShieldExpiry p s := rfl
theorem exec_shieldDeferLimit p (s : State) : exec (.shieldDeferLimit p) s = execShieldDeferLimit p s := rfl
theorem exec_mfc p rd ra crn ill (s : State) : exec (.mfc p rd ra crn ill) s = execMfc p rd ra crn ill s := rfl
theorem exec_mtc p rd ra crn (s : State) : exec (.mtc p rd ra crn) s = execMtc p rd ra crn s := rfl
theorem exec_mfco p rd ra crn (s : State) : exec (.mfco p rd ra crn) s = execMfco p rd ra crn s := rfl
theorem exec_mtco p rd ra crn (s : State) : exec (.mtco p rd ra crn) s = execMtco p rd ra crn s := rfl
theorem exec_peatcfgWrite p ra openCopy (s : State) : exec (.peatcfgWrite p ra openCopy) s = execPeatcfgWrite p ra openCopy s := rfl
theorem exec_specctlPflush p ra (s : State) : exec (.specctlPflush p ra) s = execSpecctlPflush p ra s := rfl
theorem exec_gcall p imm resv (s : State) : exec (.gcall p imm resv) s = execGcall p imm resv s := rfl
theorem exec_gret p imm resv (s : State) : exec (.gret p imm resv) s = execGret p imm resv s := rfl
theorem exec_kcall p imm resv ill (s : State) : exec (.kcall p imm resv ill) s = execKcall p imm resv ill s := rfl
theorem exec_eret p imm resv (s : State) : exec (.eret p imm resv) s = execEret p imm resv s := rfl
theorem exec_gate p imm resv ill (s : State) : exec (.gate p imm resv ill) s = execGate p imm resv ill s := rfl
theorem exec_gatemark p ill (s : State) : exec (.gatemark p ill) s = execGatemark p ill s := rfl
theorem exec_mispredictRedirect p (s : State) : exec (.mispredictRedirect p) s = execMispredictRedirect p s := rfl
theorem exec_speculativeReissue p line (s : State) : exec (.speculativeReissue p line) s = execSpeculativeReissue p line s := rfl
theorem exec_storeWriteL1d p idx e (s : State) : exec (.storeWriteL1d p idx e) s = execStoreWriteL1d p idx e s := rfl
theorem exec_mergedLoadComplete p (s : State) : exec (.mergedLoadComplete p) s = execMergedLoadComplete p s := rfl
theorem exec_snoopDeferExpiry p (s : State) : exec (.snoopDeferExpiry p) s = execSnoopDeferExpiry p s := rfl
theorem exec_interruptEntry p (s : State) : exec (.interruptEntry p) s = execInterruptEntry p s := rfl
theorem exec_nmiEvent p (s : State) : exec (.nmiEvent p) s = execNmiEvent p s := rfl
theorem exec_nmiEntry p (s : State) : exec (.nmiEntry p) s = execNmiEntry p s := rfl
theorem exec_nmiactClear p ra crn (s : State) : exec (.nmiactClear p ra crn) s = execNmiactClear p ra crn s := rfl
theorem exec_tableWalk p fetch va write (s : State) : exec (.tableWalk p fetch va write) s = execTableWalk p fetch va write s := rfl
theorem exec_l2Fill p line e (s : State) : exec (.l2Fill p line e) s = execL2Fill p line e s := rfl
theorem exec_cinderRecall p line (s : State) : exec (.cinderRecall p line) s = execCinderRecall p line s := rfl
theorem exec_remotePeatAccess src pa (s : State) : exec (.remotePeatAccess src pa) s = execRemotePeatAccess src pa s := rfl
theorem exec_homeTransactionStart sn pa dirErr llcErr (s : State) : exec (.homeTransactionStart sn pa dirErr llcErr) s = execHomeTransactionStart sn pa dirErr llcErr s := rfl
theorem exec_getS a pa spec (s : State) : exec (.getS a pa spec) s = execGetS a pa spec s := rfl
theorem exec_getM a pa spec (s : State) : exec (.getM a pa spec) s = execGetM a pa spec s := rfl
theorem exec_upg a pa (s : State) : exec (.upg a pa) s = execUpg a pa s := rfl
theorem exec_readOnce a pa (s : State) : exec (.readOnce a pa) s = execReadOnce a pa s := rfl
theorem exec_writeUnique a pa (s : State) : exec (.writeUnique a pa) s = execWriteUnique a pa s := rfl
theorem exec_writePtl a pa (s : State) : exec (.writePtl a pa) s = execWritePtl a pa s := rfl
theorem exec_putM a pa (s : State) : exec (.putM a pa) s = execPutM a pa s := rfl
theorem exec_putO a pa (s : State) : exec (.putO a pa) s = execPutO a pa s := rfl
theorem exec_putE a pa (s : State) : exec (.putE a pa) s = execPutE a pa s := rfl
theorem exec_cmoReq a pa (s : State) : exec (.cmoReq a pa) s = execCmoReq a pa s := rfl
theorem exec_fwdGetS a pa e (s : State) : exec (.fwdGetS a pa e) s = execFwdGetS a pa e s := rfl
theorem exec_fwdGetM a pa (s : State) : exec (.fwdGetM a pa) s = execFwdGetM a pa s := rfl
theorem exec_fwdReadOnce a pa (s : State) : exec (.fwdReadOnce a pa) s = execFwdReadOnce a pa s := rfl
theorem exec_inv a pa (s : State) : exec (.inv a pa) s = execInv a pa s := rfl
theorem exec_snpClean a pa (s : State) : exec (.snpClean a pa) s = execSnpClean a pa s := rfl
theorem exec_snpCleanInv a pa e (s : State) : exec (.snpCleanInv a pa e) s = execSnpCleanInv a pa e s := rfl
theorem exec_snpDiscard a pa (s : State) : exec (.snpDiscard a pa) s = execSnpDiscard a pa s := rfl
theorem exec_data a pa (s : State) : exec (.data a pa) s = execData a pa s := rfl
theorem exec_roData a pa (s : State) : exec (.roData a pa) s = execRoData a pa s := rfl
theorem exec_ackCount a pa (s : State) : exec (.ackCount a pa) s = execAckCount a pa s := rfl
theorem exec_invAck a pa (s : State) : exec (.invAck a pa) s = execInvAck a pa s := rfl
theorem exec_snpData sn pa (s : State) : exec (.snpData sn pa) s = execSnpData sn pa s := rfl
theorem exec_snpAck sn pa (s : State) : exec (.snpAck sn pa) s = execSnpAck sn pa s := rfl
theorem exec_fwdMiss sn pa (s : State) : exec (.fwdMiss sn pa) s = execFwdMiss sn pa s := rfl
theorem exec_unblock sn pa (s : State) : exec (.unblock sn pa) s = execUnblock sn pa s := rfl
theorem exec_putAck a pa (s : State) : exec (.putAck a pa) s = execPutAck a pa s := rfl
theorem exec_stalePutAck a pa (s : State) : exec (.stalePutAck a pa) s = execStalePutAck a pa s := rfl
theorem exec_wrAck a pa (s : State) : exec (.wrAck a pa) s = execWrAck a pa s := rfl
theorem exec_cmoAck a pa (s : State) : exec (.cmoAck a pa) s = execCmoAck a pa s := rfl
theorem exec_refuse a pa (s : State) : exec (.refuse a pa) s = execRefuse a pa s := rfl
theorem exec_ncRead a pa (s : State) : exec (.ncRead a pa) s = execNcRead a pa s := rfl
theorem exec_ncWriteP a pa (s : State) : exec (.ncWriteP a pa) s = execNcWriteP a pa s := rfl
theorem exec_ncWriteO a pa (s : State) : exec (.ncWriteO a pa) s = execNcWriteO a pa s := rfl
theorem exec_ncData a (s : State) : exec (.ncData a) s = execNcData a s := rfl
theorem exec_ncAck a (s : State) : exec (.ncAck a) s = execNcAck a s := rfl
theorem exec_ncErr a (s : State) : exec (.ncErr a) s = execNcErr a s := rfl
theorem exec_retry a (s : State) : exec (.retry a) s = execRetry a s := rfl
theorem exec_vc3Resend a pa (s : State) : exec (.vc3Resend a pa) s = execVc3Resend a pa s := rfl
theorem exec_tlbOp a (s : State) : exec (.tlbOp a) s = execTlbOp a s := rfl
theorem exec_tlbAck a (s : State) : exec (.tlbAck a) s = execTlbAck a s := rfl
theorem exec_intDeliver tgt (s : State) : exec (.intDeliver tgt) s = execIntDeliver tgt s := rfl
theorem exec_redir a pa (s : State) : exec (.redir a pa) s = execRedir a pa s := rfl
theorem exec_bktXfer b (s : State) : exec (.bktXfer b) s = execBktXfer b s := rfl
theorem exec_bktUpd b tn (s : State) : exec (.bktUpd b tn) s = execBktUpd b tn s := rfl
theorem exec_bktAck b (s : State) : exec (.bktAck b) s = execBktAck b s := rfl
theorem exec_bucketMove who b v (s : State) : exec (.bucketMove who b v) s = execBucketMove who b v s := rfl
theorem exec_bucketCopyStart b (s : State) : exec (.bucketCopyStart b) s = execBucketCopyStart b s := rfl
theorem exec_slCtlRetire who sn v (s : State) : exec (.slCtlRetire who sn v) s = execSlCtlRetire who sn v s := rfl
theorem exec_urgencyRaise tn input vc lane (s : State) : exec (.urgencyRaise tn input vc lane) s = execUrgencyRaise tn input vc lane s := rfl
theorem exec_slotTableUpdate tn (s : State) : exec (.slotTableUpdate tn) s = execSlotTableUpdate tn s := rfl
theorem exec_flitEccError tn o kind (s : State) : exec (.flitEccError tn o kind) s = execFlitEccError tn o kind s := rfl
theorem exec_linkDownWrite who tn o v (s : State) : exec (.linkDownWrite who tn o v) s = execLinkDownWrite who tn o v s := rfl
theorem exec_linkRetrain tn o pass (s : State) : exec (.linkRetrain tn o pass) s = execLinkRetrain tn o pass s := rfl
theorem exec_epochSwap who v (s : State) : exec (.epochSwap who v) s = execEpochSwap who v s := rfl
theorem exec_epochDrain0Done (s : State) : exec (.epochDrain0Done) s = execEpochDrain0Done s := rfl
theorem exec_epochDrain1Done (s : State) : exec (.epochDrain1Done) s = execEpochDrain1Done s := rfl
theorem exec_epochReleaseDone (s : State) : exec (.epochReleaseDone) s = execEpochReleaseDone s := rfl
theorem exec_portDrain who tn q (s : State) : exec (.portDrain who tn q) s = execPortDrain who tn q s := rfl
theorem exec_portDrainAck tn q (s : State) : exec (.portDrainAck tn q) s = execPortDrainAck tn q s := rfl
theorem exec_portFence who tn q (s : State) : exec (.portFence who tn q) s = execPortFence who tn q s := rfl
theorem exec_portOpen who tn q (s : State) : exec (.portOpen who tn q) s = execPortOpen who tn q s := rfl
theorem exec_sliceSelfTestDone sn pass (s : State) : exec (.sliceSelfTestDone sn pass) s = execSliceSelfTestDone sn pass s := rfl
theorem exec_channelServe k err (s : State) : exec (.channelServe k err) s = execChannelServe k err s := rfl
theorem exec_bwWindowStart k (s : State) : exec (.bwWindowStart k) s = execBwWindowStart k s := rfl
theorem exec_patrolScrubRead k err (s : State) : exec (.patrolScrubRead k err) s = execPatrolScrubRead k err s := rfl
theorem exec_spareCopyStart who k v (s : State) : exec (.spareCopyStart who k v) s = execSpareCopyStart who k v s := rfl
theorem exec_spareCopyDone k (s : State) : exec (.spareCopyDone k) s = execSpareCopyDone k s := rfl
theorem exec_channelFail k (s : State) : exec (.channelFail k) s = execChannelFail k s := rfl
theorem exec_channelFailover who k (s : State) : exec (.channelFailover who k) s = execChannelFailover who k s := rfl
theorem exec_rejoin who k (s : State) : exec (.rejoin who k) s = execRejoin who k s := rfl
theorem exec_resilverDone k (s : State) : exec (.resilverDone k) s = execResilverDone k s := rfl
theorem exec_ilvLock who v (s : State) : exec (.ilvLock who v) s = execIlvLock who v s := rfl
theorem exec_gatekeeperCommit who i (s : State) : exec (.gatekeeperCommit who i) s = execGatekeeperCommit who i s := rfl
theorem exec_gatekeeperCommitDone i (s : State) : exec (.gatekeeperCommitDone i) s = execGatekeeperCommitDone i s := rfl
theorem exec_generate who n (s : State) : exec (.generate who n) s = execGenerate who n s := rfl
theorem exec_keyValid n (s : State) : exec (.keyValid n) s = execKeyValid n s := rfl
theorem exec_erase who n (s : State) : exec (.erase who n) s = execErase who n s := rfl
theorem exec_interruptSourceEvent intid level (s : State) : exec (.interruptSourceEvent intid level) s = execInterruptSourceEvent intid level s := rfl
theorem exec_idistSrcCfgWrite who intid v (s : State) : exec (.idistSrcCfgWrite who intid v) s = execIdistSrcCfgWrite who intid v s := rfl
theorem exec_idistTgtCfgWrite who t v (s : State) : exec (.idistTgtCfgWrite who t v) s = execIdistTgtCfgWrite who t v s := rfl
theorem exec_setpend who intid (s : State) : exec (.setpend who intid) s = execSetpend who intid s := rfl
theorem exec_clrpend who intid (s : State) : exec (.clrpend who intid) s = execClrpend who intid s := rfl
theorem exec_idistAck p page (s : State) : exec (.idistAck p page) s = execIdistAck p page s := rfl
theorem exec_idistEoi p page v (s : State) : exec (.idistEoi p page v) s = execIdistEoi p page v s := rfl
theorem exec_idistSgi p page v (s : State) : exec (.idistSgi p page v) s = execIdistSgi p page v s := rfl
theorem exec_ctTimerFire t page (s : State) : exec (.ctTimerFire t page) s = execCtTimerFire t page s := rfl
theorem exec_iotuRequest stream iova write data (s : State) : exec (.iotuRequest stream iova write data) s = execIotuRequest stream iova write data s := rfl
theorem exec_iotuCtxInv who c v (s : State) : exec (.iotuCtxInv who c v) s = execIotuCtxInv who c v s := rfl
theorem exec_iotuCtxCfgWrite who c v (s : State) : exec (.iotuCtxCfgWrite who c v) s = execIotuCtxCfgWrite who c v s := rfl
theorem exec_iotuInvComplete c (s : State) : exec (.iotuInvComplete c) s = execIotuInvComplete c s := rfl
theorem exec_claimChange who idx v (s : State) : exec (.claimChange who idx v) s = execClaimChange who idx v s := rfl
theorem exec_debugAccess req (s : State) : exec (.debugAccess req) s = execDebugAccess req s := rfl
theorem exec_debugSample p (s : State) : exec (.debugSample p) s = execDebugSample p s := rfl
theorem exec_debugHaltRequest p (s : State) : exec (.debugHaltRequest p) s = execDebugHaltRequest p s := rfl
theorem exec_debugHalt p (s : State) : exec (.debugHalt p) s = execDebugHalt p s := rfl
theorem exec_twinForm who k (s : State) : exec (.twinForm who k) s = execTwinForm who k s := rfl
theorem exec_twinDissolve who k (s : State) : exec (.twinDissolve who k) s = execTwinDissolve who k s := rfl
theorem exec_groupAgreed k n (s : State) : exec (.groupAgreed k n) s = execGroupAgreed k n s := rfl
theorem exec_twinMismatch k kind (s : State) : exec (.twinMismatch k kind) s = execTwinMismatch k kind s := rfl
theorem exec_replayEnd k (s : State) : exec (.replayEnd k) s = execReplayEnd k s := rfl
theorem exec_frameReceive port bytes fcsOk (s : State) : exec (.frameReceive port bytes fcsOk) s = execFrameReceive port bytes fcsOk s := rfl
theorem exec_classifierLookup port (s : State) : exec (.classifierLookup port) s = execClassifierLookup port s := rfl
theorem exec_linkStateChange port up (s : State) : exec (.linkStateChange port up) s = execLinkStateChange port up s := rfl
theorem exec_portFailover who port (s : State) : exec (.portFailover who port) s = execPortFailover who port s := rfl
theorem exec_autoFailover port (s : State) : exec (.autoFailover port) s = execAutoFailover port s := rfl
theorem exec_portRestore who port (s : State) : exec (.portRestore who port) s = execPortRestore who port s := rfl
theorem exec_restoreSwitch port (s : State) : exec (.restoreSwitch port) s = execRestoreSwitch port s := rfl
theorem exec_queueEnable who q (s : State) : exec (.queueEnable who q) s = execQueueEnable who q s := rfl
theorem exec_queueStop who q (s : State) : exec (.queueStop who q) s = execQueueStop who q s := rfl
theorem exec_queueDrainDone q (s : State) : exec (.queueDrainDone q) s = execQueueDrainDone q s := rfl
theorem exec_descriptorDoorbell who fn j v (s : State) : exec (.descriptorDoorbell who fn j v) s = execDescriptorDoorbell who fn j v s := rfl
theorem exec_completionDoorbell who fn j v (s : State) : exec (.completionDoorbell who fn j v) s = execCompletionDoorbell who fn j v s := rfl
theorem exec_descriptorFetch q (s : State) : exec (.descriptorFetch q) s = execDescriptorFetch q s := rfl
theorem exec_txDataRead q (s : State) : exec (.txDataRead q) s = execTxDataRead q s := rfl
theorem exec_frameReady q (s : State) : exec (.frameReady q) s = execFrameReady q s := rfl
theorem exec_frameStart port (s : State) : exec (.frameStart port) s = execFrameStart port s := rfl
theorem exec_launchDeadline q (s : State) : exec (.launchDeadline q) s = execLaunchDeadline q s := rfl
theorem exec_completionWrite q (s : State) : exec (.completionWrite q) s = execCompletionWrite q s := rfl
theorem exec_gclCommit who port (s : State) : exec (.gclCommit who port) s = execGclCommit who port s := rfl
theorem exec_gclActivate port (s : State) : exec (.gclActivate port) s = execGclActivate port s := rfl
theorem exec_gateChange port (s : State) : exec (.gateChange port) s = execGateChange port s := rfl
theorem exec_preemptVerify port ok (s : State) : exec (.preemptVerify port ok) s = execPreemptVerify port ok s := rfl
theorem exec_safeFrameRepeat port (s : State) : exec (.safeFrameRepeat port) s = execSafeFrameRepeat port s := rfl
theorem exec_fnCfgWrite who n v (s : State) : exec (.fnCfgWrite who n v) s = execFnCfgWrite who n v s := rfl
theorem exec_functionEnable who n (s : State) : exec (.functionEnable who n) s = execFunctionEnable who n s := rfl
theorem exec_functionEnabled n (s : State) : exec (.functionEnabled n) s = execFunctionEnabled n s := rfl
theorem exec_functionDisable who n (s : State) : exec (.functionDisable who n) s = execFunctionDisable who n s := rfl
theorem exec_functionReset who n (s : State) : exec (.functionReset who n) s = execFunctionReset who n s := rfl
theorem exec_functionDisabled n (s : State) : exec (.functionDisabled n) s = execFunctionDisabled n s := rfl
theorem exec_functionStuck n (s : State) : exec (.functionStuck n) s = execFunctionStuck n s := rfl
theorem exec_spInboundRequest r (s : State) : exec (.spInboundRequest r) s = execSpInboundRequest r s := rfl
theorem exec_windowCommit who (s : State) : exec (.windowCommit who) s = execWindowCommit who s := rfl
theorem exec_windowCommitDone (s : State) : exec (.windowCommitDone) s = execWindowCommitDone s := rfl
theorem exec_spLinkReset kind (s : State) : exec (.spLinkReset kind) s = execSpLinkReset kind s := rfl
theorem exec_spPerst level (s : State) : exec (.spPerst level) s = execSpPerst level s := rfl
theorem exec_hostDoorbell v (s : State) : exec (.hostDoorbell v) s = execHostDoorbell v s := rfl
theorem exec_hintSet who v (s : State) : exec (.hintSet who v) s = execHintSet who v s := rfl
theorem exec_hostConfigAccess write size off v (s : State) : exec (.hostConfigAccess write size off v) s = execHostConfigAccess write size off v s := rfl
theorem exec_expansionRomRead off (s : State) : exec (.expansionRomRead off) s = execExpansionRomRead off s := rfl
theorem exec_rpOutboundRequest k (s : State) : exec (.rpOutboundRequest k) s = execRpOutboundRequest k s := rfl
theorem exec_rpCompletion k tag status data (s : State) : exec (.rpCompletion k tag status data) s = execRpCompletion k tag status data s := rfl
theorem exec_completionTimeout k (s : State) : exec (.completionTimeout k) s = execCompletionTimeout k s := rfl
theorem exec_rpInboundRequest k r (s : State) : exec (.rpInboundRequest k r) s = execRpInboundRequest k r s := rfl
theorem exec_presenceChange k present (s : State) : exec (.presenceChange k present) s = execPresenceChange k present s := rfl
theorem exec_attentionButton k (s : State) : exec (.attentionButton k) s = execAttentionButton k s := rfl
theorem exec_slotControlWrite who k v (s : State) : exec (.slotControlWrite who k v) s = execSlotControlWrite who k v s := rfl
theorem exec_surpriseDown k (s : State) : exec (.surpriseDown k) s = execSurpriseDown k s := rfl
theorem exec_dpcTrigger k (s : State) : exec (.dpcTrigger k) s = execDpcTrigger k s := rfl
theorem exec_containmentClear who k (s : State) : exec (.containmentClear who k) s = execContainmentClear who k s := rfl
theorem exec_firebreakEvent src cls detail (s : State) : exec (.firebreakEvent src cls detail) s = execFirebreakEvent src cls detail s := rfl
theorem exec_watchExpiry w (s : State) : exec (.watchExpiry w) s = execWatchExpiry w s := rfl
theorem exec_watchAck who w v (s : State) : exec (.watchAck who w v) s = execWatchAck who w v s := rfl
theorem exec_pinRelease who v (s : State) : exec (.pinRelease who v) s = execPinRelease who v s := rfl
theorem exec_pinMinEnd (s : State) : exec (.pinMinEnd) s = execPinMinEnd s := rfl
theorem exec_safeRequest who (s : State) : exec (.safeRequest who) s = execSafeRequest who s := rfl
theorem exec_safeNsafeAssert (s : State) : exec (.safeNsafeAssert) s = execSafeNsafeAssert s := rfl
theorem exec_safeSelfRefresh k (s : State) : exec (.safeSelfRefresh k) s = execSafeSelfRefresh k s := rfl
theorem exec_backgroundVoteCheck off m0 m1 m2 (s : State) : exec (.backgroundVoteCheck off m0 m1 m2) s = execBackgroundVoteCheck off m0 m1 m2 s := rfl
theorem exec_park who c (s : State) : exec (.park who c) s = execPark who c s := rfl
theorem exec_parkDone c (s : State) : exec (.parkDone c) s = execParkDone c s := rfl
theorem exec_resume who c (s : State) : exec (.resume who c) s = execResume who c s := rfl
theorem exec_start who c (s : State) : exec (.start who c) s = execStart who c s := rfl
theorem exec_bist who c (s : State) : exec (.bist who c) s = execBist who c s := rfl
theorem exec_bistDone c pass (s : State) : exec (.bistDone c pass) s = execBistDone c pass s := rfl
theorem exec_poweron who c (s : State) : exec (.poweron who c) s = execPoweron who c s := rfl
theorem exec_poweroff who c (s : State) : exec (.poweroff who c) s = execPoweroff who c s := rfl
theorem exec_powerOnReset (s : State) : exec (.powerOnReset) s = execPowerOnReset s := rfl
theorem exec_supplyReset (s : State) : exec (.supplyReset) s = execSupplyReset s := rfl
theorem exec_islandReset (s : State) : exec (.islandReset) s = execIslandReset s := rfl
theorem exec_chipReset (s : State) : exec (.chipReset) s = execChipReset s := rfl
theorem exec_resetEffect (s : State) : exec (.resetEffect) s = execResetEffect s := rfl
theorem exec_bootSequence b (s : State) : exec (.bootSequence b) s = execBootSequence b s := rfl
theorem exec_mapcore c (s : State) : exec (.mapcore c) s = execMapcore c s := rfl
theorem exec_twin c (s : State) : exec (.twin c) s = execTwin c s := rfl
theorem exec_quietd0 c (s : State) : exec (.quietd0 c) s = execQuietd0 c s := rfl
theorem exec_reset c (s : State) : exec (.reset c) s = execReset c s := rfl
theorem exec_safe c (s : State) : exec (.safe c) s = execSafe c s := rfl
theorem exec_stage c (s : State) : exec (.stage c) s = execStage c s := rfl
theorem exec_activate c (s : State) : exec (.activate c) s = execActivate c s := rfl
theorem exec_confirm c (s : State) : exec (.confirm c) s = execConfirm c s := rfl
theorem exec_dbgreq c (s : State) : exec (.dbgreq c) s = execDbgreq c s := rfl
theorem exec_svnraise c (s : State) : exec (.svnraise c) s = execSvnraise c s := rfl
theorem exec_kilnConfirm who v (s : State) : exec (.kilnConfirm who v) s = execKilnConfirm who v s := rfl
theorem exec_sbcRstChip who (s : State) : exec (.sbcRstChip who) s = execSbcRstChip who s := rfl
theorem exec_sbcRstIsland who (s : State) : exec (.sbcRstIsland who) s = execSbcRstIsland who s := rfl
theorem exec_jtagDebugRequest bytes (s : State) : exec (.jtagDebugRequest bytes) s = execJtagDebugRequest bytes s := rfl
theorem exec_ledgerEntry (s : State) : exec (.ledgerEntry) s = execLedgerEntry s := rfl
theorem exec_ledgerMirrorCopy (s : State) : exec (.ledgerMirrorCopy) s = execLedgerMirrorCopy s := rfl
theorem exec_mirrorAbandon (s : State) : exec (.mirrorAbandon) s = execMirrorAbandon s := rfl
theorem exec_ashRecordEvent (s : State) : exec (.ashRecordEvent) s = execAshRecordEvent s := rfl
theorem exec_ashFreeze who (s : State) : exec (.ashFreeze who) s = execAshFreeze who s := rfl
theorem exec_ashUnfreeze who (s : State) : exec (.ashUnfreeze who) s = execAshUnfreeze who s := rfl
theorem exec_ashTriggerFreeze (s : State) : exec (.ashTriggerFreeze) s = execAshTriggerFreeze s := rfl
theorem exec_softwareEvent who v (s : State) : exec (.softwareEvent who v) s = execSoftwareEvent who v s := rfl
theorem exec_powerFailWarning (s : State) : exec (.powerFailWarning) s = execPowerFailWarning s := rfl
theorem exec_flushDone (s : State) : exec (.flushDone) s = execFlushDone s := rfl
theorem exec_setvWrite who r v (s : State) : exec (.setvWrite who r v) s = execSetvWrite who r v s := rfl
theorem exec_railOn who r (s : State) : exec (.railOn who r) s = execRailOn who r s := rfl
theorem exec_railOff who r (s : State) : exec (.railOff who r) s = execRailOff who r s := rfl
theorem exec_railSample r mv ma (s : State) : exec (.railSample r mv ma) s = execRailSample r mv ma s := rfl
theorem exec_tempSample n temp (s : State) : exec (.tempSample n temp) s = execTempSample n temp s := rfl
theorem exec_pmbusAlert (s : State) : exec (.pmbusAlert) s = execPmbusAlert s := rfl
theorem exec_fieldRefclkLoss east (s : State) : exec (.fieldRefclkLoss east) s = execFieldRefclkLoss east s := rfl
theorem exec_rpLinkUp k (s : State) : exec (.rpLinkUp k) s = execRpLinkUp k s := rfl
theorem exec_spLinkUp width speed (s : State) : exec (.spLinkUp width speed) s = execSpLinkUp width speed s := rfl
theorem exec_channelRetrain k pass (s : State) : exec (.channelRetrain k pass) s = execChannelRetrain k pass s := rfl

end Sys2Proof.Machine
end

