-- ==== Sys2Proof/Laws/LoadStore.lean ====
section
/-! SUPPORT. A load that hits. -/

namespace Sys2Proof.Machine

/-- A cached read of a line that the core holds. -/
theorem readPiece_hit {s : State} {x : Ctx} {va pa off size acc : Nat} {l : PLine} (hl : s.heldFor x pa l)
    (hr : l.holds = true) (hp : poisoned ((s.core x.p).held pa).2 (pa % 64) size = false) (base : Option RegNo) (n : Nat) :
    readPiece x acc .none base n ⟨va, pa, 0, off, size⟩ s =
      .ok (lineGet ((s.core x.p).held pa).1 (pa % 64) size) (s.modCore x.p (·.touched pa)) := by
  obtain ⟨hd, hk, hline, hw, hdom, hy, hf, hh, hfl, he⟩ := hl
  have hget : (get : InsnM State) s = .ok s s := rfl
  have h0 : (getCore x.p) s = .ok (s.core x.p) s := rfl
  have h1 : takeEarly x base pa s = .ok none s := by
    simp only [takeEarly, bind, EStateM.bind, h0, he]
    rfl
  have h2 := wbLine_held (write := false) (x := x) hline hw hdom hy hf hh (by simpa using hr) va acc
  let s' := s.modCore x.p (·.unspec pa)
  have hc : s'.core x.p = (s.core x.p).unspec pa := by simp [s']
  have hfl' : (s'.core x.p).flaws = [] := by rw [hc]; exact hfl
  have hh' : (s'.core x.p).l1dHit x.world x.dom pa = true := by rw [hc]; exact hh
  have hheld : (s'.core x.p).held pa = (s.core x.p).held pa := by rw [hc]; rfl
  have h3 := lineRead_clean (x := x) (s := s') (va := va) (acc := acc) (size := size) hfl' hh'
    (show poisoned ((s'.core x.p).held pa).2 (lineOff pa) size = false by rw [hheld]; exact hp)
  have h4 : s'.modCore x.p (fun c => { c with early := tdel c.early (lineOf pa) }) = s.modCore x.p (·.touched pa) := by
    rw [State.modCore_modCore]
    rfl
  rw [h4, hheld] at h3
  simp only [readPiece, hd, bind, EStateM.bind, hget, hk, Bool.not_true, Bool.false_eq_true, if_false, if_true, h1, h2]
  exact h3

/-- A load within a line that the core holds, with no queued store in its way, delivers the bytes of the line. -/
theorem scalarLoad_hit {s : State} {x : Ctx} {va pa size : Nat} {l : PLine} (hm : (s.core x.p).mload = none)
    (hs : va % 64 + size ≤ 64) {fp : Bool} (ha : (fp && size == 16) = true → va % size = 0)
    (hg : s.granted x needLoad va pa 0) (hl : s.heldFor x pa l) (hq : s.noStoreTo x.p pa size) (hr : l.holds = true)
    (hp : poisoned ((s.core x.p).held pa).2 (pa % 64) size = false) (sg : Bool) (rd ra : RegNo) :
    scalarLoad x fp rd ra va size sg .none s =
      (do loadTo x.p fp rd size sg (lineGet ((s.core x.p).held pa).1 (pa % 64) size); pure .seq : InsnM Flow)
        (s.modCore x.p (·.touched pa)) := by
  have h0 : ∀ p, (getCore p) s = .ok (s.core p) s := fun _ => rfl
  have hx : stallIf (s.core x.p).mload.isSome s = .ok () s := by simp [hm, stallIf, pure, EStateM.pure]
  have hf : (s.core x.p).forward [⟨va, pa, 0, 0, size⟩] = .miss := by
    simp [Core.forward, Core.deciding_none hq]
  have hpc : readPieces x 2 .none (some ra) 0 [⟨va, pa, 0, 0, size⟩] s =
      .ok (lineGet ((s.core x.p).held pa).1 (pa % 64) size, 0) (s.modCore x.p (·.touched pa)) := by
    have hnd : (Piece.direct ⟨va, pa, 0, 0, size⟩ x) = false := by simp [Piece.direct, hl.1]
    simp [readPieces, bind, EStateM.bind, readPiece_hit hl hr hp, pure, EStateM.pure, hnd]
  simp only [scalarLoad, bind, EStateM.bind, h0, hx, pieces_inline hg 2 _ hs ha, hf, hpc]

end Sys2Proof.Machine
end

