-- ==== Sys2Proof/Laws/Memory.lean ====
section
/-! SUPPORT. DRAM: reading after writing, and the canonical form that every write keeps. -/

namespace Sys2Proof.Machine

/-- Every listed address of `m` lies above `k`. -/
def memAbove (k : Nat) (m : List Host.Cell) : Prop := ∀ e ∈ m, k < e.1

theorem Memory.wf_cons (a : Nat) (b : Byte) (m : List Host.Cell) :
    Memory.wf ((a, b) :: m) = true ↔ memAbove a m ∧ Memory.wf m = true := by
  induction m generalizing a b with
  | nil => simp [Memory.wf, memAbove]
  | cons e m ih =>
    obtain ⟨c, d⟩ := e
    have hc := ih c d
    simp only [Memory.wf, Bool.and_eq_true, decide_eq_true_eq]
    constructor
    · rintro ⟨h, w⟩
      refine ⟨?_, w⟩
      intro e he
      rcases List.mem_cons.1 he with rfl | he
      · exact h
      · exact lt_trans h ((hc.1 w).1 e he)
    · rintro ⟨h, w⟩
      exact ⟨h (c, d) (by simp), w⟩

theorem memAbove_memPut {j k : Nat} {m : List Host.Cell} (v : Byte) (h : memAbove j m) (hk : j < k) :
    memAbove j (memPut m k v) := by
  induction m with
  | nil => intro e he; simp [memPut] at he; subst he; exact hk
  | cons e m ih =>
    obtain ⟨a, b⟩ := e
    have hm : memAbove j m := fun e he => h e (List.mem_cons_of_mem _ he)
    have ha : j < a := h (a, b) (by simp)
    unfold memPut
    split
    · intro e he
      rcases List.mem_cons.1 he with rfl | he
      · exact hk
      · exact h e he
    · split
      · intro e he
        rcases List.mem_cons.1 he with rfl | he
        · exact hk
        · exact hm e he
      · intro e he
        rcases List.mem_cons.1 he with rfl | he
        · exact ha
        · exact ih hm e he

/-- A write of a byte keeps the canonical form. -/
theorem Memory.wf_memPut {m : List Host.Cell} (k : Nat) (v : Byte) (h : Memory.wf m = true) :
    Memory.wf (memPut m k v) = true := by
  induction m with
  | nil => rfl
  | cons e m ih =>
    obtain ⟨a, b⟩ := e
    obtain ⟨ha, hm⟩ := (Memory.wf_cons a b m).1 h
    unfold memPut
    split
    · next hk =>
      refine (Memory.wf_cons _ _ _).2 ⟨?_, h⟩
      intro e he
      rcases List.mem_cons.1 he with rfl | he
      · exact hk
      · exact lt_trans hk (ha e he)
    · split
      · next _ he => subst he; exact (Memory.wf_cons _ _ _).2 ⟨ha, hm⟩
      · next h1 h2 =>
        exact (Memory.wf_cons _ _ _).2 ⟨memAbove_memPut v ha (by omega), ih hm⟩

theorem memGet_memPut_same (m : List Host.Cell) (k : Nat) (v : Byte) : memGet (memPut m k v) k = some v := by
  induction m with
  | nil => simp [memPut, memGet]
  | cons e m ih =>
    obtain ⟨a, b⟩ := e
    unfold memPut
    split
    · simp [memGet]
    · split
      · simp [memGet]
      · next h1 h2 => simp [memGet, h2, h1, ih]

theorem memGet_memPut_ne (m : List Host.Cell) {k j : Nat} (v : Byte) (h : j ≠ k) (hw : Memory.wf m = true) :
    memGet (memPut m k v) j = memGet m j := by
  induction m with
  | nil =>
    have : ¬ k = j := fun e => h e.symm
    simp [memPut, memGet, this]
  | cons e m ih =>
    obtain ⟨a, b⟩ := e
    obtain ⟨ha, hm⟩ := (Memory.wf_cons a b m).1 hw
    have hkj : ¬ k = j := fun e => h e.symm
    unfold memPut
    split
    · next hk =>
      by_cases hj : j < k
      · have h1 : ¬ a = j := by omega
        have h2 : j < a := by omega
        simp [memGet, hkj, hj, h1, h2]
      · simp [memGet, hkj, hj]
    · split
      · next h1 h2 => subst h2; simp [memGet, hkj]
      · next h1 h2 => simp only [memGet]; rw [ih hm]

/-- Writes of bytes, one after another, keep the canonical form. -/
theorem Memory.wf_foldl_memPut (l : List Nat) (f : Nat → Nat) (g : Nat → Byte) {m : List Host.Cell}
    (h : Memory.wf m = true) : Memory.wf (l.foldl (fun a i => memPut a (f i) (g i)) m) = true := by
  induction l generalizing m with
  | nil => exact h
  | cons i l ih => exact ih (Memory.wf_memPut _ _ h)

/-- A write of a line keeps the canonical form. -/
theorem Memory.wf_memPutLine {m : List Host.Cell} (pa : Nat) (d : Line) (h : Memory.wf m = true) :
    Memory.wf (memPutLine m pa d) = true :=
  Memory.wf_foldl_memPut _ _ _ h

/-- A write of a line leaves every byte outside the line alone. -/
theorem memGet_memPutLine_ne {m : List Host.Cell} (pa : Nat) (d : Line) {j : Nat} (hw : Memory.wf m = true)
    (h : j < lineOf pa ∨ lineOf pa + 64 ≤ j) : memGet (memPutLine m pa d) j = memGet m j := by
  unfold memPutLine
  have key : ∀ (l : List Nat) (m : List Host.Cell), (∀ i ∈ l, i < 64) → Memory.wf m = true →
      memGet (l.foldl (fun a i => memPut a (lineOf pa + i) (lineByte d i)) m) j = memGet m j := by
    intro l
    induction l with
    | nil => intro m _ _; rfl
    | cons i l ih =>
      intro m hl hm
      have hi : i < 64 := hl i (by simp)
      simp only [List.foldl_cons]
      rw [ih _ (fun k hk => hl k (List.mem_cons_of_mem _ hk)) (Memory.wf_memPut _ _ hm)]
      exact memGet_memPut_ne m _ (by omega) hm
  exact key _ m (fun i hi => List.mem_range.1 hi) hw

end Sys2Proof.Machine
end

