-- ==== Sys2Proof/Laws/Mesh.lean ====
section
/-! SUPPORT. What sending a message does. -/

namespace Sys2Proof.Machine

/-- On a calm mesh a message is put at the end of the mesh, and nothing else changes. -/
theorem State.send_calm {s : State} (h : s.meshCalm) (m : Msg) : s.send m = s.posted m := by
  obtain ⟨h1, h2⟩ := h
  simp [State.send, h1, State.put, State.routeErr, h2, State.posted]

end Sys2Proof.Machine
end

