-- ==== Sys2Proof/Machine/Header.lean ====
section
/-! DEFINITION. The header flit of a message (R275, R276, R305): its opcode and the places of its fields, and the sideband of
R304. -/

namespace Sys2Proof.Machine

/-- `OPC` (R276, R305). -/
def Opc.code : Opc → Nat
  | .getS => 0x01
  | .getM => 0x02
  | .upg => 0x03
  | .readOnce => 0x04
  | .writeUnique => 0x05
  | .writePtl => 0x06
  | .putM => 0x08
  | .putO => 0x09
  | .putE => 0x0A
  | .cmoReq => 0x0C
  | .fwdGetS => 0x10
  | .fwdGetM => 0x11
  | .fwdReadOnce => 0x12
  | .inv => 0x13
  | .snpClean => 0x14
  | .snpCleanInv => 0x15
  | .snpDiscard => 0x16
  | .data => 0x20
  | .roData => 0x21
  | .ackCount => 0x22
  | .invAck => 0x23
  | .snpData => 0x24
  | .snpAck => 0x25
  | .fwdMiss => 0x26
  | .unblock => 0x27
  | .putAck => 0x28
  | .stalePutAck => 0x29
  | .wrAck => 0x2A
  | .cmoAck => 0x2B
  | .refuse => 0x2C
  | .ncRead => 0x30
  | .ncWriteP => 0x31
  | .ncWriteO => 0x32
  | .ncData => 0x33
  | .ncAck => 0x34
  | .ncErr => 0x35
  | .retry => 0x36
  | .tlbOp => 0x38
  | .tlbAck => 0x39
  | .intDeliver => 0x3A
  | .redir => 0x3C
  | .bktXfer => 0x3D
  | .bktUpd => 0x3E
  | .bktAck => 0x3F

/-- `HOME`: the home that sends or receives the message, else the one that owns the line. -/
def State.hdrHome (s : State) (m : Msg) : Nat :=
  match m.dst with
  | .home sn => sn
  | _ => if 0x1000 ≤ m.src ∧ m.src < 0x1100 then m.src - 0x1000 else s.homeNow m.pa

/-- `TAG`: of a request without coherence, the number that its answer repeats. -/
def Msg.hdrTag (m : Msg) : Nat := if 0x30 ≤ m.opc.code then m.aux else m.tag

/-- The log2 of a byte count from 1 to 64. -/
def hdrLog (n : Nat) : Nat := ((List.range 7).find? (fun i => 2 ^ i == n)).getD 0

/-- The places of the header's fields: lowest bit, width, value. -/
def State.hdrFields (s : State) (m : Msg) : List (Nat × Nat × Nat) :=
  let common := [(0, 6, m.opc.code), (6, 42, m.pa / 64), (48, 12, m.req), (68, 10, m.hdrTag), (78, 6, m.dom), (84, 1, b2n m.world),
                 (85, 1, b2n m.spec)]
  if 0x30 ≤ m.opc.code then
    common ++ [(111, 6, m.pa % 64), (117, 3, hdrLog m.size), (120, 4, m.status)] ++
      (if m.opc = .ncWriteP ∨ m.opc = .ncWriteO then [(128, 64, (2 ^ m.size - 1) * 2 ^ (m.pa % 64))] else [])
  else
    common ++ [(60, 8, s.hdrHome m), (86, 11, m.ackcnt), (97, 2, m.grant), (99, 1, b2n m.rel), (100, 2, m.res), (102, 1, b2n m.ackTo),
               (103, 4, m.poison.toNat), (107, 3, m.cmoop), (110, 1, b2n m.point)] ++
      (if m.opc = .writePtl then [(128, 64, m.bmask.toNat)] else [])

/-- The header flit (R275, R305). -/
def State.header (s : State) (m : Msg) : BitVec 256 :=
  BitVec.ofNat 256 ((s.hdrFields m).foldl (fun v f => setBits v f.1 f.2.1 f.2.2) 0)

/-- The places of the fields of the sideband of a header flit (R304), all but `ECC`. -/
def State.sideFields (s : State) (m : Msg) : List (Nat × Nat × Nat) :=
  [(10, 2, if m.vc3 then 3 else m.opc.vc), (12, 1, 1), (13, 1, b2n !m.isLine), (14, 4, m.urg), (18, 8, s.toRouter m),
   (26, 1, b2n (decide (2 ≤ (s.portTo m).2))), (27, 3, s.modeOf m.from (s.toRouter m)), (30, 1, s.lane m)]

/-- The sideband of a header flit (R304). -/
def State.sideband (s : State) (m : Msg) : BitVec 32 :=
  BitVec.ofNat 32 ((s.sideFields m).foldl (fun v f => setBits v f.1 f.2.1 f.2.2) 0)

end Sys2Proof.Machine
end

