-- ==== Sys2Proof/Tests/Slice0.lean ====
section
/-! SUPPORT. The model's own tests: ill-formed commands, worked values of the spec, and states that meet the hypotheses of the
statements. -/

open Sys2Proof Sys2Proof.Machine

namespace Sys2Proof.Tests

set_option Elab.async false

/-! A core that runs in a small state. -/

/-- A TLB entry that maps the first GiB onto itself for a world and level. -/
def ent (w : Bool) (lv : Nat) : TlbEnt :=
  { world := w, guest := decide (lv ≤ 1), dom := 0, vmid := 0, asid := 0, glob := false, lg := 30, va := 0, pa := 0,
    r1 := true, w1 := true, x1 := true, u := true, pxn := false, s1en := false, r2 := true, w2 := true, x2 := true, mt := 0,
    mtS2 := false, lv1 := 1, lv2 := 1, ipa := 0 }

/-- A line of the core's L2. -/
def pline (w : Bool) (st : CState) : PLine :=
  { st := st, data := 0x887766554433F211, world := w, dom := 0, way := some 0 }

/-- A core that executes at pc 0 in a world and level, with its first two lines held in state `M`. -/
def coreAt (w : Bool) (lv : Nat) : Core :=
  { run := .running, itlb := [(0, ent w lv)], dtlb := [(0, ent w lv)], lines := [(0, pline w .M), (64, pline w .M)],
    l1d := [((0, 0), ⟨0, w, 0, false, 0, none⟩), ((1, 0), ⟨64, w, 0, false, 0, none⟩)],
    arch := { g := [(1, 64), (2, 3), (3, BitVec.allOnes 64), (4, 0x8000000000000000)], world := w, level := lv } }

/-- Core 0 runs so; 16 GiB of DRAM are populated; the mesh is empty. -/
def stAt (w : Bool) (lv : Nat) : State := { cores := [(0, coreAt w lv)], regs := [(rIlv, 0x8000000000000100)] }

/-- Sealed L3. -/
def st3 : State := stAt true 3

/-- The outcome is a next state that satisfies `f`. -/
def gives (o : Host.Outcome State Fault Refusal) (f : State → Bool) : Bool :=
  match o with
  | .next t => f t
  | _ => false

/-- What a fetch that succeeds gives. -/
theorem fetched_of {p : Nat} {s : State} (h : (fetched p s).isSome = true) :
    fetched p s = some (((fetched p s).get h).1, ((fetched p s).get h).2) := (Option.some_get h).symm

/-- A fetch that succeeds with a context and a state of which `f` holds. -/
def fetchedB (p : Nat) (s : State) (f : Ctx → State → Bool) : Bool :=
  match fetched p s with
  | some (x, s2) => f x s2
  | none => false

theorem fetched_witness {p : Nat} {s : State} {f : Ctx → State → Bool} (h : fetchedB p s f = true) :
    ∃ x s2, fetched p s = some (x, s2) ∧ f x s2 = true := by
  unfold fetchedB at h
  split at h
  · next x s2 e => exact ⟨x, s2, e, h⟩
  · cases h

/-- `State.granted`, as a check. -/
def grantedB (s : State) (x : Ctx) (n : Need) (va pa mt : Nat) : Bool :=
  decide (va < 2 ^ 48) && match (s.core x.p).tlbHits false (regimeOf x x.world x.level) va with
    | [t] => decide (permit t x.level n = none) && decide (t.out va = pa) && decide (t.mt = mt)
    | _ => false

theorem granted_of {s : State} {x : Ctx} {n : Need} {va pa mt : Nat} (h : grantedB s x n va pa mt = true) :
    s.granted x n va pa mt := by
  unfold grantedB at h
  split at h
  · next t e => simp only [Bool.and_eq_true, decide_eq_true_eq] at h; exact ⟨h.1, t, e, h.2.1.1, h.2.1.2, h.2.2⟩
  · simp at h

/-- `State.mayWrite` of a register of a global part. -/
theorem mayWrite_global {s : State} {who : Agent} {r : Reg} {pl : CfgPlace}
    (h : (agentOk who && s.ledgFree && decide (s.setNow = [])) = true)
    (hp : placeOfReg r = some pl) (hw : pl.win = none) (hg : globalRights (s.accOf who) r = some allFields) :
    s.mayWrite who r := by
  simp only [Bool.and_eq_true, decide_eq_true_eq] at h
  exact ⟨h.1.1, h.1.2, by rw [h.2]; rfl, pl, hp, by rw [hw]; exact hg⟩

/-- `State.mayWrite` of a register of a window: the agent owns bank 0, whose selection reaches the register. -/
theorem mayWrite_window {s : State} {who : Agent} {r : Reg} {pl : CfgPlace} {k i : Nat}
    (h : (agentOk who && s.ledgFree && decide (s.setNow = [])) = true) (hp : placeOfReg r = some pl) (hw : pl.win = some (k, i))
    (hb : ((s.accOf who).owns 0 && decide (s.selStatus pl.blk 0 k i = 0)) = true) : s.mayWrite who r := by
  simp only [Bool.and_eq_true, decide_eq_true_eq] at h hb
  exact ⟨h.1.1, h.1.2, by rw [h.2]; rfl, pl, hp, by rw [hw]; exact ⟨hb.1, hb.2, by rw [h.2]; rfl⟩⟩

/-- `State.heldFor`, as a check. -/
def heldB (s : State) (x : Ctx) (pa : Nat) (l : PLine) : Bool :=
  decide (place pa = .dram) && s.dramOk pa && decide ((s.core x.p).line pa = some l) && decide (l.world = x.world) &&
    decide (l.dom = x.dom) && l.way.isSome && !(s.core x.p).refused.contains (lineOf pa) && (s.core x.p).l1dHit x.world x.dom pa &&
    (s.core x.p).flaws.isEmpty && decide (tfind (s.core x.p).early (lineOf pa) = none)

theorem heldFor_of {s : State} {x : Ctx} {pa : Nat} {l : PLine} (h : heldB s x pa l = true) : s.heldFor x pa l := by
  simp only [heldB, Bool.and_eq_true, decide_eq_true_eq, Bool.not_eq_true', List.isEmpty_iff] at h
  obtain ⟨⟨⟨⟨⟨⟨⟨⟨⟨h1, h2⟩, h3⟩, h4⟩, h5⟩, h6⟩, h7⟩, h8⟩, h9⟩, h10⟩ := h
  exact ⟨h1, h2, h3, h4, h5, h6, h7, h8, h9, h10⟩

/-- A context-synchronising event that completes in a state of which `f` holds. -/
def syncB (p : Nat) (s : State) (f : State → Bool) : Bool :=
  match syncContext p s with
  | .ok _ s3 => f s3
  | .error _ _ => false

theorem sync_witness {p : Nat} {s : State} {f : State → Bool} (h : syncB p s f = true) :
    ∃ s3, syncContext p s = .ok () s3 ∧ f s3 = true := by
  unfold syncB at h
  split at h
  · next s3 e => exact ⟨s3, e, h⟩
  · cases h

theorem fetched_sync_witness {p : Nat} {s : State} {f : Ctx → State → State → Bool}
    (h : fetchedB p s (fun x s2 => syncB p s2 (f x s2)) = true) :
    ∃ x s2 s3, fetched p s = some (x, s2) ∧ syncContext p s2 = .ok () s3 ∧ f x s2 s3 = true := by
  obtain ⟨x, s2, e, h2⟩ := fetched_witness h
  obtain ⟨s3, e3, h3⟩ := sync_witness h2
  exact ⟨x, s2, s3, e, e3, h3⟩

/-- No delay slot is pending, and the core does not lead a pair: the usual hypotheses beside a fetch. -/
def quietB (x : Ctx) (s2 : State) : Bool := decide ((s2.core x.p).arch.slot = none) && !s2.leads x.p

/-- A DRAM or boot-ROM region of gatekeeper `i` over the whole address space, for a world and every domain. -/
def region (i : Nat) (w : Bool) : Tab (Nat × Nat × Nat) Word :=
  [((i, 0, 0), setFld (setFld (setFld (setFld 0 mgRgnBase_EN 1) mgRgnBase_WORLD (b2n w)) mgRgnBase_R 1) mgRgnBase_W 1),
   ((i, 0, 1), setFld 0 mgRgnLimit_LIMIT 0xFFFFFFFFF), ((i, 0, 2), BitVec.allOnes 64)]

/-- Channel 0 is trained and active, with a valid key in slot 0 and gatekeeper 0 open to a world. -/
def openDram (w : Bool) (s : State) : State :=
  (({ s with mgAct := region 0 w }.fset ⟨.mcKeyslot, 0, 0⟩ mcKeyslot_STATE 2).fset ⟨.mcStat, 0, 0⟩ mcStat_STATE 1).fset
    ⟨.mcCfg, 0, 0⟩ mcCfg_TRAINED 1

/-- A core of a world and level that holds no line; it fetches from Normal-NC DRAM. -/
def stBare (w : Bool) (lv : Nat) : State := openDram w ((stAt w lv).modCore 0 (fun c =>
  { c with itlb := [(0, { ent w lv with mt := 1 })], lines := [], l1d := [] }))

/-! Ill-formed commands: each check of `Instr.wf` refuses a term. -/

theorem test_wf_core : Instr.wf (.add 1092 1 2 3 false) = false ∧ Instr.wf (.add 1091 1 2 3 false) = true := by decide
theorem test_wf_agent : Instr.wf (.getS 1088 0 false) = false ∧ Instr.wf (.getS 0x842 0 false) = false ∧
    Instr.wf (.getS 0x1100 0 false) = false ∧ Instr.wf (.getS 0x841 0 false) = true := by decide
theorem test_wf_requester : Instr.wf (.ctadjWrite (.rp 16) 0) = false ∧ Instr.wf (.ctadjWrite (.core 1092) 0) = false ∧
    Instr.wf (.ctadjWrite (.rp 15) 0) = true := by decide
theorem test_wf_refuses_1 :
    ([.registerWrite (.rp 16) 0 0 0, .lcnmapWrite .sbc 1024 0, .tiledivWrite .sbc 272 0, .add 1092 0 0 0 false,
      .remotePeatAccess 1088 0, .homeTransactionStart 256 0 .none .none, .getS 1088 0 false, .intDeliver 1028, .bktXfer
      4096, .bktUpd 0 256, .urgencyRaise 0 7 0 0, .urgencyRaise 0 0 4 0, .urgencyRaise 0 0 0 2, .flitEccError 0 4 .corrected,
      .portDrain .sbc 0 8] : List Instr).all (fun c => !c.wf) = true := by decide

theorem test_wf_refuses_2 :
    ([.channelServe 16 .none, .gatekeeperCommit .sbc 35, .generate .sbc 66, .interruptSourceEvent 8192 false,
      .idistTgtCfgWrite .sbc 1028 0, .iotuRequest 4608 0 false 0, .iotuCtxInv .sbc 1024 0, .twinForm .sbc 512, .frameReceive
      32 [] false, .queueEnable .sbc 4096, .descriptorDoorbell .sbc 256 0 0, .fnCfgWrite .sbc 256 0, .firebreakEvent 4096
      .uc 0, .watchExpiry 32, .park .sbc 1092] : List Instr).all (fun c => !c.wf) = true := by decide

theorem test_wf_refuses_3 :
    ([.mapcore 4, .setvWrite .sbc 22 0, .tempSample 18 0, .spLinkUp 4 0, .spLinkUp 0 5] : List Instr).all (fun c => !c.wf) = true := by decide

theorem test_wf_claims : Instr.wf (.claimChange .sbc (.tile 272) 0) = false ∧ Instr.wf (.claimChange .sbc (.fn 4) 0) = false ∧
    Instr.wf (.claimChange .sbc (.key 2) 0) = false ∧ Instr.wf (.claimChange .sbc (.key 1) 0) = true := by decide
theorem test_wf_debug : Instr.wf (.debugAccess (.readPc 1092)) = false ∧ Instr.wf (.debugAccess (.step 1091)) = true := by decide

/-! Instructions: worked values, and states that meet the hypotheses. Expected values are the spec's own words applied to the
registers g1 = 64, g2 = 3, g3 = −1, g4 = −2^63. -/

/-- Hypotheses of AluRegisterResults, ImmediateResults, MultiplyDivideResults, BranchResults, JumpResults, RegisterFile,
ScalarAndFusedFpResults, SimdResults and the other statements about one fetched instruction: sealed L3, and open L0. -/
theorem witness_fetched : ∃ x s2, fetched 0 st3 = some (x, s2) ∧ (quietB x s2 && decide (x.level = 3)) = true :=
  fetched_witness (by decide +kernel)
theorem witness_fetched_open : ∃ x s2, fetched 0 (stAt false 0) = some (x, s2) ∧
    (quietB x s2 && decide (x.level = 0) && !x.world) = true := fetched_witness (by decide +kernel)

theorem test_add : gives (exec (.add 0 5 1 2 false) st3)
    (fun t => (t.core 0).g 5 == 67 && (t.core 0).arch.pc == 4 && (t.core 0).arch.instret == 1) = true := by decide +kernel
/-- R51: a write of g0 is discarded. -/
theorem test_add_g0 : gives (exec (.add 0 0 1 2 false) st3) (fun t => (t.core 0).g 0 == 0) = true := by decide +kernel
/-- R51: an open L0 instruction that names g31 leaves the copy of sealed L3 alone. -/
theorem test_g31_banked : gives (exec (.addi 0 31 0 7 false) (stAt false 0))
    (fun t => (t.core 0).g 31 == 7 && tget 0 (t.core 0).arch.sp (true, 3) == 0) = true := by decide +kernel
theorem test_slt_sltu : gives (exec (.slt 0 5 3 2) st3) (fun t => (t.core 0).g 5 == 1) = true ∧
    gives (exec (.sltu 0 5 3 2) st3) (fun t => (t.core 0).g 5 == 0) = true := by decide +kernel
theorem test_clz_ctz : gives (exec (.clz 0 5 1 0) st3) (fun t => (t.core 0).g 5 == 57) = true ∧
    gives (exec (.ctz 0 5 0 0) st3) (fun t => (t.core 0).g 5 == 64) = true := by decide +kernel
theorem test_addw_wraps : gives (exec (.slliw 0 5 2 31) st3) (fun t => (t.core 0).g 5 == 0xFFFFFFFF80000000) = true := by
  decide +kernel
/-- R59: in a W form a shift amount with bit 5 set is illegal (R56); the exception saves its pc and cause 0. -/
theorem test_slliw_illegal : gives (exec (.slliw 0 5 2 32) st3)
    (fun t => (t.core 0).g 5 == 0 && fld ((t.core 0).crv (lvKey true 3 3)) estat_CAUSE == 0 &&
      fld ((t.core 0).crv (lvKey true 3 3)) estat_PLEVEL == 3) = true := by decide +kernel
theorem test_shift_63 : gives (exec (.slli 0 5 2 63 false) st3) (fun t => (t.core 0).g 5 == 0x8000000000000000) = true := by
  decide +kernel
/-- R62: a zero divisor, and the most negative value over −1. -/
theorem test_div_zero : gives (exec (.div 0 5 1 0 false) st3) (fun t => (t.core 0).g 5 == 0x7FFFFFFFFFFFFFFF) = true ∧
    gives (exec (.div 0 5 4 0 false) st3) (fun t => (t.core 0).g 5 == 0x8000000000000000) = true ∧
    gives (exec (.remu 0 5 1 0) st3) (fun t => (t.core 0).g 5 == 64) = true := by decide +kernel
theorem test_div_min : gives (exec (.div 0 5 4 3 false) st3) (fun t => (t.core 0).g 5 == 0x8000000000000000) = true ∧
    gives (exec (.rem 0 5 4 3) st3) (fun t => (t.core 0).g 5 == 0) = true := by decide +kernel
theorem test_mhss : gives (exec (.mhss 0 5 4 3) st3) (fun t => (t.core 0).g 5 == 0) = true ∧
    gives (exec (.mhuu 0 5 4 3) st3) (fun t => (t.core 0).g 5 == 0x7FFFFFFFFFFFFFFF) = true := by decide +kernel

/-- R67, R68: a taken branch leaves its target for after the delay slot; an annulled slot is skipped. -/
theorem test_branch_taken : gives (exec (.bne 0 1 2 true false 4) st3)
    (fun t => (t.core 0).arch.pc == 4 && decide ((t.core 0).arch.slot = some ⟨0, 16, none, none, []⟩)) = true := by decide +kernel
theorem test_branch_annul : gives (exec (.beq 0 1 2 false true 4 false) st3)
    (fun t => (t.core 0).arch.pc == 8 && decide ((t.core 0).arch.slot = none)) = true := by decide +kernel
theorem test_jal : gives (exec (.jal 0 false 4) st3) (fun t => (t.core 0).g 30 == 8) = true := by decide +kernel

/-- A core with a delay slot pending. -/
def stSlot : State := st3.modCore 0 (fun c => { c with arch := { c.arch with slot := some ⟨0, 16, none, none, []⟩ } })
/-- Hypotheses of IllegalInDelaySlot. -/
theorem witness_IllegalInDelaySlot : (∃ x s2, fetched 0 stSlot = some (x, s2) ∧ (!quietB x s2) = true) ∧
    barredCore (.j 0 false 4 false) = some 0 := ⟨fetched_witness (by decide +kernel), rfl⟩
theorem test_slot_done : gives (exec (.add 0 5 1 2 false) stSlot)
    (fun t => (t.core 0).arch.pc == 16 && decide ((t.core 0).arch.slot = none)) = true := by decide +kernel
theorem witness_RetirementFlow : (coreAt true 3).arch.slot = none ∧ (stSlot.core 0).arch.slot = some ⟨0, 16, none, none, []⟩ := by
  decide +kernel

/-! Exceptions. -/

/-- Hypotheses of ExceptionEntryAndVector, with nothing retired at L3 since the last entry, and otherwise. -/
theorem witness_ExceptionEntryAndVector :
    (∃ s1, syncContext 0 st3 = .ok () s1 ∧ (!st3.leads 0 && !(st3.core 0).fresh.contains 3) = true) ∧
    (∃ s1, syncContext 0 (st3.modCore 0 (fun c => { c with fresh := [3] })) = .ok () s1 ∧
      ((st3.modCore 0 (fun c => { c with fresh := [3] })).core 0).fresh.contains 3 = true) :=
  ⟨sync_witness (by decide +kernel), sync_witness (f := fun _ => ((st3.modCore 0 (fun c => { c with fresh := [3] })).core
    0).fresh.contains 3) (by decide +kernel)⟩
/-- Hypotheses of KcallResults and BreakpointTaken: open L2, open L0, sealed L3. -/
theorem witness_KcallResults : (∃ x s2 s3, fetched 0 (stAt false 2) = some (x, s2) ∧ syncContext 0 s2 = .ok () s3 ∧
      (quietB x s2 && decide (x.level = 2)) = true) ∧
    (∃ x s2 s3, fetched 0 (stAt false 0) = some (x, s2) ∧ syncContext 0 s2 = .ok () s3 ∧
      (quietB x s2 && decide (x.level = 0)) = true) ∧
    (∃ x s2 s3, fetched 0 st3 = some (x, s2) ∧ syncContext 0 s2 = .ok () s3 ∧ (quietB x s2 && decide (x.level = 3)) = true) :=
  ⟨fetched_sync_witness (f := fun x s2 _ => _) (by decide +kernel), fetched_sync_witness (f := fun x s2 _ => _) (by decide +kernel),
   fetched_sync_witness (f := fun x s2 _ => _) (by decide +kernel)⟩
theorem test_kcall : gives (exec (.kcall 0 5 0 false) (stAt false 2))
    (fun t => (t.core 0).arch.world && (t.core 0).arch.level == 3 && fld ((t.core 0).crv (lvKey true 3 2)) epc_PC == 1 &&
      fld ((t.core 0).crv (lvKey true 3 3)) estat_INFO == 5 && fld ((t.core 0).crv (lvKey true 3 3)) estat_PLEVEL == 2) = true := by
  decide +kernel
theorem test_brk : gives (exec (.brk 0 9 0) (stAt false 0))
    (fun t => (t.core 0).arch.level == 1 && fld ((t.core 0).crv (lvKey false 1 3)) estat_INFO == 9 &&
      fld ((t.core 0).crv (lvKey false 1 3)) estat_CAUSE == 0x0D) = true := by decide +kernel

/-- Sealed L3 with `ESTAT` and `EPC` that lead back to sealed L1. -/
def stEret (estat ceil : Word) : State := st3.modCore 0 (fun c => { c with arch := { c.arch with
  cr := [(⟨true, 0x120⟩, ceil), (lvKey true 3 2, 0x100), (lvKey true 3 3, estat)] } })
/-- Hypotheses of EretResults: a return to sealed L1, one to open L2 with nothing sealed left, a refused one, and L0. -/
theorem witness_EretResults :
    (∃ x s2 s3, fetched 0 (stEret (BitVec.ofNat 64 (setBits (setBits 0 estat_PLEVEL.lo 2 1) estat_PWORLD.lo 1 1)) 3) = some (x, s2) ∧
      syncContext 0 s2 = .ok () s3 ∧ (quietB x s2 &&
        decide (fld ((s2.core 0).crv (lvKey x.world x.level 3)) estat_PLEVEL = 1) &&
        decide (fld ((s2.core 0).crv (lvKey x.world x.level 3)) estat_PWORLD = 1) &&
        decide (1 ≤ fld ((s2.core 0).crv ⟨true, 0x120#12⟩) ceiling_MAX)) = true) ∧
    (∃ x s2 s3, fetched 0 (stEret (BitVec.ofNat 64 (setBits (setBits 0 estat_PLEVEL.lo 2 2) estat_PWORLD.lo 1 1)) 3) = some (x, s2) ∧
      syncContext 0 s2 = .ok () s3 ∧ (quietB x s2 &&
        decide (fld ((s2.core 0).crv (lvKey x.world x.level 3)) estat_PLEVEL = 2) &&
        decide (fld ((s2.core 0).crv (lvKey x.world x.level 3)) estat_PWORLD = 1)) = true) :=
  ⟨fetched_sync_witness (f := fun x s2 _ => _) (by decide +kernel), fetched_sync_witness (f := fun x s2 _ => _) (by decide +kernel)⟩
theorem test_eret : gives (exec (.eret 0 0 0) (stEret (BitVec.ofNat 64 (setBits (setBits 0 estat_PLEVEL.lo 2 1) estat_PWORLD.lo 1 1)) 3))
    (fun t => (t.core 0).arch.pc == 0x100 && (t.core 0).arch.level == 1 && (t.core 0).arch.world) = true := by decide +kernel
/-- R103: level 2 does not exist in the sealed world: IRET. -/
theorem test_eret_refused : gives (exec (.eret 0 0 0) (stEret (BitVec.ofNat 64 (setBits (setBits 0 estat_PLEVEL.lo 2 2)
    estat_PWORLD.lo 1 1)) 3)) (fun t => fld ((t.core 0).crv (lvKey true 3 3)) estat_CAUSE == 0x0E) = true := by decide +kernel

/-- Hypotheses of EretResults for the return to the open world: nothing of the sealed world is left to drain. -/
theorem witness_EretResults_open : ∃ x s2 s3, fetched 0 ((stBare true 3).modCore 0 (fun c => { c with arch := { c.arch with
      cr := [(⟨false, 0x120⟩, 2), (lvKey true 3 3, setFld 0 estat_PLEVEL 2)] } })) = some (x, s2) ∧
    syncContext 0 s2 = .ok () s3 ∧ (quietB x s2 && x.world &&
      decide (fld ((s2.core 0).crv (lvKey x.world x.level 3)) estat_PLEVEL = 2) &&
      decide (fld ((s2.core 0).crv (lvKey x.world x.level 3)) estat_PWORLD = 0) &&
      decide (2 ≤ fld ((s2.core 0).crv ⟨false, 0x120#12⟩) ceiling_MAX) && (s3.core 0).sq.isEmpty && !s3.sealedOut 0 &&
      (s3.core 0).lines.isEmpty) = true := fetched_sync_witness (by decide +kernel)

/-! Loads, stores, atomics (R64–R66, R75–R77). -/

/-- Hypotheses of LoadResults: sizes 1 and 16, at the last place in the line where each fits. -/
theorem witness_LoadResults : ∃ x s2, fetched 0 st3 = some (x, s2) ∧ (decide ((s2.core 0).mload = none) &&
    (pline true .M).holds && grantedB s2 x needLoad 63 63 0 && grantedB s2 x needLoad 48 48 0 && heldB s2 x 63 (pline true .M) &&
    (s2.core 0).sq.isEmpty && !poisoned ((s2.core 0).held 63).2 63 1 && !poisoned ((s2.core 0).held 48).2 48 16) = true := fetched_witness (by decide +kernel)
theorem test_ldb_signed : gives (exec (.ldb 0 5 0 1 .none) st3) (fun t => (t.core 0).g 5 == 0xFFFFFFFFFFFFFFF2) = true ∧
    gives (exec (.ldbu 0 5 0 1 .none) st3) (fun t => (t.core 0).g 5 == 0xF2) = true := by decide +kernel
theorem test_ldd : gives (exec (.ldd 0 5 1 (-64) .none false) st3) (fun t => (t.core 0).g 5 == 0x887766554433F211) = true := by
  decide +kernel
/-- R65, R66: Normal memory takes a misaligned scalar, also over two lines; a misaligned 16 bytes raises cause 3. -/
theorem test_misaligned : gives (exec (.ldh 0 5 0 1 .none) st3) (fun t => (t.core 0).g 5 == 0x33F2) = true ∧
    gives (exec (.ldd 0 5 0 60 .none false) st3) (fun t => (t.core 0).g 5 == 0x4433F21100000000) = true ∧
    gives (exec (.fld 0 5 2 3 0 .none false) st3) (fun t => fld ((t.core 0).crv (lvKey true 3 3)) estat_CAUSE == 3 &&
      fld ((t.core 0).crv (lvKey true 3 4)) eaddr_ADDR == 3) = true := by decide +kernel
theorem test_fld_clears : gives (exec (.fld 0 5 0 0 0 .none false)
    (st3.modCore 0 (fun c => c.setF 5 (BitVec.allOnes 128)))) (fun t => (t.core 0).fr 5 == 0xF211) = true := by decide +kernel
/-- Hypotheses of LoadResults and StoreResults where an access covers two lines, and where it traps (16 bytes at 3). -/
theorem witness_misaligned : ∃ x s2, fetched 0 st3 = some (x, s2) ∧ (grantedB s2 x needLoad 60 60 0 && heldB s2 x 60 (pline true .M) &&
    heldB s2 x 64 (pline true .M) && grantedB s2 x needStore 57 57 0 && grantedB s2 x needLoad 3 3 0 &&
    decide (3 % 16 ≠ 0) && decide (((s2.core 0).held 60).2 = 0) && decide (((s2.core 0).held 64).2 = 0)) = true :=
  fetched_witness (by decide +kernel)
/-- Core 0 at sealed L3, whose data accesses see a memory type other than Normal-WB. -/
def stType (mt : Nat) : State := st3.modCore 0 (fun c => { c with dtlb := [(0, { ent true 3 with mt := mt })] })
/-- Hypotheses of LoadResults, StoreResults, ExclusiveResults and AtomicResults where a misaligned access to Device memory traps,
and where the memory type does. -/
theorem witness_device : ∃ x s2, fetched 0 (stType 3) = some (x, s2) ∧ (quietB x s2 && grantedB s2 x needLoad 1 1 3 &&
    grantedB s2 x needStore 61 61 3 && grantedB s2 x needAmo 64 64 3 && grantedB s2 x needLoad 64 64 3) = true :=
  fetched_witness (by decide +kernel)
theorem test_device_misaligned : gives (exec (.ldh 0 5 0 1 .none) (stType 3)) (fun t =>
    fld ((t.core 0).crv (lvKey true 3 3)) estat_CAUSE == 3) = true ∧ gives (exec (.atswp 0 5 1 2 3 false false 0 .none) (stType 3))
    (fun t => fld ((t.core 0).crv (lvKey true 3 3)) estat_CAUSE == 4) = true := by decide +kernel
/-- Hypotheses of StoreResults: sizes 1 and 16. -/
theorem witness_StoreResults : ∃ x s2, fetched 0 st3 = some (x, s2) ∧ (quietB x s2 && (s2.core 0).sq.isEmpty &&
    (pline true .M).writable && grantedB s2 x needStore 127 127 0 && grantedB s2 x needStore 112 112 0 &&
    heldB s2 x 112 (pline true .M) && decide ((s2.core 0).sq.length < 55)) = true := fetched_witness (by decide +kernel)
theorem test_stb : gives (exec (.stb 0 3 1 5) st3) (fun t => decide (((t.core 0).sq.map (fun e => (e.va, e.pa, e.size, e.data))) =
    [(69, 69, 1, 0xFF)]) && decide (t.mem = [])) = true := by decide +kernel

/-- A queued store of 4 bytes to the line at 64. -/
def qent : SqEnt :=
  { va := 64, pa := 64, size := 4, data := 0xAABBCCDD, world := true, dom := 0, nc := false, ord := false }
/-- A core with a queued store. -/
def stQueued : State := st3.modCore 0 (fun c => { c with sq := [qent] })
/-- Hypotheses of StoresAndMergedLoadsReachL1D, stores. -/
theorem witness_StoreReachesL1D : ∃ e l, (stQueued.core 0).sq[0]? = some e ∧ (stQueued.core 0).line e.pa = some l ∧
    (stQueued.mayDrain 0 0 e && decide (e.size ≠ 0) && decide (place e.pa = .dram) && !e.nc &&
      !(stQueued.core 0).refused.contains (lineOf e.pa) && decide (l.world = e.world) && decide (l.dom = e.dom) && l.way.isSome &&
      l.writable && decide (l.st = .M) && (stQueued.core 0).l1dHit e.world e.dom e.pa && (stQueued.core 0).flaws.isEmpty) = true := ⟨qent, pline true .M, by decide +kernel, by decide +kernel, by decide +kernel⟩
theorem test_store_drains : gives (exec (.storeWriteL1d 0 0 .none) stQueued) (fun t => (t.core 0).sq.isEmpty &&
    decide (((t.core 0).line 64).map (fun l => l.data) = some 0x88776655AABBCCDD)) = true := by decide +kernel
/-- A core whose load from 64 waits for overlapping stores that have drained. -/
def stMload : State := st3.modCore 0 (fun c => { c with mload := some ⟨false, 5, 64, 64, 8, false⟩ })
/-- Hypotheses of StoresAndMergedLoadsReachL1D, merged loads. -/
theorem witness_MergedLoadCompletes : (match ready 0 stMload with
    | some (x, s1) => decide ((s1.core 0).busy = .access) && decide ((s1.core 0).lateAbort = none) && !stMload.due 0 && (match fetchCheck x s1 with
      | .ok _ s2 => decide ((s2.core 0).deciding 64 8 = none) && !poisoned ((s2.core 0).held 64).2 0 8 && heldB s2 x 64 (pline true .M) && decide ((s2.core 0).mload ≠ none)
      | .error _ _ => false)
    | none => false) = true := by decide +kernel
theorem test_merged_load : gives (exec (.mergedLoadComplete 0) stMload) (fun t => (t.core 0).g 5 == 0x887766554433F211 &&
    decide ((t.core 0).mload = none)) = true := by decide +kernel

/-- Hypotheses of ExclusiveResults and AtomicResults, with the monitor armed for the line and size and without it. -/
theorem witness_ExclusiveResults : ∃ x s2, fetched 0 st3 = some (x, s2) ∧ (quietB x s2 && (s2.core 0).sq.isEmpty &&
    (s2.core 0).deferred.isEmpty && !s2.postedOut 0 && heldB s2 x 64 (pline true .M) && decide ((pline true .M).st = .M) &&
    decide (((s2.core 0).held 64).2 = 0) && !(s2.core 0).lostPend && decide (((s2.core 0).g 1).toNat = 64) && grantedB s2 x needLoad 64 64 0 &&
    grantedB s2 x needStore 64 64 0 && grantedB s2 x needAmo 64 64 0 && decide ((s2.core 0).monitor = none)) = true :=
  fetched_witness (by decide +kernel)
/-- Core 0 with its monitor armed for 8 bytes at 64. -/
def stArmed : State := st3.modCore 0 (fun c => { c with monitor := some (64, 8), defers := [(64, 64)] })
theorem witness_ExclusiveResults_armed : ∃ x s2, fetched 0 stArmed = some (x, s2) ∧
    (quietB x s2 && decide ((s2.core 0).monitor = some (lineOf 64, 2 ^ 3))) = true := fetched_witness (by decide +kernel)
theorem test_ldx : gives (exec (.ldx 0 5 1 0 3 false false 0 .none) st3) (fun t => (t.core 0).g 5 == 0x887766554433F211 &&
    decide ((t.core 0).monitor = some (64, 8))) = true := by decide +kernel
theorem test_stx : gives (exec (.stx 0 5 1 2 3 false false 0 .none) stArmed) (fun t => (t.core 0).g 5 == 0 &&
    decide ((t.core 0).monitor = none) && decide (((t.core 0).line 64).map (fun l => l.data) = some 3)) = true ∧
    gives (exec (.stx 0 5 1 2 3 false false 0 .none) st3) (fun t => (t.core 0).g 5 == 1 &&
    decide (((t.core 0).line 64).map (fun l => l.data) = some 0x887766554433F211)) = true := by decide +kernel
/-- R75: ATADD at size 1 wraps within the byte; ATSMAX compares signed at the size; ATCAS stores only on a match. -/
theorem test_atadd_byte : gives (exec (.atadd 0 5 1 3 0 false false 0 .none false) st3) (fun t => (t.core 0).g 5 == 0x11 &&
    decide (((t.core 0).line 64).map (fun l => l.data) = some 0x887766554433F210)) = true := by decide +kernel
theorem test_atsmax : gives (exec (.atsmax 0 5 1 2 3 false false 0 .none) st3) (fun t => (t.core 0).g 5 == 0x887766554433F211 &&
    decide (((t.core 0).line 64).map (fun l => l.data) = some 3)) = true := by decide +kernel
theorem test_atcas : gives (exec (.atcas 0 5 1 2 3 false false 0 .none) st3) (fun t => (t.core 0).g 5 == 0x887766554433F211 &&
    decide (((t.core 0).line 64).map (fun l => l.data) = some 0x887766554433F211)) = true := by decide +kernel

/-! Block instructions, cache and TLB maintenance (R79–R83, R202–R205, R235–R242). -/

/-- A core whose g6 = 64, g7 = 0 and g8 = 64 serve as pointers and length. -/
def stBlk : State := st3.modCore 0 (fun c => { c with arch := { c.arch with g := [(6, 64), (7, 0), (8, 64), (9, 128)] } })
/-- Hypotheses of BlockUnitResults: one unit of 64 bytes from 0 to 64. -/
theorem witness_BlockUnitResults : ∃ x s2, fetched 0 stBlk = some (x, s2) ∧ (quietB x s2 && (s2.core 0).sq.isEmpty &&
    decide (((s2.core 0).g 6).toNat = 64) && decide (((s2.core 0).g 8).toNat = 64) && grantedB s2 x needStore 64 64 0 &&
    heldB s2 x 64 (pline true .M) && (pline true .M).writable && grantedB s2 x needLoad 0 0 0 &&
    heldB s2 x 0 (pline true .M) && (pline true .M).holds && !s2.postedOut 0 && decide (((s2.core 0).held 0).2 = 0)) = true := fetched_witness (by decide +kernel)
theorem test_bcopy_last : gives (exec (.bcopy 0 6 10 8 .none false) stBlk) (fun t => decide ((t.core 0).arch.pc = 4) &&
    (t.core 0).g 6 == 128 && (t.core 0).g 10 == 64 && (t.core 0).g 8 == 0 && (t.core 0).sq.length == 8) = true := by decide +kernel
theorem test_bfill_part : gives (exec (.bfill 0 6 7 9) stBlk) (fun t => (t.core 0).arch.pc == 0 && (t.core 0).g 6 == 128 &&
    (t.core 0).g 9 == 64 && (t.core 0).arch.instret == 0) = true := by decide +kernel

/-- Hypotheses of CacheLineOps and ZeroAndPrefetch: line 64 held, line 128 not held, an address that does not translate. -/
theorem witness_CacheLineOps : ∃ x s2, fetched 0 st3 = some (x, s2) ∧ (quietB x s2 && (s2.core 0).sq.isEmpty &&
    decide (place 64 = .dram) && s2.dramOk 64 && grantedB s2 x needLoad 64 64 0 && grantedB s2 x needStore 64 64 0 &&
    decide (((s2.core 0).g 1).toNat = 64) && heldB s2 x 64 (pline true .M) && !(pline true .M).st.asked && decide ((s2.core 0).openMisses < 48) &&
    decide (s2.anyFence = false ∧ s2.linkOld = []) && decide (2 ^ 48 ≤ ((s2.core 0).g 3).toNat) && decide (1 ≤ x.level)) = true :=
  fetched_witness (by decide +kernel)
theorem witness_ZeroAndPrefetch_miss : ∃ x s2, fetched 0 stBlk = some (x, s2) ∧ (decide ((s2.core 0).line 128 = none) &&
    decide (((s2.core 0).g 9).toNat = 128) && grantedB s2 x needLoad 128 128 0 && grantedB s2 x needStore 128 128 0 &&
    s2.dramOk (lineOf 128)) = true := fetched_witness (by decide +kernel)
/-- Hypotheses of CacheLineOps, retirement: the answer has arrived. -/
theorem witness_CacheLineOps_retire : (match ready 0 (st3.modCore 0 (fun c => { c with cmo := some (64, true) })) with
    | some (x, s1) => decide ((s1.core 0).busy = .cmo) && !st3.due 0 && decide ((s1.core 0).lateAbort = none) && (match fetchCheck x s1 with
      | .ok _ s2 => quietB x s2 && decide ((s2.core 0).cmo = some (64, true)) && grantedB s2 x needLoad 64 64 0 &&
          grantedB s2 x needStore 64 64 0
      | .error _ _ => false)
    | none => false) = true := by decide +kernel
theorem test_dclean_sends : gives (exec (.dcleanM 0 0 1 0) st3) (fun t => decide (t.net.map (fun m => (m.opc, m.pa, m.point)) =
    [(.cmoReq, 64, true)]) && decide ((t.core 0).cmo = some (64, false)) && (t.core 0).arch.pc == 0) = true := by decide +kernel
theorem test_dinv_level0 : gives (exec (.dinvP 0 0 1 0) (stAt false 0)) (fun t => decide (t.net = []) &&
    fld ((t.core 0).crv (lvKey false 1 3)) estat_CAUSE == 1) = true := by decide +kernel
theorem test_dzero : gives (exec (.dzero 0 0 1 0 false) st3) (fun t => decide (((t.core 0).line 64).map (fun l => (l.data, l.st)) =
    some (0, .M))) = true := by decide +kernel
theorem test_prefr_miss : gives (exec (.prefr 0 0 9 0) stBlk) (fun t => decide (t.net.map (fun m => (m.opc, m.pa, m.spec)) =
    [(.getS, 128, true)]) && (t.core 0).arch.pc == 4) = true := by decide +kernel

/-- Hypotheses of RangeEngine: an idle engine, and a busy one at a line that its home grants. -/
theorem witness_RangeEngine : ∃ x s2, fetched 0 stBlk = some (x, s2) ∧ (quietB x s2 && decide (1 ≤ x.level) &&
    !(s2.core 0).range.busy && decide (((s2.core 0).g 6).toNat % 64 = 0) && decide (((s2.core 0).g 9).toNat = 128)) = true :=
  fetched_witness (by decide +kernel)
/-- An engine that cleans to the point of memory, at the line 128. -/
def stRange (w : Bool) : State := (stBare w 3).modCore 0 (fun c => { c with range :=
  { busy := true, pos := 128, stop := 256, next := 128, op := 0, point := true, world := true, dom := 0, level := 3, s2 := false } })
/-- Hypotheses of RangeEngine: a busy engine with no line in progress, and with one. -/
theorem witness_RangeEngine_busy : ∃ x s2, fetched 0 (stRange true) = some (x, s2) ∧ (quietB x s2 && (s2.core 0).range.busy &&
    decide ((s2.core 0).range.bad = none) && (s2.core 0).range.due.isEmpty && decide (1 ≤ x.level)) = true :=
  fetched_witness (by decide +kernel)
theorem witness_RangeEngine_due : ∃ x s2, fetched 0 ((stRange true).modCore 0 (fun c =>
      { c with range := { c.range with due := [(128, 128)], next := 192 } })) = some (x, s2) ∧
    (quietB x s2 && (s2.core 0).range.busy && !(s2.core 0).range.due.isEmpty) = true := fetched_witness (by decide +kernel)
/-- The line is asked for at point .M, refused, passed over at point .P, and asked for there when the core holds it. -/
theorem witness_RangeEngine_line : (((stRange true).core 0).range.busy && decide ((stRange true).anyFence = false ∧ (stRange true).linkOld = []) &&
    decide (((stRange true).core 0).range.next < ((stRange true).core 0).range.stop) && !((stRange true).core 0).range.stopping &&
    decide (((stRange true).core 0).range.out.length < 16) && decide (((stRange true).core 0).line 128 = none) && (match (stRange true).rangeXlate 0 ((stRange true).core 0).range with
    | .ok pa => decide (pa = 128)
    | .error _ => false) && (stRange true).dramOk 128 &&
    decide ((stRange true).verdict ((stRange true).dramGate 128) true 0 true false 128 64 = none) &&
    decide ((stRange false).verdict ((stRange false).dramGate 128) true 0 true false 128 64 = some 0)) = true := by decide +kernel
theorem test_rclean : gives (exec (.rcleanM 0 5 6 9) stBlk) (fun t => (t.core 0).g 5 == 0 && (t.core 0).range.busy &&
    (t.core 0).range.pos == 64 && (t.core 0).range.stop == 192) = true := by decide +kernel
theorem test_range_line : gives (exec (.rangeEngineLine 0) (stRange true)) (fun t => (t.core 0).range.next == 192 &&
    (t.core 0).range.pos == 128 && decide ((t.core 0).range.out = [128]) && decide ((t.core 0).range.due = [(128, 128)])) = true ∧ gives (exec (.rangeEngineLine 0) (stRange false)) (fun t =>
    !(t.core 0).range.busy && (t.core 0).range.err && (t.core 0).range.ekind == 2) = true := by decide +kernel

/-- Hypotheses of TlbMaintenance, and R202: TLBIHVA removes the entry of the page and no entry of another regime. -/
theorem witness_TlbMaintenance : ∃ x s2, fetched 0 st3 = some (x, s2) ∧ (quietB x s2 && decide (3 ≤ x.level) &&
    decide (s2.anyFence = false ∧ s2.linkOld = []) && decide ((s2.core 0).tlbOut = 0) && decide (((s2.core 0).g 2).toNat < 2 ^ 12)) =
    true := fetched_witness (by decide +kernel)
theorem test_tlbihva : gives (exec (.tlbihva 0 0 1 0 false) st3) (fun t => (t.core 0).dtlb.isEmpty && (t.core 0).itlb.isEmpty) =
    true ∧ gives (exec (.tlbivmall 0 0 0 0 false) st3) (fun t => (t.core 0).dtlb.length == 1) = true := by decide +kernel
theorem test_tlbi_priv : gives (exec (.tlbivmall 0 0 0 0 false) (stAt false 0)) (fun t =>
    fld ((t.core 0).crv (lvKey false 1 3)) estat_CAUSE == 1) = true := by decide +kernel

/-! Floating point and SIMD (R84–R88). The encodings are those of IEEE 754: binary64 1.0 = 0x3FF0…, 2.0 = 0x4000…. -/

/-- f1 = 1.0, f2 = 2.0, f3 = a signalling NaN, f4 = the largest finite binary64. -/
def stFp : State := st3.modCore 0 (fun c => { c with arch := { c.arch with f := [(1, 0x3FF0000000000000), (2, 0x4000000000000000),
  (3, 0x7FF0000000000001), (4, 0x7FEFFFFFFFFFFFFF)] } })
theorem test_fadd : gives (exec (.fadd 0 5 1 2 2 false) stFp) (fun t => (t.core 0).fr 5 == 0x4008000000000000) = true := by
  decide +kernel
/-- R85: the result of a NaN is the canonical quiet NaN, and a signalling one sets NV. -/
theorem test_fadd_nan : gives (exec (.fadd 0 5 1 3 2 false) stFp) (fun t => (t.core 0).fr 5 == 0x7FF8000000000000 &&
    fld ((t.core 0).crv fpsrKey) fpsr_NV == 1) = true := by decide +kernel
theorem test_fmul_overflow : gives (exec (.fmul 0 5 4 2 2) stFp) (fun t => (t.core 0).fr 5 == 0x7FF0000000000000 &&
    fld ((t.core 0).crv fpsrKey) fpsr_OF == 1 && fld ((t.core 0).crv fpsrKey) fpsr_NX == 1) = true := by decide +kernel
theorem test_fdiv_third : gives (exec (.fdiv 0 5 1 6 2) (stFp.modCore 0 (fun c => c.setF 6 0x4008000000000000)))
    (fun t => (t.core 0).fr 5 == 0x3FD5555555555555) = true := by decide +kernel
theorem test_fcvtgs_nan : gives (exec (.fcvtgs 0 5 3 0 2) stFp) (fun t => (t.core 0).g 5 == 0 &&
    fld ((t.core 0).crv fpsrKey) fpsr_NV == 1) = true := by decide +kernel
theorem test_fmadd : gives (exec (.fmadd 0 5 2 2 1 2 0 false) stFp) (fun t => (t.core 0).fr 5 == 0x4014000000000000) = true := by
  decide +kernel
/-- Hypotheses of FpNaNsAndWidths: a quiet and a signalling NaN operand, and operands that fit. -/
theorem witness_FpNaNsAndWidths : (fpDecode (fmtOf 2) 0x7FF0000000000001).isNaN = true ∧
    (fpDecode (fmtOf 2) 0x7FF0000000000001).isSig = true ∧ (fpDecode (fmtOf 0) 0x7E00).isNaN = true ∧
    (fpDecode (fmtOf 0) 0x7E00).isSig = false ∧ 0x3C00 < 2 ^ (fmtOf 0).width := by decide +kernel
theorem test_vadd_lanes : gives (exec (.vadd 0 5 1 2 0 false) (st3.modCore 0 (fun c => (c.setF 1 0xFF01).setF 2 0x0101)))
    (fun t => (t.core 0).fr 5 == 0x0002) = true := by decide +kernel
theorem test_vaddss : gives (exec (.vaddss 0 5 1 2 0) (st3.modCore 0 (fun c => (c.setF 1 0x807F).setF 2 0xFF01)))
    (fun t => (t.core 0).fr 5 == 0x807F) = true := by decide +kernel
theorem test_vmovgl_range : gives (exec (.vmovgl 0 5 1 2 3) stFp) (fun t => fld ((t.core 0).crv (lvKey true 3 3)) estat_CAUSE == 0 &&
    (t.core 0).g 5 == 0) = true ∧ gives (exec (.vmovgl 0 5 2 0 3) stFp) (fun t => (t.core 0).g 5 == 0x4000000000000000) = true := by
  decide +kernel

/-! System instructions, gates, interrupts (R77, R89–R101, R133, R134, R154–R167, R226, R354, R355). -/

/-- A field of a control register of core 0. -/
def estB (t : State) (w : Bool) (lv : Nat) (f : Fld) : Nat := fld ((t.core 0).crv (lvKey w lv 3)) f

/-- Hypotheses of SystemResultsAndShield, at the lowest level and the highest. -/
theorem witness_SystemResults : ∃ x s2 s3, fetched 0 st3 = some (x, s2) ∧ syncContext 0 s2 = .ok () s3 ∧ (quietB x s2 &&
    decide (1 ≤ x.level) && (s2.core 0).sq.isEmpty && !s2.postedOut 0 && !(s2.core 0).lostPend && (s2.core 0).deferred.isEmpty) = true := fetched_sync_witness (by decide +kernel)
/-- A store still queued, for FENCE SS, and a WFI with and without something that wakes it. -/
theorem witness_SystemResults_queued : ∃ x s2, fetched 0 stQueued = some (x, s2) ∧ (quietB x s2 && !(s2.core 0).sq.isEmpty &&
    decide ((s2.core 0).sq.length < 56) && !(s2.core 0).lostPend) = true := fetched_witness (by decide +kernel)
theorem witness_SystemResults_wfi : (match ready 0 st3 with
    | some (x, s1) => decide ((s1.core 0).busy = .idle) && decide ((s1.core 0).lateAbort = none) && decide (1 ≤ x.level) &&
      (match fetchCheck x s1 with
       | .ok _ s2 => quietB x s2 && !s2.wakes 0 && (s2.modCore 0 (fun c => { c with nmiLatch := true })).wakes 0
       | .error _ _ => false)
    | none => false) = true := by decide +kernel
theorem witness_SystemResults_user : ∃ x s2 s3, fetched 0 (stAt false 0) = some (x, s2) ∧ syncContext 0 s2 = .ok () s3 ∧
    (quietB x s2 && decide (x.level = 0)) = true := fetched_sync_witness (by decide +kernel)
theorem test_wfi_user : gives (exec (.wfi 0 0 0) (stAt false 0)) (fun t => estB t false 1 estat_CAUSE == 1) = true := by
  decide +kernel
theorem test_fence_zero : gives (exec (.fence 0 0 0 false) st3) (fun t => estB t true 3 estat_CAUSE == 0 && (t.core 0).arch.pc != 4)
    = true ∧ gives (exec (.fence 0 15 0 false) st3) (fun t => (t.core 0).arch.pc == 4) = true := by decide +kernel
/-- A core under a shield that has run down, and one whose deferred interrupt has waited as long as it may. -/
def coreShield (n d : Nat) : Core := { coreAt true 1 with shOn := true, shield := n, shRec := d, shDefs := [((1, 40), d)], intView := 0 }
def stShield (n d : Nat) : State := { stAt true 1 with cores := [(0, coreShield n d)] }
theorem witness_ShieldEnds : ((stShield 0 5).core 0).shOn = true ∧ ((stShield 0 5).core 0).shield = 0 ∧
    ((stShield 7 5).intPick 0).isSome = true ∧ ((stShield 7 5).core 0).shield ≠ 0 ∧
    ∃ e ∈ ((stShield 7 5).core 0).shDefs, ((stShield 7 5).core 0).shRec ≤ e.2 := by decide +kernel
theorem test_shield_ends : gives (exec (.shieldExpiry 0) (stShield 0 5)) (fun t => !(t.core 0).shOn) = true ∧ gives (exec (.shieldDeferLimit 0) (stShield 7 5)) (fun t => !(t.core 0).shOn) = true ∧
    gives (exec (.shieldExpiry 0) (stShield 7 5)) (fun t => (t.core 0).shOn) = true := by decide +kernel

/-- Hypotheses of ControlRegisters: a number outside the table, one of 0x300–0x3FF, and one of each kind. -/
theorem witness_ControlRegisters : ∃ x s2, fetched 0 st3 = some (x, s2) ∧ (decide (x.level = 3) &&
    (crInfo 0xFFF).isNone && (crInfo 0x004).isSome && (crInfo 0x105).isSome && (crInfo 0x300).isSome &&
    (s2.core 0).arch.crOld.isEmpty) = true := fetched_witness (by decide +kernel)
theorem witness_ControlRegisters_open : ∃ x s2, fetched 0 (stAt false 1) = some (x, s2) ∧ (!x.world && decide (1 ≤ x.level) &&
    decide (x.level < 3)) = true := fetched_witness (by decide +kernel)
theorem test_mtc_tpid : gives (exec (.mtc 0 0 2 0x004) st3) (fun t => t.crRead 0 ⟨true, 0x004⟩ == 3 &&
    t.crRead 0 ⟨false, 0x004⟩ == 0) = true := by decide +kernel
theorem test_mfc_sealed_only : gives (exec (.mfc 0 5 0 0x300 false) (stAt false 2)) (fun t => estB t false 2 estat_CAUSE == 0 &&
    (t.core 0).arch.pc != 4) = true := by decide +kernel

/-- Hypotheses of SpecialRegisterRows: g3 has every bit set; g2 asks for three units of Peat. -/
theorem witness_SpecialRegisterRows : ∃ x s2, fetched 0 st3 = some (x, s2) ∧ (decide (1 ≤ x.level) && decide (x.level = 3) &&
    ((s2.core 0).g 3).getLsbD 8 && x.world && decide (fld ((s2.core 0).g 2) peatcfg_SIZE = 3) &&
    decide (fld ((s2.core 0).g 2) peatcfg_SIZE ≠ (s2.core 0).crFld ⟨true, 0x111⟩ peatcfg_SIZE)) = true :=
  fetched_witness (by decide +kernel)
theorem witness_SpecialRegisterRows_open : ∃ x s2, fetched 0 (stAt false 2) = some (x, s2) ∧ (!x.world && decide (x.level = 2) &&
    decide (fld ((s2.core 0).g 2) peatcfg_SIZE + (s2.core 0).crFld ⟨true, 0x111⟩ peatcfg_SIZE ≤ 4)) = true :=
  fetched_witness (by decide +kernel)
/-- An open world that holds two units of Peat. -/
def stPeat : State := (stAt true 3).modCore 0 (fun c => { c with arch := { c.arch with cr := [(⟨false, 0x111⟩, setFld (setFld 0 peatcfg_SIZE 2) peatcfg_CUR 2)] } })
theorem witness_PeatTaken : (stPeat.core 0).peatUnits false ≠ 0 := by decide +kernel
theorem test_peatcfg_taken : gives (exec (.peatcfgWrite 0 2 false) stPeat) (fun t => (t.core 0).crFld ⟨true, 0x111⟩ peatcfg_SIZE == 3 &&
    (t.core 0).crFld ⟨false, 0x111⟩ peatcfg_SIZE == 0 && (t.core 0).crFld ⟨false, 0x111⟩ peatcfg_LOST == 1) = true := by decide +kernel

/-- A gate table at 0x100 with one valid entry to L1 with two arguments and the target 0x200; a frame with the same mark. -/
def gateLine : Line := 1#512 ||| 0x200#512 ||| 1#512 <<< 48 ||| 2#512 <<< 52 ||| 0x400#512 <<< 64
/-- Open L0 before a gate call. -/
def stGate : State := (stAt false 0).modCore 0 (fun c => { c with
  lines := [(0, pline false .M), (64, pline false .M), (0x100, { pline false .M with data := gateLine, way := some 1 }),
    (0x3C0, { pline false .M with way := some 1 })],
  l1d := [((0, 0), ⟨0, false, 0, false, 0, none⟩), ((1, 0), ⟨64, false, 0, false, 0, none⟩),
    ((4, 0), ⟨0x100, false, 0, false, 0, none⟩), ((15, 0), ⟨0x3C0, false, 0, false, 0, none⟩)],
  arch := { c.arch with cr := [(⟨false, 0x101⟩, setFld (setFld 0 gtb_EN 1) gtb_BASE 8)] } })
/-- The four doublewords of an entry or frame as its owner reads them. -/
def readsB (y : Ctx) (a : Nat) (bad : InsnM (Word × Nat)) (s : State) (f : GateEnt → Nat → State → Bool) : Bool :=
  match readFour y a bad s with
  | .ok ((d0, d1, d2, d3), k) t => f ⟨d0, d1, d2, d3⟩ k t
  | .error _ _ => false
/-- Hypotheses of GateCallResults: the entry reads, the checks pass, the frame is written. -/
theorem witness_GateCallResults : ∃ x s2 s3, fetched 0 stGate = some (x, s2) ∧ syncContext 0 s2 = .ok () s3 ∧ (quietB x s2 &&
    decide (x.level ≤ 1) && (let y : Ctx := { x with eff := (s3.core 0).arch.cr }
      readsB y 0x100 (gfault 2 0x100 2) s3 (fun e n sr => e.valid && decide (e.d0 = 0x21000000000201) && decide (e.sp = 0x400) &&
        decide ((sr.core 0).crFld (lvKey x.world 1 3) (gdl 1) < 255) && (List.range 4).all (fun k => match gateProbe y e k sr with
          | .ok _ t => decide (t = sr)
          | .error _ _ => false) &&
        (match store { y with level := 1 } 9 0x3E0 32 4 true false n sr with
          | .ok _ _ => true
          | .error _ _ => false)))) = true := fetched_sync_witness (by decide +kernel)
theorem test_gcall : gives (exec (.gcall 0 0 0) stGate) (fun t => (t.core 0).arch.pc == 0x200 && (t.core 0).arch.level == 1 &&
    (t.core 0).g 31 == 0x3E0 && (t.core 0).g 2 == 3 && (t.core 0).g 3 == 0 && estB t false 1 estat_GDL1 == 1) = true := by
  decide +kernel
theorem test_gcall_above_last : gives (exec (.gcall 0 1 0) stGate) (fun t => estB t false 1 estat_CAUSE == 0x0F &&
    estB t false 1 estat_INFO == 0) = true := by decide +kernel
/-- Open L1 in a gate call that came from pc 0x1000 at L0; its frame is at 64. -/
def stGret : State := (stAt false 1).modCore 0 (fun c => { c with
  lines := [(0, pline false .M), (64, { pline false .M with data := 0x1000#512 ||| 0x777#512 <<< 64 })],
  arch := { c.arch with sp := [((false, 1), 64)], cr := [(lvKey false 1 3, setFld 0 estat_GDL1 1)] } })
/-- Hypotheses of GateReturnResults: a good frame. -/
theorem witness_GateReturnResults : ∃ x s2 s3, fetched 0 stGret = some (x, s2) ∧ syncContext 0 s2 = .ok () s3 ∧ (quietB x s2 &&
    decide (x.level ≤ 1) && decide ((s3.core 0).crFld (lvKey x.world 1 3) (gdl x.level) ≠ 0) &&
    readsB { x with eff := (s3.core 0).arch.cr } 64 iret s3 (fun e _ _ => decide (e.d2 = 0) && decide (e.d3 = 0))) = true :=
  fetched_sync_witness (by decide +kernel)
theorem test_gret : gives (exec (.gret 0 0 0) stGret) (fun t => (t.core 0).arch.pc == 0x1000 && (t.core 0).arch.level == 0 &&
    (t.core 0).g 31 == 0x777 && estB t false 1 estat_GDL1 == 0) = true ∧
    gives (exec (.gret 0 0 0) (stAt false 1)) (fun t => estB t false 1 estat_CAUSE == 0x0E) = true := by decide +kernel
/-- A core of a world at L1 whose pc is behind the mark of a gateway page. -/
def stGateway (w : Bool) : State := (stAt w 1).modCore 0 (fun c => { c with
  lines := [(0, { pline w .M with data := 0xEC5AA5C3#512 <<< 224 })],
  arch := { c.arch with pc := 0x20, cr := [(⟨true, 0x315⟩, 1), (⟨true, 0x318⟩, setFld 0 kgwb_EN 1)] } })
/-- The mark before the pc reads as it must, and nothing else changes. -/
def markB (x : Ctx) (s2 : State) : Bool :=
  (match translate x x.world x.level true ⟨false, false, true⟩ x.pc.toNat 1 s2 with
   | .ok q t => decide (q.pa = 0x20) && decide (q.mt = 0) && decide (t = s2)
   | .error _ _ => false) &&
  (match readMark x ⟨0x20, 0⟩ s2 with
   | .ok _ t => decide (t = s2)
   | .error _ _ => false)
/-- Hypotheses of GatewayResults, in both worlds, and outside a gateway page. -/
theorem witness_GatewayResults : ∃ x s2 s3, fetched 0 (stGateway false) = some (x, s2) ∧ syncContext 0 s2 = .ok () s3 ∧
    (quietB x s2 && decide (x.pc.toNat % 4096 ≠ 0) && markB x s2 && !x.world && decide (x.level ≤ 1) && x.gateway 0x20 &&
    !x.gateway 0x1000) = true := fetched_sync_witness (by decide +kernel)
theorem witness_GatewayResults_sealed : ∃ x s2, fetched 0 (stGateway true) = some (x, s2) ∧ (quietB x s2 && markB x s2 &&
    x.world) = true := fetched_witness (by decide +kernel)
theorem test_gate : gives (exec (.gate 0 0 0 false) (stGateway false)) (fun t => (t.core 0).arch.world && (t.core 0).arch.level == 1 &&
    (t.core 0).arch.pc == 0x24) = true ∧ gives (exec (.gate 0 0 0 false) (stAt false 1)) (fun t =>
    !(t.core 0).arch.world && (t.core 0).arch.pc != 4) = true := by decide +kernel

/-- A core of a world and level whose interrupt view has one page pending at priority 2, with `IE` of its level. -/
def stInt (w : Bool) (lv page ie : Nat) : State := (stAt w lv).modCore 0 (fun c => { c with
  intView := 1048575 - 29 * 2 ^ (5 * page), arch := { c.arch with cr := [(lvKey w lv 3, setFld 0 estat_IE ie)] } })
/-- Hypotheses of InterruptChoice: each page in turn, alone, in a world and at a level that takes it. -/
theorem witness_InterruptChoice : [PageKind.sealedL3, .sealedL1, .openL2, .openL1].map (viewPrio ((stInt true 1 0 1).core 0).intView) =
      [2, 31, 31, 31] ∧
    [PageKind.sealedL3, .sealedL1, .openL2, .openL1].map (viewPrio ((stInt false 1 3 1).core 0).intView) = [31, 31, 31, 2] ∧
    estB (stInt false 1 3 1) false 1 estat_IE = 1 ∧ estB (stInt true 3 0 0) true 3 estat_IE = 0 := by decide +kernel
theorem test_int_choice : (stInt true 1 0 1).intPick 0 = some ⟨3, 0x20, 7⟩ ∧ (stInt true 1 1 1).intPick 0 = some ⟨1, 0x20, 5⟩ ∧
    (stInt true 1 1 0).intPick 0 = none ∧ (stInt false 1 1 0).intPick 0 = some ⟨3, 0x20, 5⟩ ∧
    (stInt false 1 2 0).intPick 0 = some ⟨2, 0x20, 2⟩ ∧ (stInt false 1 3 0).intPick 0 = none := by decide +kernel
/-- R154: an open interrupt below `OPTHR` is a FOREIGN interrupt in the sealed world. -/
def stForeign : State := (stInt true 1 2 0).fset (rTgtCfg 0) idistTgtCfg_OPTHR 3
theorem witness_InterruptChoice_foreign : stForeign.targetOf 0 = some 0 ∧
    viewPrio (stForeign.core 0).intView .openL2 < stForeign.fget (rTgtCfg 0) idistTgtCfg_OPTHR ∧
    stForeign.intPick 0 = some ⟨3, 0x22, 2⟩ := by decide +kernel

/-- Hypotheses of AsynchronousEntries: an interrupt at a boundary, a waiting WFI, a latched NMI. -/
def stNmi (act : Bool) : State := (st3.modCore 0 (fun c => { c with nmiLatch := true, nmiAct := act, wfi := true }))
theorem witness_AsynchronousEntries : (((stInt true 1 0 1).core 0).atBoundary && !(stInt true 1 0 1).follows 0 &&
    !(stInt true 1 0 1).leads 0 && syncB 0 (stInt true 1 0 1) (fun _ => true) && decide ((stInt true 1 0 1).intNow 0 =
    some ⟨3, 0x20, 7⟩) && ((stNmi false).core 0).atBoundary && syncB 0 (stNmi false) (fun _ => true)) = true := by decide +kernel
theorem test_interrupt_entry : gives (exec (.interruptEntry 0) (stInt true 1 0 1)) (fun t => (t.core 0).arch.level == 3 &&
    estB t true 3 estat_CAUSE == 0x20 && estB t true 3 estat_INFO == 7 && estB t true 3 estat_PLEVEL == 1) = true := by decide +kernel
theorem test_nmi_entry : gives (exec (.nmiEntry 0) (stNmi false)) (fun t => estB t true 3 estat_CAUSE == 0x21 &&
    (t.core 0).nmiAct && !(t.core 0).nmiLatch && fld ((t.core 0).crv (lvKey true 3 2)) epc_PC == 1) = true := by decide +kernel
/-- An NMI event on its way to core 0, which runs with or without an active NMI, or does not run. -/
def coreNmi (act : Bool) (r : RunState) : Core := { coreAt true 3 with nmiAct := act, run := r }
def stNmiQ (act : Bool) (r : RunState) : State := { stAt true 3 with nmiQ := [(0, 7)], cores := [(0, coreNmi act r)] }
theorem witness_NmiEvent : (stNmiQ true .running).nmiQ.find? (fun e => e.1 == 0) = some (0, 7) ∧
    ((stNmiQ true .running).core 0).run = .running ∧ ((stNmiQ true .running).core 0).nmiAct = true ∧
    ((stNmiQ false .running).core 0).nmiAct = false ∧ ((stNmiQ false .parked).core 0).run ≠ .running := by decide +kernel
theorem test_nmi_event : gives (exec (.nmiEvent 0) (stNmiQ false .running)) (fun t => (t.core 0).nmiLatch && t.nmiQ.isEmpty) = true ∧
    gives (exec (.nmiEvent 0) (stNmiQ true .running)) (fun t => !(t.core 0).nmiLatch &&
      t.fget (rTgtStat 0) idistTgtStat_DBLNMI == 1) = true := by decide +kernel

/-- Hypotheses of CoreEvents: a refused speculative request, an empty deferral, a line that has arrived, one in the Cinder
buffer, a page that a walk finds. -/
def evLines : Tab Nat PLine := [(0, { pline true .M with way := none }), (64, { pline true .MI_A with way := none, cinder := true, want := true })]
def stEvents : State := (stAt true 3).modCore 0 (fun c => { c with specRefused := [128], defers := [(64, 0)], redirect := true, lines := evLines, l1d := [] })
theorem witness_CoreEvents : (decide (lineOf 128 = 128) && (stEvents.core 0).specRefused.contains 128 &&
    decide ((stEvents.core 0).line 128 = none) && decide ((stEvents.core 0).defers = [(64, 0)]) && (stEvents.core 0).deferred.isEmpty &&
    (stEvents.core 0).executes && !(stEvents.core 0).missFull .data && (stEvents.core 0).flaws.isEmpty && !(stEvents.core 0).fillBehind 0 &&
    decide (stEvents.anyFence = false) && decide (stEvents.linkOld = []) && [0, 64].all (fun ln =>
      match (stEvents.core 0).line ln, (stEvents.core 0).victimWay (l2Set ln) with
      | some l, some w => decide (l.way = none) && decide ((stEvents.core 0).inWay (l2Set ln) w = none)
      | _, _ => false)) = true := by decide +kernel
theorem test_core_events : gives (exec (.speculativeReissue 0 128) stEvents) (fun t => decide (t.net.map (fun m =>
      (m.opc, m.pa, m.spec)) = [(.getS, 128, false)])) = true ∧
    gives (exec (.cinderRecall 0 64) stEvents) (fun t => ((t.core 0).line 64).any (fun l => l.way.isSome && l.st == .MI_A)) = true ∧
    gives (exec (.l2Fill 0 0 .none) stEvents) (fun t => ((t.core 0).line 0).any (fun l => l.way.isSome && l.st == .M)) = true := by
  decide +kernel
/-- A core whose DTLB is empty and whose translation is off: the walk of an address gives the identity. -/
def stWalk : State := st3.modCore 0 (fun c => { c with dtlb := [] })
theorem witness_CoreEvents_walk : (match ready 0 stWalk with
    | some (x, s1) => !stWalk.due 0 && decide ((s1.core 0).tlbHits false (regimeOf x x.world x.level) 64 = []) &&
      (match walk (s1.walkRead 0 x.world (regimeOf x x.world x.level).dom) false (regimeOf x x.world x.level)
          (fun l => grants1 l.r l.w l.x l.u l.pxn x.level needLoad) 64 with
       | .ok e => decide (permit e x.level needLoad = none)
       | .error _ => false)
    | none => false) = true := by decide +kernel
theorem test_table_walk : gives (exec (.tableWalk 0 false 64 false) stWalk) (fun t => (t.core 0).dtlb.length == 1) = true := by
  decide +kernel
/-- Hypotheses of CoreEvents where a snoop is held back. -/
theorem witness_CoreEvents_deferred : (stEvents.core 0).defers = [(64, 0)] ∧
    ((stEvents.modCore 0 (fun c => { c with deferred := [{ opc := .inv, pa := 64, src := 0x1000, dst := .agent 0 }] })).core 0).deferred =
      [{ opc := .inv, pa := 64, src := 0x1000, dst := .agent 0 }] ∧ lineOf 64 = 64 := by decide +kernel

/-! Coherence, the mesh's messages, interrupts and the IOTU (R168–R182, R204–R211, R229, R278–R305, R336, R337). -/

/-- An empty module with populated DRAM, channel 0 active, and gatekeeper 0 open to the sealed world. -/
def st0 : State := openDram true { regs := [(rIlv, 0x8000000000000100)] }
/-- A request of core 0 for the line 64, at its home, slice 1. -/
def reqOf (o : Opc) (req : Nat) : Msg :=
  { opc := o, pa := 64, src := req, dst := .home 1, req := req, world := true, bmask := BitVec.allOnes 64, data := 0x55 }
/-- The request waits on the mesh; the line has the directory entry of state `d` (0 none) and is in the LLC or not. -/
def stReq (o : Opc) (req d : Nat) (llc : Bool) : State :=
  let e : DirEnt := { line := 64, st := d, owner := 5, ptrs := if d = 2 then [] else [7] }
  { st0 with net := [reqOf o req], dir := if d = 0 then [] else [((1, 1, 0), e)], llc := if llc then [((1, 1, 3), ⟨64, false, 0x77, 0⟩)] else [] }
/-- The command offers its request, and the home can start it. -/
def homeB (o : Opc) (req d : Nat) (llc : Bool) : Bool :=
  let s := stReq o req d llc
  let m := reqOf o req
  match s.recv (fun k => k.opc == m.opc && k.src == m.src && k.pa == m.pa) with
  | some (k, s1) => decide (k = m) && (tget [] s.hq 1).isEmpty && decide (s1.anyFence = false) && decide (s1.linkOld = []) &&
      decide (s1.fget ⟨.slBkt, bucketOf 64, 0⟩ slBkt_SN = 1) && decide (s1.fget ⟨.slBkt, bucketOf 64, 0⟩ slBkt_STATE = 0) &&
      !s1.lineHeld 1 64 && s1.dramOk 64 && decide (s1.verdict (s1.dramGate 64) m.world m.dom (needs m).1 (needs m).2 64 64 = none) &&
      decide ((s1.dirFind 1 64).map (fun e => e.2.st) = if d = 0 then none else some d) && ((s1.llcFind 1 64).isSome == llc) &&
      s1.urgentFirst m && s1.slFlaws.isEmpty && decide (tfind s1.dir (1, 1, 15) = none) && !s1.wayHeld 1 1 15 &&
      !s1.wayAwaited 1 64 (tget [] s1.hq 1)
  | none => false
/-- Hypotheses of HomeTransactions: each request in each directory state that it has a clause for. -/
theorem witness_HomeTransactions : ([(Opc.getS, 0, true), (.getS, 0, false), (.getS, 1, true), (.getS, 2, true), (.getM, 2, true), (.getM, 0, true), (.upg, 0, true),
    (.getM, 1, true), (.upg, 1, true), (.upg, 3, true), (.readOnce, 2, true), (.readOnce, 3, false), (.readOnce, 0, true),
    (.writeUnique, 0, true)].all (fun (o, d, l) => homeB o 7 d l)) = true ∧
    ([(Opc.writeUnique, 2, true), (.writePtl, 0, true), (.writePtl, 2, false), (.cmoReq, 0, true), (.cmoReq, 1, true),
      (.putE, 2, true), (.putM, 2, true), (.putO, 3, true), (.putM, 1, false), (.putE, 0, false)].all (fun (o, d, l) =>
      homeB o 5 d l)) = true := by decide +kernel
theorem test_home_getS : gives (exec (.getS 7 64 false) (stReq .getS 7 0 true)) (fun t => decide (t.net.map (fun m =>
    (m.opc, m.dst, m.grant, m.data)) = [(.data, .agent 7, 2, 0x77)])) = true := by decide +kernel
theorem test_home_getM : gives (exec (.getM 9 64 false) (stReq .getM 9 1 true)) (fun t => decide (t.net.map (fun m =>
    (m.opc, m.dst, m.ackcnt)) = [(.inv, .agent 7, 0), (.data, .agent 9, 1)])) = true := by decide +kernel
theorem test_home_fwd : gives (exec (.getS 7 64 false) (stReq .getS 7 2 true)) (fun t => decide (t.net.map (fun m =>
    (m.opc, m.dst, m.req)) = [(.fwdGetS, .agent 5, 7)])) = true := by decide +kernel
theorem test_home_stale_put : gives (exec (.putM 9 64) (stReq .putM 9 2 true)) (fun t => decide (t.net.map (fun m =>
    (m.opc, m.dst)) = [(.stalePutAck, .agent 9)])) = true := by decide +kernel
/-- A request that the gatekeeper refuses: the open world has no region. -/
def stRefused : State := { st0 with net := [{ reqOf .getS 7 with world := false }] }
theorem witness_HomeTransactions_refused : stRefused.verdict (stRefused.dramGate 64) false 0 true false 64 64 = some 0 := by
  decide +kernel
theorem test_home_refuse : gives (exec (.getS 7 64 false) stRefused) (fun t => decide (t.net.map (fun m => (m.opc, m.dst, m.status)) =
    [(.refuse, .agent 7, 1)]) && t.txns.isEmpty && !t.fbq.isEmpty) = true := by decide +kernel

/-- Hypotheses of HomeQueueing: an open transaction on the line, with room in the home queue and without; a moved bucket;
Redir, Retry and a request due to be sent again. -/
def stBusy (full vc3 : Bool) : State := { stReq .getS 7 0 true with
  net := [{ reqOf .getS 7 with vc3 := vc3 }], hq := if full then [(1, (List.range 48).map (fun i => { reqOf .getM 9 with pa := 1024 * i, vc3 := vc3 }))] else [],
  txns := [((1, 64), { msg := reqOf .getS 9, phase := .unblock })] }
theorem witness_HomeQueueing : (stBusy false false).lineHeld 1 64 = true ∧ (stBusy false false).queueRoom 1 false = true ∧
    (stBusy true true).queueRoom 1 true = false ∧ (stBusy true false).queueRoom 1 false = false := by decide +kernel
theorem test_home_queues : gives (exec (.getS 7 64 false) (stBusy false false)) (fun t => t.net.isEmpty &&
    decide ((tget [] t.hq 1).length = 1)) = true ∧
    gives (exec (.getS 7 64 false) (stBusy true true)) (fun t => decide (t.net.map (fun m => (m.opc, m.dst)) = [(.retry, .agent 7)])) =
    true ∧ gives (exec (.getS 7 64 false) (stBusy true false)) (fun t => decide (t.net.length = 1)) = true := by decide +kernel
/-- The bucket of the line has moved to slice 3. -/
def stMoved : State := (stReq .getS 7 0 true).fset ⟨.slBkt, 1, 0⟩ slBkt_SN 3
theorem witness_HomeQueueing_moved : stMoved.fget ⟨.slBkt, bucketOf 64, 0⟩ slBkt_SN = 3 ∧
    stMoved.fget ⟨.slBkt, bucketOf 64, 0⟩ slBkt_STATE ≠ 3 := by decide +kernel
theorem test_redir : gives (exec (.getS 7 64 false) stMoved) (fun t => decide (t.net.map (fun m => (m.opc, m.dst, m.aux)) =
    [(.redir, .agent 7, 3)])) = true := by decide +kernel
/-- Answers for agent 7 about the line 64. -/
def stAns (o : Opc) : State := { st0 with net := [{ reqOf o 7 with src := 0x1001, dst := .agent 7, aux := 3, orig := .getS }] }
theorem witness_HomeQueueing_answers : ((stAns .redir).recv (fun k => k.opc == .redir && decide (k.dst = .agent 7) && k.pa == 64)).isSome = true ∧
    ((stAns .retry).recv (fun k => k.opc == .retry && decide (k.dst = .agent 7))).isSome = true ∧ agentIdOk 7 = true := by decide +kernel
def stResend : State := { st0 with now := 7, resend := [(reqOf .getS 7, 7)] }
theorem witness_HomeQueueing_resend : stResend.resend.find? (fun e => e.1.src == 7 && e.1.pa == 64 && decide (e.2 ≤ stResend.now)) =
    some (reqOf .getS 7, 7) := by decide +kernel
theorem test_resend : gives (exec (.vc3Resend 7 64) stResend) (fun t => t.resend.isEmpty && decide (t.net.map (fun m => (m.opc, m.dst)) =
    [(.getS, .home 1)])) = true := by decide +kernel

/-- Core 0 holds the line 64 in a state, and a message for it waits. -/
def stSnoop (st : CState) (o : Opc) : State :=
  let c : Core := { coreAt true 3 with lines := [(64, { pline true st with way := some 2, ackcnt := if st == .IM_A || st == .SM_A then some 1 else none })] }
  { st0 with cores := [(0, c)], net := [{ reqOf o 7 with dst := .agent 0, src := 0x1001, grant := 1 }] }
def waitsB (s : State) (o : Opc) (a pa : Nat) : Bool :=
  match s.recv (fun k => k.opc == o && decide (k.dst = .agent a) && k.pa == pa) with
  | some (m, s1) => decide (m.opc = o) && decide (m.pa = pa) && ((s1.core 0).line pa).isSome && (s1.core 0).defers.isEmpty && (s1.core 0).deferred.isEmpty &&
      (s1.core 0).flaws.isEmpty && decide (m.tag ≠ (s1.core 0).range.run + 1) &&
      decide (s1.anyFence = false) && decide (s1.linkOld = [])
  | none => false
/-- Hypotheses of SnoopAnswers: every VC1 message, in every state that it has a clause for. -/
theorem witness_SnoopAnswers : ([(Opc.fwdGetS, [CState.M, .O, .E, .IS_D, .II_A]), (.fwdGetM, [.E, .M, .O]), (.fwdReadOnce, [.E, .M, .O]),
    (.inv, [.S, .E, .M, .O]), (.snpClean, [.M, .O, .S, .E]), (.snpCleanInv, [.M, .O, .S, .E]), (.snpDiscard, [.S, .E, .M, .O])].all
    (fun (o, l) => l.all (fun st => waitsB (stSnoop st o) o 0 64))) = true := by decide +kernel
theorem test_snoops : gives (exec (.fwdGetS 0 64 .none) (stSnoop .M .fwdGetS)) (fun t => decide (((t.core 0).line 64).map (·.st) = some .O) &&
      decide (t.net.map (fun m => (m.opc, m.dst)) = [(.data, .agent 7)])) = true ∧
    gives (exec (.snpClean 0 64) (stSnoop .O .snpClean)) (fun t => decide (((t.core 0).line 64).map (·.st) = some .S)) = true ∧
    gives (exec (.inv 0 64) (stSnoop .S .inv)) (fun t => decide ((t.core 0).line 64 = none)) = true := by decide +kernel

/-- Hypotheses of CoherenceAnswers at the requester: each answer, in each state that it has a clause for. -/
theorem witness_CoherenceAnswers : ([(Opc.data, [CState.IS_D, .IM_AD, .SM_AD]), (.ackCount, [.SM_AD, .OM_A]), (.invAck, [.IM_A, .SM_A]),
    (.putAck, [.MI_A, .OI_A, .EI_A]), (.stalePutAck, [.II_A]), (.refuse, [.IS_D, .IM_AD, .SM_AD, .OM_A])].all
    (fun (o, l) => l.all (fun st => waitsB (stSnoop st o) o 0 64))) = true := by decide +kernel
theorem test_data_completes : gives (exec (.data 0 64) (stSnoop .IM_AD .data)) (fun t => decide (((t.core 0).line 64).map (fun l =>
    (l.st, l.data)) = some (.M, 0x55)) && decide (t.net.map (fun m => (m.opc, m.dst)) = [(.unblock, .home 1)])) = true := by decide +kernel
/-- A CMO that waits for its answer; a request of an I/O agent that waits for its data. -/
def stCmoAck : State := { (stSnoop .S .cmoAck) with cores := [(0, { coreAt true 3 with cmo := some (64, false) })] }
def ioReq (write : Bool) : IoReq :=
  { id := 1, agent := 0x820, stream := 0, ctx := 0, pa := 64, size := 8, write := write, use := .spIn, world := true, dom := 0, sent := true }
def stIo (write : Bool) (o : Opc) : State := { st0 with io := [ioReq write], net := [{ reqOf o 0x820 with dst := .agent 0x820 }] }
theorem witness_CoherenceAnswers_io : agentIdOk 0x820 = true ∧ (stCmoAck.core 0).cmo = some (64, false) ∧
    ((stIo false .roData).recv (fun k => k.opc == .roData && decide (k.dst = .agent 0x820) && k.pa == 64)).isSome = true ∧ (ioReq true).write = true ∧
    lineOf (ioReq true).pa = 64 := by decide +kernel
theorem test_io_answers : gives (exec (.roData 0x820 64) (stIo false .roData)) (fun t => t.io.isEmpty && decide (t.net.map (fun m =>
      (m.opc, m.dst)) = [(.unblock, .home 1)]) && decide (t.out = [.hostCpl 0 false 8 0x55])) = true ∧
    gives (exec (.wrAck 0x820 64) (stIo true .wrAck)) (fun t => t.io.isEmpty && t.net.isEmpty) = true := by decide +kernel
/-- An open transaction of slice 1 on the line 64, and an answer for it. -/
def stTxn (o : Opc) (ph : TPhase) (acks : Nat) (a : Opc) (after : Option DirEnt) : State :=
  let x : Txn := { msg := { reqOf o 7 with bmask := 1 }, phase := ph, way := some 0, acks := acks, after := after, grant := 1 }
  { st0 with net := [{ reqOf a 5 with dst := .home 1, src := 5 }], txns := [((1, 64), x)],
             dir := if after.isSome then [((1, 1, 0), { line := 64, st := 3, owner := 9, ptrs := [5] })] else [], llc := [((1, 1, 3), ⟨64, false, 0x77, 0⟩)] }
def dirO : DirEnt := { line := 64, st := 3, owner := 9, ptrs := [7] }
theorem witness_CoherenceAnswers_home : ([(stTxn .writePtl .snoop 1 .snpData none, Opc.snpData), (stTxn .cmoReq .snoop 1 .snpAck none, .snpAck),
    (stTxn .writePtl .snoop 2 .snpAck none, .snpAck), (stTxn .writeUnique .snoop 1 .invAck none, .invAck),
    (stTxn .getS .unblock 0 .fwdMiss (some dirO), .fwdMiss), (stTxn .getS .unblock 0 .unblock (some dirO), .unblock)].all (fun (s, o) =>
    match s.recv (fun k => k.opc == o && decide (k.dst = .home 1) && k.pa == 64) with
    | some (m, s1) => decide (m.opc = o) && (tfind s1.txns (1, 64)).isSome && (s1.llcFind 1 64).isSome && s1.slFlaws.isEmpty &&
        (o != .fwdMiss || (s1.dirFind 1 64).isSome) &&
        (s1.txns.find? (fun t => t.1.1 == 1 && (t.2.victim == some 64))).isNone
    | none => false)) = true := by decide +kernel
theorem test_home_answers : gives (exec (.snpData 1 64) (stTxn .writePtl .snoop 1 .snpData none)) (fun t => t.txns.isEmpty &&
      decide (t.net.map (fun m => (m.opc, m.dst)) = [(.wrAck, .agent 7)])) = true ∧
    gives (exec (.fwdMiss 1 64) (stTxn .getS .unblock 0 .fwdMiss (some dirO))) (fun t => decide (t.net.map (fun m =>
      (m.opc, m.dst, m.req)) = [(.fwdGetS, .agent 9, 7)])) = true ∧
    gives (exec (.unblock 1 64) (stTxn .getS .unblock 0 .unblock (some dirO))) (fun t => t.txns.isEmpty &&
      decide (tfind t.dir (1, 1, 0) = some dirO)) = true := by decide +kernel

/-- Core 0 asks core 1's Peat store, or DRAM, with an uncached request. -/
def ncMsg (o : Opc) (pa : Nat) : Msg := { opc := o, pa := pa, src := 0, dst := .target, req := 0, world := true, size := 8, data := 0x99, level := 3, aux := 4 }
def corePeat : Core := { coreAt true 3 with peat := [(0, { data := 0x1234 })] }
def peatPa : Nat := 0xC00000100000
def stNc (o : Opc) (pa : Nat) (opened : Bool) : State :=
  let c : Core := { corePeat with arch := { corePeat.arch with cr := [(⟨true, 0x111⟩, setFld (setFld 0 peatcfg_SIZE 1) peatcfg_CUR 1)] } }
  { st0 with cores := [(0, coreAt true 3), (1, c)], mgAct := (if opened then region (peatGate 1) true else []) ++ region 0 true, net := [ncMsg o pa] }
/-- Hypotheses of UncachedRequests: a remote Peat store that grants the access and one that refuses it; DRAM; answers. -/
theorem witness_UncachedRequests : place peatPa = .peat 1 0 ∧ ((stNc .ncRead peatPa true).core 1).wayConverting 0 = false ∧ ((stNc .ncRead peatPa true).core 1).flaws = [] ∧
    ((stNc .ncRead peatPa true).recv (fun k =>
      (k.opc == .ncRead && k.src == 0 && k.pa == peatPa) && decide (k.dst = .target))).isSome = true ∧
    (stNc .ncRead peatPa true).peatErr 1 true 0 true false peatPa 8 = none ∧
    (stNc .ncRead peatPa true).peatErr 1 true 0 false true peatPa 8 = none ∧
    (match (stNc .ncRead peatPa false).peatErr 1 true 0 true false peatPa 8 with
      | some (.refused _) => true
      | _ => false) = true := by decide +kernel
theorem witness_UncachedRequests_dram : place 64 = .dram ∧ (stNc .ncRead 64 true).dramOk 64 = true ∧
    (stNc .ncRead 64 true).verdict ((stNc .ncRead 64 true).dramGate 64) true 0 true false 64 8 = none := by decide +kernel
theorem test_peat_read : gives (exec (.ncRead 0 peatPa) (stNc .ncRead peatPa true)) (fun t => decide (t.net.map (fun m =>
      (m.opc, m.dst, m.data)) = [(.ncData, .agent 0, 0x1234)])) = true ∧
    gives (exec (.ncWriteO 0 peatPa) (stNc .ncWriteO peatPa true)) (fun t => decide (t.net.map (fun m => (m.opc, m.dst)) =
      [(.ncAck, .agent 0)]) && decide (((t.core 1).peatLine peatPa).data = 0x99)) = true ∧
    gives (exec (.ncRead 0 peatPa) (stNc .ncRead peatPa false)) (fun t => decide (t.net.map (fun m => (m.opc, m.status)) =
      [(.ncErr, 1)])) = true := by decide +kernel
/-- Core 0 waits for the answer numbered 4. -/
def stNcWait (o : Opc) : State :=
  { st0 with cores := [(0, { coreAt true 3 with wait := some { pa := 64, size := 8, tag := 4 } })], net := [{ ncMsg o 64 with dst := .agent 0, src := 0x850 }] }
theorem witness_UncachedRequests_answers : ([Opc.ncData, .ncAck, .ncErr].all (fun o => ((stNcWait o).recv (fun k => k.opc == o &&
    decide (k.dst = .agent 0))).any (fun r => r.1.aux == 4))) = true ∧ ((stNcWait .ncData).core 0).wait.any (fun w => w.out && !w.done &&
    w.tag == 4) = true := by decide +kernel
theorem test_nc_data : gives (exec (.ncData 0) (stNcWait .ncData)) (fun t => (t.core 0).wait.any (fun w => w.done && w.data == 0x99)) =
    true := by decide +kernel

/-- Hypotheses of InterruptDistributor: sources of both kinds, a core at its own interface with an active interrupt. -/
def stIdist : State := (({ st3 with ifaces := [((0, .sealedL3), { stack := [(40, 3)] })] }.fset (rSrcCfg 256) idistSrcCfg_EN 1).fset
  (rSrcCfg 256) idistSrcCfg_WORLD 1).fset (rSrcCfg 256) idistSrcCfg_TLEVEL 3
theorem witness_Idist_write : st3.mayWrite (.core 0) (rSrcCfg 32) ∧ st3.mayWrite (.core 0) (rSrcCfg 8191) ∧
    st3.mayWrite (.core 0) (rTgtCfg 1027) ∧ st3.mayWrite (.core 0) ⟨.idistSrcState, 32, 0⟩ :=
  ⟨mayWrite_window (by decide +kernel) rfl rfl (by decide +kernel), mayWrite_window (by decide +kernel) rfl rfl (by decide +kernel),
   mayWrite_window (by decide +kernel) rfl rfl (by decide +kernel), mayWrite_window (by decide +kernel) rfl rfl (by decide +kernel)⟩
theorem witness_Idist : st3.canPend 160 = true ∧ st3.edgeSrc 160 = true ∧ st3.canPend 32 = true ∧ st3.edgeSrc 32 = false ∧
    drivenLines.contains 160 = false ∧ drivenLines.contains 32 = true ∧ stIdist.targetOf 0 = some 0 ∧ pageOk true 3 .sealedL3 = true ∧
    stIdist.coreOfTarget 0 = some 0 ∧ (stIdist.iface 0 .sealedL3).stack = [(40, 3)] := by decide +kernel
/-- R177: SETPEND of an enabled source, then the acknowledgement at its target, then its EOI. -/
theorem test_idist_ack : gives (exec (.setpend .sbc 160) (stIdist.fset (rSrcCfg 160) idistSrcCfg_EN 1)) (fun t => (t.src 160).edgePend) =
    true ∧ gives (exec (.idistEoi 0 .sealedL3 40) stIdist) (fun t => (t.iface 0 .sealedL3).stack.isEmpty) = true ∧
    gives (exec (.idistEoi 0 .sealedL3 41) stIdist) (fun t => (t.iface 0 .sealedL3).eoierr &&
      decide ((t.iface 0 .sealedL3).stack.length = 1)) = true := by decide +kernel
/-- A pending source of the sealed world for target 0, at an interface that masks nothing. -/
def stPend : State := (((({ st3 with intSrc := [(160, { edgePend := true })] }.fset (rSrcCfg 160) idistSrcCfg_EN 1).fset (rSrcCfg 160)
  idistSrcCfg_PRIO 3).fset (rSrcCfg 160) idistSrcCfg_WORLD 1).fset (rSrcCfg 160) idistSrcCfg_TLEVEL 3).setIface 0 .sealedL3 { pmr := 31 }
theorem witness_Idist_highest : (stPend.highest 0 .sealedL3).isSome = true := by decide +kernel
theorem test_idist_highest : gives (exec (.idistAck 0 .sealedL3) stPend) (fun t => (t.src 160).active && !(t.src 160).edgePend &&
    decide ((t.iface 0 .sealedL3).stack = [(160, 3)])) = true := by decide +kernel
theorem test_sgi : gives (exec (.idistSgi 0 .sealedL3 5) st3) (fun t => (t.iface 0 .sealedL3).sgi.isEmpty == false) = true := by decide +kernel
/-- IDIST has news for core 0; a timer that has reached its value. -/
def stDeliver : State := { st3 with net := [{ opc := .intDeliver, pa := 0, src := 0x811, dst := .agent 0, aux := 7, aux2 := 0 }] }
def stTimer : State := (st3.setIface 0 .sealedL3 { priv := 0x1000, tmrcmp := 5, tmrLine := true, pmr := 31 }).fset ⟨.clkCt, 0, 0⟩ clkCt_CT 5
theorem witness_Idist_events : (stDeliver.recv (fun x => x.opc == .intDeliver && x.aux2 == 0)).isSome = true ∧
    ((stTimer.iface 0 .sealedL3).evalTmr stTimer.ct).tmrLine = true ∧ (stTimer.iface 0 .sealedL3).tmrLine = true ∧
    tget 1048575 stTimer.intSent 0 ≠ stTimer.intViewOf 0 := by decide +kernel
theorem test_timer_fires : gives (exec (.ctTimerFire 0 .sealedL3) stTimer) (fun t => decide (t.net.map (fun m => (m.opc, m.dst)) =
    [(.intDeliver, .agent 0)])) = true ∧ gives (exec (.intDeliver 0) stDeliver) (fun t => (t.core 0).intView == 7) = true := by
  decide +kernel

/-- Hypotheses of IotuAndTlbMessages: stream 5 has context 2, whose IOTLB entry maps its first GiB. -/
def stIotu (w1 : Bool) : State := (({ st0 with iotlb := [((0, 0, 0), ⟨2, { ent false 1 with w1 := w1, r1 := w1, s1en := true }⟩)] }.fset (rCtx .iotuCtxCfg 2)
  iotuCtxCfg_V 1).fset ⟨.iotuSte, 5, 0⟩ iotuSte_V 1).fset ⟨.iotuSte, 5, 0⟩ iotuSte_CTX 2
theorem witness_Iotu : (stIotu true).steCtx 5 = some 2 ∧ st0.steCtx 5 = none ∧ (stIotu true).fget (rCtx .iotuCtxCfg 2) iotuCtxCfg_V = 1 ∧
    ((stIotu true).iotlbFind (agentDie (agentOfStream 5)) 2 64).any (fun e => decide (ioPermit e false = none) && decide (place (e.out 64) = .dram)) = true ∧
    ((stIotu false).iotlbFind (agentDie (agentOfStream 5)) 2 64).any (fun e => (ioPermit e false).isSome) = true ∧
    (stIotu false).fget (rCtx .iotuCtxFault 2) iotuCtxFault_FV = 0 := by decide +kernel
theorem witness_Iotu_writes : st3.mayWrite (.core 0) (rCtx .iotuCtxInv 1023) ∧ st3.mayWrite (.core 0) (rCtx .iotuCtxCfg 0) ∧
    st3.ctxBusy 1023 = false ∧ (st3.fset (rCtx .iotuCtxInvstat 5) iotuCtxInvstat_BUSY 1).ctxBusy 5 = true :=
  ⟨mayWrite_window (by decide +kernel) rfl rfl (by decide +kernel), mayWrite_window (by decide +kernel) rfl rfl (by decide +kernel),
   by decide +kernel, by decide +kernel⟩
theorem test_iotu : gives (exec (.iotuRequest 5 64 false 0) (stIotu true)) (fun t => decide (t.net.map (fun m => (m.opc, m.pa)) =
      [(.readOnce, 64)])) = true ∧
    gives (exec (.iotuRequest 5 64 false 0) (stIotu false)) (fun t => t.net.isEmpty && t.fget (rCtx .iotuCtxFault 2) iotuCtxFault_KIND == 3) = true ∧
    gives (exec (.iotuRequest 5 64 false 0) st0) (fun t => t.net.isEmpty && !t.fbq.isEmpty) = true := by decide +kernel
/-- A broadcast that reaches core 0, and an acknowledgement. -/
def stTlbOp (o : Opc) : State := { st3 with net := [{ opc := o, pa := 0, src := 3, dst := .agent 0, req := 3 }] }
theorem witness_TlbMessages : ((stTlbOp .tlbOp).core 0).tlbOwed = [] ∧ (stTlbOp .tlbOp).tlbDone 0 0 0 = true ∧
    (let s : State := (stTlbOp .tlbOp).modCore 0 (fun c => { c with sq := [{ qent with sid := 1 }], sqSeq := 1 }); s.tlbDone 0 1 0) = false ∧
    ([Opc.tlbOp, .tlbAck].all (fun o => ((stTlbOp o).recv (fun k => k.opc == o && decide (k.dst = .agent 0))).isSome)) = true := by
  decide +kernel
theorem test_tlb_op : gives (exec (.tlbOp 0) (stTlbOp .tlbOp)) (fun t => decide (t.net.map (fun m => (m.opc, m.dst)) =
    [(.tlbAck, .agent 3)])) = true := by decide +kernel

/-! The configuration space, clocks, core control, buckets, the mesh, channels, gatekeepers, twins, claims, debug. -/

/-- Hypotheses of RegisterWrites: a plain register in a global part and in a window, an access that drops, one to nothing. -/
theorem witness_RegisterWrites : agentOk (.core 0) = true ∧ st3.ledgFree = true ∧
    st3.cfgAt (st3.accOf (.core 0)) (1 * 0x8000000) 8 = .reg ⟨.clkPll, 0, 0⟩ none ∧ RegName.clkPll ∈ plainRegs ∧
    st3.cfgAt (st3.accOf (.core 0)) 0x7FFFFFF8 8 = .unpop ∧ 0x1004 % 8 ≠ 0 := by decide +kernel
theorem witness_RegisterWrites_set : st3.onlyW1cSet ⟨.clkPll, 0, 0⟩ := fun f _ _ => by
  show 0 / 2 ^ f.lo % 2 ^ f.w = 0
  simp
/-- Queue 5 runs, and is selected in SB0. -/
def stQRun : State := (st3.wr ⟨.sel, 10, 0⟩ 0x10005).fset (rQ .fxQCtl 5) fxQCtl_STATE 1
theorem witness_RegisterWrites_shut : st3.plainNow ⟨.clkPll, 0, 0⟩ = true ∧ stQRun.plainNow (rQ .fxQDbase 5) = false ∧
    stQRun.cfgAt (stQRun.accOf (.core 0)) (10 * 0x8000000 + 0x1001008) 8 = .reg (rQ .fxQDbase 5) (some 0) := by decide +kernel
theorem test_register_write_shut : gives (exec (.registerWrite (.core 0) (10 * 0x8000000 + 0x1001008) 8 0x5000) stQRun)
    (fun t => t.fget (rQ .fxQCtl 5) fxQCtl_CFGERR == 1 && t.rd (rQ .fxQDbase 5) == 0) = true := by decide +kernel
theorem witness_RegisterWrites_rights : globalRights (st3.accOf (.core 0)) ⟨.clkPll, 0, 0⟩ = some allFields := rfl
theorem test_register_write_misaligned : gives (exec (.registerWrite (.core 0) 0x1004 8 0) st3) (fun t => !t.fbq.isEmpty) = true ∧
    gives (exec (.registerWrite (.core 0) 0x1000 2 0) st3) (fun t => !t.fbq.isEmpty) = true := by decide +kernel

/-- Hypotheses of ClocksCoreMapAndCoreControl: the core map with parked cores, with a running one, out of range. -/
theorem witness_Lcnmap : st3.mayWrite .sbc (rLcn 0) ∧ st3.mayWrite .sbc (rLcn 1023) :=
  ⟨mayWrite_global (by decide +kernel) rfl rfl rfl, mayWrite_global (by decide +kernel) rfl rfl rfl⟩
/-- The cores 3 and 1030 are parked and off; core 0 runs. -/
def stMap : State := { st3 with cores := [(0, coreAt true 3), (3, { run := .parked, arch := { pc := 0x40, g := [(1, 9)] } }), (1030, { run := .off })] }
theorem witness_Lcnmap_parked : stMap.isParked 3 = true ∧ stMap.isParked 1030 = true ∧ stMap.isParked 0 = false ∧
    stMap.coreClaimed 3 = stMap.coreClaimed 1030 := by decide +kernel
theorem stMap_pcnOf (k : Nat) (h : k < 1024) : stMap.pcnOf k = k := by
  have e : stMap.pcnOf k = bits (BitVec.ofNat 64 (k % 1024)).toNat cfgLcnmap_PCN.lo cfgLcnmap_PCN.w := rfl
  rw [e, BitVec.toNat_ofNat]
  show k % 1024 % 2 ^ 64 / 2 ^ 0 % 2 ^ 11 = k
  omega
theorem witness_Lcnmap_free : stMap.pcnOf 3 = 3 ∧ ∀ k, k < 1024 → k ≠ 3 → stMap.pcnOf k ≠ 1030 :=
  ⟨stMap_pcnOf 3 (by omega), fun k h _ => by rw [stMap_pcnOf k h]; omega⟩
theorem test_lcnmap : gives (exec (.lcnmapWrite .sbc 3 1030) stMap) (fun t => t.pcnOf 3 == 1030 && (t.core 1030).g 1 == 9 &&
      (t.core 1030).arch.pc == 0x40) = true ∧
    gives (exec (.lcnmapWrite .sbc 0 1030) stMap) (fun t => t.pcnOf 0 == 0 && t.fget (rLcn 0) cfgLcnmap_ERR == 1) = true := by
  decide +kernel
theorem witness_Clocks : st3.mayWrite .sbc (rTilediv 271) ∧ st3.mayWrite .sbc rCtadj ∧ st3.mayWrite .sbc ⟨.clkCtstep, 0, 0⟩ :=
  ⟨mayWrite_global (by decide +kernel) rfl rfl rfl, mayWrite_global (by decide +kernel) rfl rfl rfl,
   mayWrite_global (by decide +kernel) rfl rfl rfl⟩
def stDiv (pend : Nat) : State := (st3.fset (rTilediv 0) clkTilediv_PENDING pend).fset rPll clkPll_LOCK 1
/-- An open core whose tile is claimed, which may write a divider and is refused. -/
def stClaimed : State := (stAt false 2).fset ⟨.sbcClaimTile, 0, 0⟩ sbcClaimTile_CLAIM 1
theorem witness_Clocks_states : (stDiv 0).tileClaimed 0 = false ∧ (stDiv 1).fget (rTilediv 0) clkTilediv_PENDING = 1 ∧
    (stDiv 1).fget rPll clkPll_LOCK = 1 ∧ stClaimed.tileClaimed 0 = true ∧ (stClaimed.accOf (.core 0)).world = false := by decide +kernel
theorem test_ctadj_clamps : gives (exec (.ctadjWrite .sbc 0x7FFFFFFF) st3) (fun t => ((t.rd rCtadj).setWidth 32).toInt == 10737418) =
    true := by decide +kernel
/-- Chip time runs and holds 5. -/
def stCt : State := { st3.fset ⟨.clkCt, 0, 0⟩ clkCt_CT 5 with ctOn := true }
theorem witness_Ctstep : stCt.mayWrite .sbc ⟨.clkCtstep, 0, 0⟩ ∧ stCt.ctOn = true :=
  ⟨mayWrite_global (by decide +kernel) rfl rfl rfl, rfl⟩
theorem test_ctstep : gives (exec (.ctstepWrite .sbc .low 0xFFFFFFFF) stCt) (fun t => t.ct == 4) = true := by decide +kernel

/-- Core 5 of a run state, with a held context or without. -/
def stCtl (r : RunState) (ctxv : Bool) : State := { st3 with cores := [(0, coreAt true 3), (5, { run := r, ctxv := ctxv, arch := { pc := 0x80 } })] }
theorem witness_CoreControl_rights : st3.mayWrite .sbc ⟨.coreCtl, 0, 0⟩ ∧ st3.mayWrite .sbc ⟨.coreCtl, 1091, 0⟩ :=
  ⟨mayWrite_window (by decide +kernel) rfl rfl (by decide +kernel), mayWrite_window (by decide +kernel) rfl rfl (by decide +kernel)⟩
theorem witness_CoreControl : (stCtl .running false).mapped 5 = true ∧ (stCtl .parked true).follows 5 = false ∧
    (stCtl .parked true).leads 5 = false ∧ ((stCtl .parked true).core 5).ctxv = true ∧ (stCtl .parked false).mapped 1030 = false ∧
    ((stCtl .bist false).core 5).run = .bist := by decide +kernel
theorem witness_CoreControl_park : let k := (stCtl .parking false).core 5
    k.run = .parking ∧ k.mustFinish = false ∧ k.sq = [] ∧ k.lines = [] ∧ k.tlbOut = 0 ∧ k.tlbOwed = [] ∧ k.range.out = [] ∧
      (stCtl .parking false).postedOut 5 = false ∧ k.wait = none ∧ k.cmo = none := by decide +kernel
theorem test_core_control : gives (exec (.park .sbc 5) (stCtl .running false)) (fun t => (t.core 5).run == .parking && (t.core 5).ctxv) = true ∧
    gives (exec (.resume .sbc 5) (stCtl .parked true)) (fun t => (t.core 5).run == .running && (t.core 5).arch.pc == 0x80) = true ∧
    gives (exec (.resume .sbc 5) (stCtl .parked false)) (fun t => (t.core 5).run == .parked &&
      t.fget (rCoreStat 5) coreStat_ERR == 1) = true ∧
    gives (exec (.start .sbc 5) (stCtl .parked false)) (fun t => (t.core 5).run == .running && (t.core 5).arch.pc == 0) = true ∧
    gives (exec (.bistDone 5 true) (stCtl .bist false)) (fun t => (t.core 5).run == .parked && (t.core 5).bistpass) = true := by
  decide +kernel

/-- Hypotheses of BucketMoves: bucket 5 stands at slice 5; its only entry; messages of the move. -/
theorem witness_BucketMoves_rights : st3.mayWrite .sbc (rBkt 0) ∧ st3.mayWrite .sbc (rBkt 4095) ∧ st3.mayWrite .sbc ⟨.slCtl, 255, 0⟩ :=
  ⟨mayWrite_global (by decide +kernel) rfl rfl rfl, mayWrite_global (by decide +kernel) rfl rfl rfl,
   mayWrite_window (by decide +kernel) rfl rfl (by decide +kernel)⟩
theorem witness_BucketMoves : st0.fget (rBkt 5) slBkt_STATE = 0 ∧ st0.fget (rBkt 5) slBkt_SN = 5 ∧ st0.sliceRetired 9 = false ∧
    st0.fenced (9, 1) = false ∧ st0.moving 5 = false ∧ st0.moving 9 = false := by decide +kernel
theorem test_bucket_move : gives (exec (.bucketMove .sbc 5 (setFld 0 slBkt_NEWSN 9)) st0) (fun t => t.fget (rBkt 5) slBkt_STATE == 1 &&
      (tget {} t.bkts 5).dest == 9) = true ∧
    gives (exec (.bucketMove .sbc 5 (setFld 0 slBkt_NEWSN 5)) st0) (fun t => t.fget (rBkt 5) slBkt_STATE == 0 &&
      t.fget (rBkt 5) slBkt_ERR == 1) = true := by decide +kernel
/-- A bucket in a state of its move, with a message of it. -/
def bktEnt : DirEnt := { line := 320, st := 2, owner := 7 }
def bktMsg (o : Opc) : Msg :=
  { opc := o, pa := 320, src := 0x1005, dst := if o == .bktUpd then .router 4 else .home 9, req := 0x1005, aux := 5, aux2 := 9, ent := some bktEnt }
def bktDir (st : Nat) : Tab (Nat × Nat × Nat) DirEnt := if st = 1 then [((5, 5, 0), bktEnt)] else []
def stBkt (st upd : Nat) (o : List Opc) : State :=
  { st0.fset (rBkt 5) slBkt_STATE st with dir := bktDir st, bkts := [(5, { dest := 9, updOut := upd })], net := o.map bktMsg }
theorem witness_BucketMoves_steps : bucketOf 320 = 5 ∧ (stBkt 1 0 []).txns = [] ∧ (tget {} (stBkt 1 0 []).bkts 5).sent = [] ∧
    (stBkt 1 0 []).slFlaws = [] ∧ (stBkt 1 0 []).dir = [((5, 5, 0), bktEnt)] ∧ lineOf bktEnt.line = bktEnt.line ∧ (stBkt 1 0 []).llc = [] ∧
    ((stBkt 2 0 [.bktXfer]).recv (fun x => x.opc == .bktXfer && x.aux == 5)).isSome = true ∧
    ((stBkt 3 256 [.bktUpd]).recv (fun x => x.opc == .bktUpd && x.aux == 5 && decide (x.dst = .router 4))).isSome = true ∧
    ((stBkt 3 1 [.bktAck]).recv (fun x => x.opc == .bktAck && x.aux == 5)).isSome = true := by decide +kernel
/-- The entry has been sent, and its acknowledgement has come. -/
def stBktSent : State := { stBkt 2 0 [.bktAck] with dir := [((5, 5, 0), bktEnt)], bkts := [(5, { dest := 9, sent := [320] })] }
theorem witness_BucketMoves_ack : (stBktSent.recv (fun x => x.opc == .bktAck && x.aux == 5)).isSome = true ∧
    stBktSent.fget (rBkt 5) slBkt_STATE = 2 ∧ stBktSent.fget (rBkt 5) slBkt_SN = 5 ∧ dirSet 320 = 5 ∧ stBktSent.llc = [] ∧
    stBktSent.hq = [] ∧ (tget {} stBktSent.bkts 5).sent = [320] ∧ stBktSent.anyFence = false := by decide +kernel
theorem test_bucket_steps : gives (exec (.bucketCopyStart 5) (stBkt 1 0 [])) (fun t => t.fget (rBkt 5) slBkt_STATE == 2 && decide (t.dir = [((5, 5, 0), bktEnt)]) &&
      decide ((tget {} t.bkts 5).sent = [320]) && decide (t.net.map (fun m => (m.opc, m.dst)) = [(.bktXfer, .home 9)])) = true ∧
    gives (exec (.bktXfer 5) (stBkt 2 0 [.bktXfer])) (fun t => decide (tfind t.dir (9, 5, 0) = some bktEnt)) = true ∧
    gives (exec (.bktAck 5) stBktSent) (fun t => t.dir.isEmpty && t.fget (rBkt 5) slBkt_STATE == 3) = true ∧
    gives (exec (.bktAck 5) (stBkt 3 1 [.bktAck])) (fun t => t.fget (rBkt 5) slBkt_SN == 9 && t.fget (rBkt 5) slBkt_STATE == 0) = true := by
  decide +kernel
/-- Slice 7 in its self-test. -/
def stSlTest : State := { st0.fset (rPort 7 1) meshPort_STATE 3 with slTest := [7] }
theorem test_slice_test : gives (exec (.sliceSelfTestDone 7 true) stSlTest) (fun t => t.fget (rPort 7 1) meshPort_STATE == 0) = true ∧
    gives (exec (.sliceSelfTestDone 7 false) stSlTest) (fun t => t.fget (rPort 7 1) meshPort_STATE == 3) = true := by decide +kernel
/-- A slice with no bucket left: all of slice 5's stand at slice 6. -/
def stNoBuckets : State := { regs := (List.range 16).map (fun i => (rBkt (256 * i + 5), 6)) }
theorem witness_SliceRetires : stNoBuckets.bktCnt 5 = 0 := by
  unfold State.bktCnt
  rw [List.length_eq_zero_iff, List.filter_eq_nil_iff]
  intro b hb
  rw [List.mem_range] at hb
  by_cases h : b % 256 = 5
  · obtain ⟨i, hi, rfl⟩ : ∃ i, i < 16 ∧ b = 256 * i + 5 := ⟨b / 256, by omega, by omega⟩
    have all : ∀ i, i < 16 → stNoBuckets.fget (rBkt (256 * i + 5)) slBkt_SN = 6 := by decide +kernel
    simp [all i hi]
  · have ne : ∀ e ∈ stNoBuckets.regs, e.1 ≠ rBkt b := by
      intro e he
      simp only [stNoBuckets, List.mem_map, List.mem_range] at he
      obtain ⟨i, _, rfl⟩ := he
      intro k
      have k2 : (rBkt (256 * i + 5)).i = (rBkt b).i := congrArg Reg.i k
      have : 256 * i + 5 = b := k2
      omega
    have skip : ∀ l : Tab Reg Word, (∀ e ∈ l, e.1 ≠ rBkt b) → tget (resetReg (rBkt b)) l (rBkt b) = resetReg (rBkt b) := by
      intro l
      induction l with
      | nil => intro _; rfl
      | cons e l ih =>
        intro hl
        obtain ⟨k, v⟩ := e
        have h1 : k ≠ rBkt b := hl (k, v) (by simp)
        simp only [tget, if_neg h1]
        exact ih (fun e he => hl e (by simp [he]))
    have e : stNoBuckets.fget (rBkt b) slBkt_SN = b % 256 := by
      unfold State.fget State.rd
      rw [skip _ ne]
      show BitVec.toNat (BitVec.ofNat 64 (b % 256 + b % 256 * 2 ^ 8)) / 2 ^ 0 % 2 ^ 8 = b % 256
      rw [BitVec.toNat_ofNat]
      omega
    simp [e, h]

/-! The mesh, memory channels, gatekeepers and keys, twin pairs, claims, debug (R309–R348, R366–R389, R525–R531). -/

theorem witness_MeshControl_rights : st3.mayWrite .sbc ⟨.meshLink, 0, 0⟩ ∧ st3.mayWrite .sbc ⟨.meshLink, 255, 3⟩ ∧
    st3.mayWrite .sbc rEpoch ∧ st3.mayWrite .sbc (rPort 255 0) :=
  ⟨mayWrite_window (by decide +kernel) rfl rfl (by decide +kernel), mayWrite_window (by decide +kernel) rfl rfl (by decide +kernel),
   mayWrite_global (by decide +kernel) rfl rfl rfl, mayWrite_window (by decide +kernel) rfl rfl (by decide +kernel)⟩
/-- The link from router 17 to its neighbour in a direction is down. -/
def stLink (d : Nat) (ok : Bool) : State := { st0.fset ⟨.meshLink, 17, d⟩ meshLink_DOWN 1 with linkOk := if ok then [(17, d)] else [] }
theorem witness_MeshControl_links : ([0, 1, 2, 3].all (fun d => (neighbour 17 (dirOfNum d)).isSome)) = true ∧
    (stLink 2 true).fget ⟨.meshLink, 17, 2⟩ meshLink_DOWN = 1 ∧ st0.fget ⟨.meshLink, 17, 2⟩ meshLink_DOWN = 0 ∧
    (17, 2) ∈ (stLink 2 true).linkOk ∧ st0.net = [] := by decide +kernel
theorem test_links : gives (exec (.linkRetrain 17 2 true) (stLink 2 false)) (fun t => t.linkOk.contains (17, 2)) = true ∧
    gives (exec (.flitEccError 17 2 .replayFail) st0) (fun t => t.fget ⟨.meshLink, 17, 2⟩ meshLink_DOWN == 1) = true ∧
    gives (exec (.flitEccError 17 2 .corrected) st0) (fun t => t.fget ⟨.meshLink, 17, 2⟩ meshLink_CECNT == 1) = true := by decide +kernel
/-- An epoch swap in each of its states. -/
def stEpoch (n : Nat) : State := st0.fset rEpoch meshEpoch_STATE n
theorem witness_MeshControl_epoch : ([0, 1, 2, 4].all (fun n => (stEpoch n).epoch == n)) = true ∧ (stEpoch 2).linkUp = [] ∧
    (stEpoch 2).net = [] := by
  decide +kernel
theorem test_epoch : gives (exec (.epochSwap .sbc 1) (stEpoch 0)) (fun t => t.epoch == 1) = true ∧
    gives (exec (.epochSwap .sbc 1) (stEpoch 2)) (fun t => t.epoch == 2 && t.fget rEpoch meshEpoch_ERR == 1) = true ∧
    gives (exec .epochDrain0Done (stEpoch 1)) (fun t => t.epoch == 2) = true ∧
    gives (exec .epochDrain1Done (stEpoch 2)) (fun t => t.epoch == 4) = true ∧
    gives (exec .epochReleaseDone (stEpoch 4)) (fun t => t.epoch == 0 && t.fget rEpoch meshEpoch_COUNT == 1) = true := by decide +kernel
/-- A port of router 17 in a state; its cores are parked and have passed their self-test. -/
def stPort (q st : Nat) : State := { st0.fset (rPort 17 q) meshPort_STATE st with
  cores := [(0, coreAt true 3)] ++ (endCores 17 .cores).map (fun c => (c, { run := .parked, bistpass := true })) }
theorem witness_MeshControl_ports : endpointAt 17 0 = some .cores ∧ endpointAt 17 1 = some .slice ∧
    (stPort 0 0).mayDrainPort 17 .cores = true ∧ (stPort 0 1).portDrained 17 .cores = true ∧
    (∃ c ∈ endCores 17 .cores, ((stPort 0 3).core c).run ≠ .off ∧ ((stPort 0 3).core c).run ≠ .bist ∧
      ((stPort 0 3).core c).bistpass = true) := by decide +kernel
theorem test_ports : gives (exec (.portDrain .sbc 17 0) (stPort 0 0)) (fun t => t.fget (rPort 17 0) meshPort_STATE == 1) = true ∧
    gives (exec (.portDrainAck 17 0) (stPort 0 1)) (fun t => t.fget (rPort 17 0) meshPort_STATE == 2) = true ∧
    gives (exec (.portFence .sbc 17 0) (stPort 0 2)) (fun t => t.fget (rPort 17 0) meshPort_STATE == 3) = true ∧
    gives (exec (.portOpen .sbc 17 0) (stPort 0 3)) (fun t => t.fget (rPort 17 0) meshPort_STATE == 0) = true ∧
    gives (exec (.portOpen .sbc 17 1) (stPort 1 3)) (fun t => t.fget (rPort 17 1) meshPort_STATE == 3 && t.slTest == [17]) = true ∧
    gives (exec (.portFence .sbc 17 0) (stPort 0 0)) (fun t => t.fget (rPort 17 0) meshPort_ERR == 1) = true := by decide +kernel
/-- A message of tile 3 waits on VC0. -/
def stUrg : State := { st0 with net := [{ reqOf .getS 7 with src := 12, urg := 13 }] }
theorem witness_MeshControl_urgency : stUrg.net[0]?.any (fun m => m.inj && m.opc.vc == 0 && !m.vc3 && stUrg.lane m == 0 &&
    stUrg.inputAt m 3 == some 4 && decide (m.urg ≠ 14)) = true := by decide +kernel
theorem test_urgency : gives (exec (.urgencyRaise 3 4 0 0) stUrg) (fun t => decide (t.net.map (·.urg) = [14])) = true := by decide +kernel

/-- A read and a write queued at channel 0, whose key is valid. -/
def chReq (write : Bool) : ChReq :=
  { pa := 64, write := write, dom := some 0, reserved := false, data := 0x42, bmask := BitVec.allOnes 64, who := if write then .nobody else .nc (ncMsg .ncRead 64) }
def stChan (q : List ChReq) : State := { st0 with chans := [(st0.serving 64, { queue := q })] }
theorem witness_Channels_serve : ((stChan [chReq true]).chan 0).queue = [chReq true] ∧ (stChan [chReq true]).serving 64 = 0 ∧
    (stChan [chReq true]).chanDead 0 = false ∧ (stChan [chReq true]).asleep 0 = false ∧ (stChan [chReq true]).keySlot 64 = some 0 ∧
    (stChan [chReq true]).slotState 0 = 2 := by decide +kernel
theorem test_channel_write : gives (exec (.channelServe 0 .none) (stChan [chReq true])) (fun t => t.mem.take 2 == [(64, 0x42), (65, 0)] &&
    decide (t.mem.length = 64) && (t.chan 0).queue.isEmpty) = true := by decide +kernel
def stChanRead : State :=
  { stChan [chReq false] with mem := (List.range 64).map (fun i => (64 + i, if i = 0 then 9 else 0)), memKey := [(64, (0, 0))] }
theorem test_channel_read : gives (exec (.channelServe 0 .none) stChanRead) (fun t => decide (t.net.map (fun m => (m.opc, m.dst,
    m.data.setWidth 8)) = [(.ncData, .agent 0, 9)])) = true := by decide +kernel
/-- A reserved request behind a best-effort one of another line. -/
def stTwo : State := stChan [{ chReq true with pa := 128 }, { chReq true with reserved := true }]
theorem witness_Channels_order : stTwo.keyWait { chReq true with reserved := true } = false ∧ lineOf 128 ≠ lineOf 64 := by decide +kernel
theorem test_channel_order : gives (exec (.channelServe 0 .none) stTwo) (fun t => decide ((t.chan 0).queue.map (·.pa) = [128])) = true := by
  decide +kernel
/-- Hypotheses of ChannelsGatekeepersAndKeys: the states of a channel, its survivor, its registers. -/
def rMs : Reg := rMc .mcSpare 0
def stMc (state trained survivor : Nat) : State := (((st0.fset (rMc .mcStat 0) mcStat_STATE state).fset (rMc .mcCfg 0) mcCfg_TRAINED trained).fset
  rIlv mcIlv_MIRROR survivor).fset (rMc .mcStat 1) mcStat_STATE 1
theorem witness_Channels_states : (stMc 1 1 1).survivor 0 = true ∧ (stMc 1 1 0).survivor 0 = false ∧ (stMc 2 1 1).chanState 0 = 2 ∧
    (stMc 3 1 1).chanState 0 = 3 ∧ 0 < st0.chanLines ∧ st0.chanLines ≤ 2 ^ 33 ∧ st0.mcLocked = true ∧
    (st0.fset ⟨.mcBwres, 0, 63⟩ mcBwres_SLOTS 5).fget ⟨.mcBwres, 0, 63⟩ mcBwres_SLOTS = 5 ∧ tget 0 (st0.chan 0).granted 63 = 0 ∧
    ((st0.fset rMs mcSpare_SPEN 1).fset rMs mcSpare_SPARE 7).fget rMs mcSpare_SPEN = 1 ∧ st3.mcLocked = true ∧
    ({} : State).mcLocked = false := by decide +kernel
theorem witness_Channels_rights : st3.mayWrite .sbc (rMc .mcSpare 0) ∧ st3.mayWrite .sbc (rMc .mcStat 15) ∧ st3.mayWrite .sbc rIlv :=
  ⟨mayWrite_window (by decide +kernel) rfl rfl (by decide +kernel), mayWrite_window (by decide +kernel) rfl rfl (by decide +kernel),
   mayWrite_global (by decide +kernel) rfl rfl rfl⟩
theorem test_channel_states : gives (exec (.channelFailover .sbc 0) (stMc 1 1 1)) (fun t => t.chanState 0 == 2) = true ∧
    gives (exec (.channelFailover .sbc 0) (stMc 1 1 0)) (fun t => t.chanState 0 == 1 && t.fget (rMc .mcStat 0) mcStat_ERR == 1) = true ∧
    gives (exec (.rejoin .sbc 0) (stMc 2 1 1)) (fun t => t.chanState 0 == 3) = true ∧
    gives (exec (.rejoin .sbc 0) (stMc 2 0 1)) (fun t => t.chanState 0 == 2) = true ∧
    gives (exec (.resilverDone 0) (stMc 3 1 1)) (fun t => t.chanState 0 == 1) = true := by decide +kernel
/-- Gatekeeper 34 whose commit is in progress or not, and with an access that its old regions passed. -/
theorem witness_Gatekeepers : st3.mayWrite .sbc (rMgCtl 34) ∧ st0.fget (rMgCtl 34) mgCtl_BUSY = 0 ∧ st0.gateOpen 34 = false ∧
    (stChan [{ chReq true with pre := true }]).gateOpen 0 = true :=
  ⟨mayWrite_window (by decide +kernel) rfl rfl (by decide +kernel), by decide +kernel, by decide +kernel, by decide +kernel⟩
theorem test_commit : gives (exec (.gatekeeperCommit .sbc 2) (st0.fset (rMgCtl 2) mgCtl_BUSY 1)) (fun t => t.fget (rMgCtl 2) mgCtl_REFUSED == 1) =
    true := by decide +kernel
theorem witness_Keys : st3.mayWrite (.core 0) (rKey 65) ∧ st0.slotState 65 ≠ 1 ∧ (st0.fset (rKey 65) mcKeyslot_STATE 1).slotState 65 = 1 :=
  ⟨mayWrite_global (by decide +kernel) rfl rfl rfl, by decide +kernel, by decide +kernel⟩
theorem test_keys : gives (exec (.generate .sbc 65) st0) (fun t => t.slotState 65 == 1) = true ∧
    gives (exec (.keyValid 65) (st0.fset (rKey 65) mcKeyslot_STATE 1)) (fun t => t.slotState 65 == 2 && t.keyGen 65 == 1) = true ∧
    gives (exec (.generate (.core 0) 65) st3) (fun t => t.slotState 65 == 0) = true := by decide +kernel

/-- Hypotheses of TwinPairsClaimsAndDebug. The pair 0: the cores 0 and 1, both parked or running. -/
def stPair (r : RunState) (en st : Nat) : State :=
  let c : Core := { run := r, arch := { pc := 0x40, g := [(1, 7)] } }
  (({ st0 with cores := [(0, c), (1, { run := r }), (9, coreAt true 3)] }.fset (rTwin 0) cfgTwin_EN en).fset (rTwin 0) cfgTwin_STATE st)
theorem witness_Twin : st3.mayWrite .sbc (rTwin 511) ∧ (stPair .parked 0 0).pairPcn 0 = some 0 ∧ (stPair .parked 0 0).isParked 0 = true ∧
    (stPair .parked 0 0).isParked 1 = true ∧ (stPair .running 0 0).isParked 0 = false :=
  ⟨mayWrite_global (by decide +kernel) rfl rfl rfl, by decide +kernel, by decide +kernel, by decide +kernel, by decide +kernel⟩
theorem test_twin : gives (exec (.twinForm .sbc 0) (stPair .parked 0 0)) (fun t => t.twinState 0 == 1 && (t.core 1).g 1 == 7) = true ∧
    gives (exec (.twinForm .sbc 0) (stPair .running 0 0)) (fun t => t.twinState 0 == 0 && t.fget (rTwin 0) cfgTwin_ERR == 1) = true ∧
    gives (exec (.twinDissolve .sbc 0) (stPair .parked 1 1)) (fun t => t.twinState 0 == 0) = true := by decide +kernel
/-- A running pair that has retired three instructions since its checkpoint at pc 0x20. -/
def stRun (st : Nat) : State := (stPair .running 1 st).modCore 0 (fun c => { c with ck := some { pc := 0x20 }, unagreed := List.replicate 3 c.arch })
theorem witness_Twin_runs : (stRun 1).twinLead 0 = some 0 ∧ ((stRun 1).core 0).inPair = true ∧ ((stRun 1).core 0).ck = some { pc := 0x20 } ∧
    ((stRun 1).core 0).unagreed ≠ [] ∧ ((stRun 1).core 0).defers = [] ∧ ((stRun 1).core 0).deferred = [] ∧
    (((stRun 1).core 0).unagreed[2]?).isSome = true ∧ (stRun 2).twinState 0 = 2 := by decide +kernel
theorem test_twin_runs : gives (exec (.groupAgreed 0 3) (stRun 1)) (fun t => (t.core 0).unagreed.isEmpty && decide ((t.core 0).ck = some (t.core 0).arch)) = true ∧
    gives (exec (.twinMismatch 0 1) (stRun 1)) (fun t => (t.core 0).arch.pc == 0x20 && t.twinState 0 == 2) = true ∧
    gives (exec (.twinMismatch 0 1) (stRun 2)) (fun t => (t.core 0).run == .stopped && t.twinState 0 == 3) = true := by decide +kernel
theorem witness_ReplayEnd : ((stRun 2).fset (rTwstat 0) cfgTwstat_RPCNT 4096).fget (rTwstat 0) cfgTwstat_RPCNT = 4096 := by decide +kernel
/-- Hypotheses of the claims: a tile whose cores are parked, and one with a running core. -/
theorem witness_Claims : (stPair .parked 0 0).ledgFree = true ∧ (∀ p ∈ coresOfTile 0, ((stPair .parked 0 0).modCore 2 (fun c => { c with
    run := .parked })).modCore 3 (fun c => { c with run := .off }) |>.isParked p) ∧
    (∃ p ∈ coresOfTile 0, (stPair .running 0 0).isParked p = false) := by decide +kernel
theorem test_claim : gives (exec (.claimChange .sbc (.tile 0) 1) (stPair .running 0 0)) (fun t => !t.tileClaimed 0 &&
    t.fget ⟨.sbcClaimTile, 0, 0⟩ sbcClaimTile_ERR == 1) = true ∧
    gives (exec (.claimChange .sbc .mc 0x8001) st0) (fun t => t.mcClaimed 15 && t.mcClaimed 0 && !t.mcClaimed 1) = true := by decide +kernel
/-- Core 0 open to debug, halted or not. -/
def stDebug (h : Bool) : State := (st3.wr ⟨.coreDbgen, 0, 0⟩ 0xFF0F).modCore 0 (fun c =>
  { c with halted := h, haltReq := !h })
theorem witness_Debug : (stDebug false).invasive 0 = true ∧ (stDebug false).sampling 0 = true ∧ ((stDebug false).core 0).haltReq = true ∧
    ((stDebug false).core 0).mustFinish = false ∧ ((stDebug false).core 0).draining = false ∧ (stDebug false).follows 0 = false ∧
    ((stDebug true).core 0).halted = true ∧ (stDebug true).dbg = none ∧ ((stDebug true).core 0).sq = [] ∧ dbgSize 8 = true ∧
    place 64 = .dram ∧ (stDebug true).dramOk 64 = true ∧ (stDebug true).anyFence = false := by decide +kernel
theorem test_debug : gives (exec (.debugHalt 0) (stDebug false)) (fun t => (t.core 0).halted && !(t.core 0).haltReq) = true ∧
    gives (exec (.debugAccess (.readG 0 1)) (stDebug true)) (fun t => decide (t.out = [.jtag 64])) = true ∧
    gives (exec (.debugAccess (.readG 0 1)) (stDebug false)) (fun t => decide (t.out = [.jtagRefuse])) = true := by decide +kernel

/-! Field Exchange (R403–R453, R533, R578). -/

theorem witness_FieldPorts_rights : st3.mayWrite .sbc (rPt .fxPortStat 31) ∧ st3.mayWrite .sbc (rPt .fxQbvCtl 0) :=
  ⟨mayWrite_window (by decide +kernel) rfl rfl (by decide +kernel), mayWrite_window (by decide +kernel) rfl rfl (by decide +kernel)⟩
/-- Port 0 enabled with its link up; port 1 is its partner. -/
def stFx : State := ((((st0.fset (rPt .fxPortCfg 0) fxPortCfg_EN 1).fset (rPt .fxPortCfg 0) fxPortCfg_PARTNER 1).fset (rPt .fxPortStat 0)
  fxPortStat_LINK 1).fset (rPt .fxPortStat 0) fxPortStat_STATE 1).fset (rPt .fxPortCfg 0) fxPortCfg_AUTOFO 1
/-- A frame of 60 bytes whose type is 0x0800. -/
def frm : List Byte := [1, 2, 3, 4, 5, 6, 7, 8, 9, 10, 11, 12, 8, 0] ++ List.replicate 46 0
theorem witness_FieldPorts_receive : stFx.portUp 0 = true ∧ frm.length = 60 ∧ beAt frm 12 2 ≠ 0x8808 ∧
    beAt ([1, 2, 3, 4, 5, 6, 7, 8, 9, 10, 11, 12, 0x88, 0x08] ++ List.replicate 46 0) 12 2 = 0x8808 := by decide +kernel
theorem test_frame_receive : gives (exec (.frameReceive 0 (frm.take 59) true) stFx) (fun t => (t.port 0).rx.isEmpty &&
      t.fget (rPt .fxPortCnt 0) fxPortCnt_RXDROP == 1) = true := by decide +kernel
/-- A received frame; a classifier entry for its destination steers it to queue 9, which is enabled and has a descriptor. -/
def stRx (hit : Bool) : State :=
  let s := { stFx with fxp := [(0, { rx := [⟨frm, 100⟩] })] }
  if hit then ((((s.fset (rClsAct 3) fxClsAct_V 1).fset (rClsAct 3) fxClsAct_QUEUE 9).fset (rQ .fxQCfg 9) fxQCfg_TYPE 1).fset (rQ .fxQCtl 9)
    fxQCtl_STATE 1).fset (rQ .fxQPtr 9) fxQPtr_TAIL 2 |>.wr ⟨.fxClsProf, 0, 0⟩ 0x50 |>.fset ⟨.fxClsKey1, 3, 0⟩ fxClsKey1_ETYPE 0x800
  else s
theorem witness_FieldPorts_lookup : (stRx false).clsFind (keyOf 0 0 frm) = none ∧ (stRx true).clsFind (keyOf 0 0 frm) = some 3 ∧
    (stRx true).qRx 9 = true ∧ (stRx true).qState 9 = 1 ∧ (stRx true).qHead 9 ≠ (stRx true).qTail 9 ∧ (stRx true).ringFull 9 = false ∧
    (stRx true).qSize 9 ≤ 2 ^ 16 := by decide +kernel
theorem test_lookup : gives (exec (.classifierLookup 0) (stRx true)) (fun t => t.qHead 9 == 1 && t.fget (rClsAct 3) fxClsAct_HITS == 1 &&
      (t.port 0).rx.isEmpty) = true ∧
    gives (exec (.classifierLookup 0) (stRx false)) (fun t => t.fget (rPt .fxPortCnt 0) fxPortCnt_RXDROP == 1) = true := by decide +kernel
theorem witness_FieldPorts_failover : stFx.mayFailover 0 = true ∧ st0.mayFailover 0 = false ∧ stFx.portEn 0 = true ∧
    (stFx.port 0).restore = none := by decide +kernel
theorem test_failover : gives (exec (.portFailover .sbc 0) stFx) (fun t => t.laneOf 0 == 1 && t.fget (rPt .fxPortStat 0)
      fxPortStat_LANEFAIL == 1 && t.portState 1 == 2) = true ∧
    gives (exec (.portFailover .sbc 0) st0) (fun t => t.laneOf 0 == 0 && t.fget (rPt .fxPortStat 0) fxPortStat_ERR == 1) = true := by
  decide +kernel
/-- The link of port 0 is down since a cycle. -/
def stDown (t0 : Nat) : State := { stFx.fset (rPt .fxPortStat 0) fxPortStat_LINK 0 with now := 20000 + t0, fxp := [(0, { downAt := 1 })] }
theorem witness_FieldPorts_auto : (stDown 1).portUp 0 = false ∧ (stDown 1).mayFailover 0 = true ∧
    ((stDown 1).port 0).downAt + 20000 ≤ (stDown 1).now ∧ (stDown 0).now < ((stDown 0).port 0).downAt + 20000 := by decide +kernel
theorem test_auto_failover : gives (exec (.autoFailover 0) (stDown 1)) (fun t => t.laneOf 0 == 1) = true ∧
    gives (exec (.autoFailover 0) (stDown 0)) (fun t => t.laneOf 0 == 0) = true := by decide +kernel
/-- A restore pending since cycle 1, of a port without queues. -/
def stRestore (n : Nat) : State := { (stFx.fset (rPt .fxPortStat 0) fxPortStat_LANEFAIL 1).fset (rPt .fxPortStat 0) fxPortStat_LANE 1 with
  now := n, fxp := [(0, { restore := some 1 })] }
theorem witness_FieldPorts_restore : (stRestore 20000001).fxq = [] ∧ ((stRestore 20000001).port 0).restore = some 1 ∧
    (stRestore 20000001).fget (rPt .fxPortStat 0) fxPortStat_LANEFAIL = 1 := by decide +kernel
theorem test_restore : gives (exec (.restoreSwitch 0) (stRestore 20000001)) (fun t => t.laneOf 0 == 0) = true ∧
    gives (exec (.restoreSwitch 0) (stRestore 20000000)) (fun t => t.laneOf 0 == 1) = true := by decide +kernel
/-- Queue 4 of port 0 with one frame that is ready, at its launch time or as an ordinary one. -/
def fxJob (lt : Bool) : FxJob := { idx := 0, gen := 0, st := .ready, flen := 60, lt := lt, launch := 100, frame := frm }
def stTx (lt : Bool) : State := { stFx.fset ⟨.clkCt, 0, 0⟩ clkCt_CT 96 with fxq := [(4, [fxJob lt])] }
theorem portQs_one (lt : Bool) : (stTx lt).portQs 0 = [4] := by cases lt <;> simp [State.portQs, stTx] <;> decide +kernel
theorem witness_FieldPorts_start : (stTx true).launchPick 0 = some (4, fxJob true) ∧ (stTx false).launchPick 0 = none ∧
    (stTx false).ordinaryPick 0 = some (4, fxJob false) ∧ (stTx true).wireJob 0 = none := by
  unfold State.launchPick State.ordinaryPick
  rw [portQs_one, portQs_one]
  decide +kernel
/-- An administrative gate list of one entry, good or with an interval of 0. -/
def stQbv (iv : Nat) : State := (((stFx.fset (rPt .fxQbvCtl 0) fxQbvCtl_ALEN 1).fset (rPt .fxQbvCycle 0) fxQbvCycle_CYCLE 1000).fset ⟨.fxQbvEnt, 0, 0⟩
  fxQbvEnt_INTERVAL iv).fset ⟨.fxQbvEnt, 0, 0⟩ fxQbvEnt_GATES 3
theorem witness_FieldPorts_gates : (stQbv 500).adminList 0 = [(3, 0, 500)] ∧ (stQbv 0).adminList 0 = [(3, 0, 0)] ∧
    (stQbv 500).portState 0 ≠ 2 := by decide +kernel
theorem test_gcl_commit : gives (exec (.gclCommit .sbc 0) (stQbv 500)) (fun t => t.fget (rPt .fxQbvCtl 0) fxQbvCtl_PENDING == 1 &&
      (t.port 0).commitAt % 1000 == 0 && decide (1000 ≤ (t.port 0).commitAt)) = true ∧
    gives (exec (.gclCommit .sbc 0) (stQbv 0)) (fun t => t.fget (rPt .fxQbvCtl 0) fxQbvCtl_PENDING == 0 &&
      t.fget (rPt .fxQbvCtl 0) fxQbvCtl_ERR == 1) = true := by decide +kernel
/-- A pending commit whose time has come; an operational list at its entry; a safe frame that is due. -/
def stGcl : State := { ((stQbv 500).fset (rPt .fxQbvCtl 0) fxQbvCtl_PENDING 1).fset ⟨.clkCt, 0, 0⟩ clkCt_CT 2000 with
  fxp := [(0, { commitAt := 2000, opl := [(1, 0, 400), (6, 1, 600)], opCycle := 1000, opFrom := 1500, safeOn := true, safeLeft := 1 })] }
theorem witness_FieldPorts_time : stGcl.fget (rPt .fxQbvCtl 0) fxQbvCtl_PENDING = 1 ∧ (stGcl.port 0).commitAt ≤ stGcl.ct.toNat ∧
    entryAt (stGcl.port 0).opl ((stGcl.ct.toNat - 1500) % 1000) = some (6, 1, 600) ∧ stGcl.wireJob 0 = none ∧
    (stGcl.port 0).safeNext ≤ stGcl.now := by decide +kernel
theorem test_gate_change : gives (exec (.gateChange 0) stGcl) (fun t => (t.port 0).gates == 6 && (t.port 0).hold) = true ∧
    gives (exec (.gclActivate 0) stGcl) (fun t => decide ((t.port 0).opl = [(3, 0, 500)])) = true ∧
    gives (exec (.safeFrameRepeat 0) stGcl) (fun t => !(t.port 0).safeOn && t.fget (rPt .fxPsafeCtl 0) fxPsafeCtl_SENT == 1) = true := by
  decide +kernel
/-- A launch-time frame whose data are still being read shortly before its launch. -/
def stLate : State := { stTx true with fxq := [(4, [{ fxJob true with st := .reading, launch := 200 }])] }
theorem witness_FieldPorts_late : ((stLate.jobs 4).find? (fun k => k.pendingLaunch && decide (k.launch ≤ stLate.ct.toNat + 160))).isSome =
    true := by decide +kernel
theorem test_late : gives (exec (.launchDeadline 4) stLate) (fun t => t.fget (rPt .fxPortCnt 0) fxPortCnt_LATE == 1 &&
    (t.jobs 4).all (fun k => k.st == .done && k.status == 2)) = true := by decide +kernel

/-- Hypotheses of QueuesAndFunctions. Function 2, with the queues 4–11 and the interrupts 1024–1027, through stream 2 and its context of the open D0. -/
def stFn (st : Nat) : State := (((((((((stFx.fset (rFn .fxFnCfg 2) fxFnCfg_QBASE 4).fset (rFn .fxFnCfg 2) fxFnCfg_QCNT 8).fset (rFn .fxFnCfg 2)
  fxFnCfg_INTBASE 1024).fset (rFn .fxFnCfg 2) fxFnCfg_INTCNT 4).fset (rFn .fxFnCtl 2) fxFnCtl_STATE st).fset ⟨.iotuSte, 2, 0⟩ iotuSte_V 1).fset
  (rCtx .iotuCtxCfg 0) iotuCtxCfg_V 1).fset (rCtx .iotuCtxCfg 0) iotuCtxCfg_WORLD 1)).fset (rQ .fxQPtr 4) fxQPtr_TAIL 3
theorem witness_Queues_rights : st3.mayWrite .sbc (rQ .fxQCtl 4095) ∧ st3.mayWrite .sbc (rFn .fxFnCfg 255) ∧ st3.mayWrite .sbc (rFn .fxFnCtl 0) :=
  ⟨mayWrite_window (by decide +kernel) rfl rfl (by decide +kernel), mayWrite_window (by decide +kernel) rfl rfl (by decide +kernel),
   mayWrite_window (by decide +kernel) rfl rfl (by decide +kernel)⟩
def stQ (fn q : Nat) : State := (stFn fn).fset (rQ .fxQCtl 4) fxQCtl_STATE q
theorem witness_Queues : (stQ 2 0).mayEnableQ 4 = true ∧ (stQ 0 0).mayEnableQ 4 = false ∧ (stQ 2 2).qState 4 = 2 ∧ (stQ 2 2).jobs 4 = [] ∧
    (stQ 2 2).io = [] := by decide +kernel
theorem test_queue_enable : gives (exec (.queueEnable .sbc 4) (stQ 2 0)) (fun t => t.qState 4 == 1) = true ∧
    gives (exec (.queueEnable .sbc 4) (stQ 0 0)) (fun t => t.qState 4 == 0 && t.fget (rQ .fxQCtl 4) fxQCtl_CFGERR == 1) = true ∧
    gives (exec (.queueDrainDone 4) (stQ 2 2)) (fun t => t.qState 4 == 0) = true := by decide +kernel
/-- Sealed L3 rings the doorbells of function 2. -/
def stBell : State := { stQ 2 1 with cores := [(0, coreAt true 3)] }
theorem witness_Doorbells : (stBell.accOf (.core 0)).isCore = true ∧ stBell.streamWho 2 = some (true, 0) ∧ stBell.fnGen 2 = 0 ∧ stBell.qState 4 = 1 ∧
    stBell.qSize 4 = 64 ∧ 0 < stBell.fget (rFn .fxFnCfg 2) fxFnCfg_QCNT := by decide +kernel
theorem test_doorbells : gives (exec (.descriptorDoorbell (.core 0) 2 0 7) stBell) (fun t => t.qTail 4 == 7) = true ∧
    gives (exec (.descriptorDoorbell (.core 0) 2 0 2) stBell) (fun t => t.qTail 4 == 3 && t.fget (rQ .fxQErr 4) fxQErr_DBERR == 1) = true ∧
    gives (exec (.descriptorDoorbell (.core 0) 2 0 0x10007) stBell) (fun t => t.fget (rFn .fxFnStat 2) fxFnStat_GENDROP == 1) = true ∧
    gives (exec (.completionDoorbell (.core 0) 2 0 0) stBell) (fun t => t.fget (rQ .fxQPtr 4) fxQPtr_CHEAD == 0) = true := by decide +kernel
/-- The line of a descriptor of 100 bytes at 0x4000 has come. -/
def descIo (pois : BitVec 4) : IoReq :=
  { id := 1, agent := 0x840, stream := 2, ctx := 0, pa := 0, size := 32, write := false, use := .desc 4 0 1, world := true, dom := 0, sent := true,
    done := true, data := 0x4000#512 ||| 100#512 <<< 48, poison := pois }
def stDesc (pois : BitVec 4) : State := { stQ 2 1 with io := [descIo pois], fxq := [(4, [{ idx := 0, gen := 0 }])] }
theorem witness_DescriptorFetch : (stDesc 0).portUp ((stDesc 0).qPort 4) = true ∧ (stDesc 0).qState 4 = 1 ∧
    poisoned (poison8 1) 0 32 = true ∧ bits (descDw (descIo 0).data 0 0) 48 16 = 100 ∧ descDw (descIo 0).data 0 2 = 0 := by decide +kernel
theorem test_descriptor_fetch : gives (exec (.descriptorFetch 4) (stDesc 0)) (fun t => (t.jobs 4).any (fun k => k.idx == 0 && k.st == .fetched &&
      k.buf == 0x4000 && k.len == 100)) = true ∧
    gives (exec (.descriptorFetch 4) (stDesc 1)) (fun t => t.qState 4 == 3 && t.fget (rQ .fxQCtl 4) fxQCtl_QERR == 2) = true := by decide +kernel
/-- A frame of queue 4 that is done, with its completion not begun or written. -/
def stDone (k : Nat) : State :=
  let io : List IoReq := if k = 2 then [{ descIo 0 with use := .compl 4 0, write := true }] else []
  { (stQ 2 1).fset (rQ .fxQPtr 4) fxQPtr_TAIL 0 with fxq := [(4, [{ idx := 0, gen := 0, st := .done, cstep := k }])], io := io }
theorem witness_Completions : (stDone 0).fnOfQueue 4 = some 2 ∧ (stDone 0).ringFull 4 = false ∧ (stDone 0).fxShut 2 0 = false ∧
    ((stDone 2).io.find? (fun r => r.use == .compl 4 0)).any (fun r => r.done && !r.err && !r.drop) = true ∧
    (stDone 2).qHead 4 = (stDone 2).qTail 4 ∧ ((stDone 0).fset (rQ .fxQPtr 4) fxQPtr_CHEAD 1).ringFull 4 = true := by decide +kernel
theorem witness_Completions_interrupt : (stFn 2).canPend 1024 = true ∧ (stFn 2).edgeSrc 1024 = true ∧ (stFn 2).intClr = [] := by decide +kernel
/-- A frame of 60 bytes that is fetched or being read; nothing else of queue 4 is under way. -/
def stRead (lt : Bool) (st : FxSt) : State :=
  let r : IoReq := { descIo 0 with use := .txData 4 0, size := 64, data := 0x1234 }
  { (stQ 2 1).fset (rQ .fxQPtr 4) fxQPtr_TAIL 0 with
    now := 2
    ctOn := true
    io := if st == .reading then [r] else []
    fxq := [(4, [{ fxJob lt with st := st, buf := 0x4000, len := 60, launch := 20000, pos := if st == .reading then 1 else 0 }])] }
theorem stRead_fxq (lt : Bool) : (stRead lt .fetched).fxq.map (·.1) = [4] := rfl
theorem portQs_read (lt : Bool) : (stRead lt .fetched).portQs 0 = [4] := by
  unfold State.portQs
  rw [stRead_fxq]
  have h : (!(stRead lt .fetched).qRx 4 && (stRead lt .fetched).qPort 4 == 0) = true := by cases lt <;> decide +kernel
  simp [h]
/-- A queue that has nothing to ask for stays as it is. -/
theorem fxPump_rest {s : State} {q : Nat} (h : (!s.qRx q && s.portUp (s.qPort q) && !s.inSafe &&
    ((s.jobs q).find? (fun j => j.st == .reading && decide (j.pos < j.lines))).isNone && decide (s.qHead q = s.qTail q)) = true) :
    s.fxPump q = s := by
  simp only [Bool.and_eq_true, Bool.not_eq_true', decide_eq_true_eq, Option.isNone_iff_eq_none] at h
  obtain ⟨⟨⟨⟨hr, hu⟩, hs⟩, hj⟩, hh⟩ := h
  have fix : ∀ (f : State → State) (l : List Nat), f s = s → l.foldl (fun a _ => f a) s = s := by
    intro f l e
    induction l with
    | nil => rfl
    | cons _ _ ih => simpa [e] using ih
  have h1 : s.dataOne q = s := by unfold State.dataOne; rw [hj]
  have h2 : s.fetchOne q = s := by unfold State.fetchOne; simp [hh]
  have h3 : s.linkDrop q = s := by unfold State.linkDrop; simp [hu]
  unfold State.fxPump
  rw [h3]
  simp only [hs, hr, Bool.false_eq_true, if_false]
  rw [fix (fun a => a.dataOne q) _ h1, fix (fun a => a.fetchOne q) _ h2]
theorem witness_TxRead_pump (lt : Bool) (st : FxSt) (h : st = .fetched ∨ st = .reading) : (stRead lt st).fxPump 4 = stRead lt st :=
  fxPump_rest (by cases lt <;> rcases h with rfl | rfl <;> decide +kernel)
theorem witness_TxRead : (stRead true .fetched).portUp ((stRead true .fetched).qPort 4) = true ∧ nextRead ((stRead true .fetched).jobs 4) =
      some { fxJob true with st := .fetched, buf := 0x4000, len := 60, launch := 20000 } ∧ (stRead true .fetched).ct = 0 := by decide +kernel
theorem witness_TxRead_room : (stRead true .fetched).qPort 4 = 0 ∧ (stRead true .fetched).bufUsed 0 + 60 ≤ 32768 := by
  refine ⟨by decide +kernel, ?_⟩
  unfold State.bufUsed
  rw [portQs_read]
  decide +kernel
theorem test_frame_ready : gives (exec (.frameReady 4) (stRead false .reading)) (fun t => (t.jobs 4).any (fun k => k.st == .ready &&
      decide (k.frame = [0x34, 0x12] ++ List.replicate 58 0))) = true := by decide +kernel
theorem test_completion : gives (exec (.completionWrite 4) (stDone 0)) (fun t => t.qCtail 4 == 1) = true ∧
    gives (exec (.completionWrite 4) (stDone 2)) (fun t => (t.jobs 4).isEmpty) = true := by decide +kernel
theorem witness_Functions : ([0, 1, 2, 3].all (fun n => (stFn n).fnState 2 == n)) = true ∧ st0.fnEnableBad 2 = 7 ∧
    (stFn 3).io = [] ∧ (∀ e ∈ (stFn 3).regs, e.1.name = .fxQCtl → fld e.2 fxQCtl_STATE = 0) ∧ (stFn 2).fnCfgBad 2 0 0 = 1 ∧ st0.fnCfgBad 2 0 0 = 0 ∧ (stFn 1).fnReset.contains 2 = false := by decide +kernel
theorem test_functions : gives (exec (.functionEnable .sbc 2) (st0.fset (rFn .fxFnCtl 2) fxFnCtl_STATE 0)) (fun t => t.fnState 2 == 0 &&
      t.fget (rFn .fxFnCtl 2) fxFnCtl_ERRCODE == 7) = true ∧
    gives (exec (.functionEnabled 2) (stFn 1)) (fun t => t.fnState 2 == 2) = true ∧
    gives (exec (.functionDisable .sbc 2) (stFn 2)) (fun t => t.fnState 2 == 3) = true ∧
    gives (exec (.functionDisabled 2) (stFn 3)) (fun t => t.fnState 2 == 0 && t.fnGen 2 == 1) = true := by decide +kernel
theorem witness_FunctionStuck : tfind ({ (stFn 3).fset ⟨.clkCt, 0, 0⟩ clkCt_CT 1000000 with fnSince := [(2, 0)] } : State).fnSince 2 = some 0 := by
  decide +kernel

/-! The Supervisor Port, the root ports, Firebreak, the records, resets and boot, rails (R457–R514, R538–R581). -/

theorem witness_SupervisorPort_rights : st3.mayWrite .sbc (rSp .spWctl) ∧ st3.mayWrite .sbc (rSp .spHintset) :=
  ⟨mayWrite_global (by decide +kernel) rfl rfl rfl, mayWrite_global (by decide +kernel) rfl rfl rfl⟩
/-- The Supervisor Port's link is up, with a commit in progress or not; memory space is enabled in its header. -/
def stSp (busy ready : Nat) : State := { ((st0.fset (rSp .spStat) spStat_LINK 1).fset (rSp .spWctl) spWctl_BUSY busy).fset (rSp .spCtl) spCtl_READY ready with
  spHdr := [(1, 2), (0x0C, 1)] }
/-- Two enabled windows that overlap. -/
def stOverlap : State := ((stSp 0 1).fset (rWinCfg 0) spWinCfg_EN 1).fset (rWinCfg 5) spWinCfg_EN 1
theorem witness_SupervisorPort_windows : (stSp 0 1).winOverlap = false ∧ (stSp 1 1).fget (rSp .spWctl) spWctl_BUSY = 1 ∧ (stSp 1 1).io = [] ∧
    (stSp 1 1).spWait = [] := by decide +kernel
theorem test_window_commit : gives (exec (.windowCommit .sbc) (stSp 0 1)) (fun t => t.fget (rSp .spWctl) spWctl_BUSY == 1) = true ∧
    gives (exec (.windowCommit .sbc) stOverlap) (fun t => t.fget (rSp .spWctl) spWctl_BUSY == 0 &&
      t.fget (rSp .spWctl) spWctl_OVERLAP == 1) = true ∧
    gives (exec .windowCommitDone (stSp 1 1)) (fun t => t.fget (rSp .spWctl) spWctl_BUSY == 0) = true := by decide +kernel
theorem witness_SupervisorPort_host : (stSp 0 1).spPerst = false ∧ (stSp 0 1).fget (rSp .spStat) spStat_LINK = 1 ∧
    ((stSp 0 1).spDword 0x21 &&& 3) = 0 ∧ ((stSp 0 1).spDword 1).getLsbD 1 = true ∧ ((stSp 0 1).spDword 0x0C).getLsbD 0 = true ∧
    (stSp 0 1).winOf 0 8 = none ∧ (stSp 0 1).spInta = false ∧ (stSp 0 1).canPend 160 = true ∧
    (stSp 0 1).edgeSrc 160 = true ∧ (stSp 0 1).intClr = [] := by decide +kernel
theorem test_host_cfg : gives (exec (.spInboundRequest { kind := .cfg, write := false, off := 0, size := 4 }) (stSp 0 0)) (fun t =>
      decide (t.out = [.hostCpl 2 false 4 0])) = true ∧
    gives (exec (.spInboundRequest { kind := .cfg, write := false, off := 4, size := 4 }) (stSp 0 1)) (fun t =>
      decide (t.out = [.hostCpl 0 false 4 2])) = true ∧
    gives (exec (.spInboundRequest { kind := .bar2, write := false, off := 0, size := 8, pasid := true }) (stSp 0 1)) (fun t =>
      (t.spDword 0x41).getLsbD 20 && decide (t.out = [.hostCpl 1 false 8 0])) = true := by decide +kernel
/-- The host's configuration read of `CLK_PLL`, on its way, at its block, and answered. -/
def hcOff : Nat := 1 * 0x8000000
def hcMsg (o : Opc) : Msg :=
  { ncMsg o (cfgBase + hcOff) with src := 0x820, dst := if o == .ncRead then .target else .agent 0x820, aux := 1, world := false, level := 1 }
def stHc (o : Opc) : State :=
  { stSp 0 1 with net := [hcMsg o], io := if o == .ncRead then [] else
      [{ agent := 0x820, stream := 0, size := 8, write := false, id := 1, pa := cfgBase + hcOff, ctx := 0, world := false, dom := 0, use := .hostCfg, sent := true }] }
theorem witness_SupervisorPort_config : place (cfgBase + hcOff) = .cfg hcOff ∧ hcOff % 8 = 0 ∧ (stSp 0 1).setNow = [] ∧ (stSp 0 1).anyFence = false ∧
    (stSp 0 1).io = [] ∧ (stHc .ncRead).cfgAt (hcMsg .ncRead).acc hcOff 8 = .reg ⟨.clkPll, 0, 0⟩ none ∧
    ((stHc .ncRead).recv (fun k => (k.opc == .ncRead && k.src == 0x820 && k.pa == cfgBase + hcOff) && decide (k.dst = .target))).isSome = true ∧
    ((stHc .ncData).recv (fun k => k.opc == .ncData && decide (k.dst = .agent 0x820))).isSome = true := by decide +kernel
theorem test_host_config : gives (exec (.hostConfigAccess false 8 hcOff 0) (stSp 0 1)) (fun t =>
      decide (t.net.map (fun m => (m.opc, m.dst, m.src, m.pa)) = [(.ncRead, .target, 0x820, cfgBase + hcOff)])) = true ∧
    gives (exec (.ncData 0x820) (stHc .ncData)) (fun t => t.io.isEmpty && decide (t.out = [.hostCpl 0 false 8 0x99])) = true := by decide +kernel
theorem test_host_doorbell : gives (exec (.hostDoorbell 0x123456789) (stSp 0 1)) (fun t => t.fget (rSp .spHdbval) spHdbval_VALUE == 0x23456789 &&
    (t.src 160).edgePend) = true := by decide +kernel
theorem test_sp_resets : gives (exec (.spLinkReset .linkDown) (stSp 0 1)) (fun t => t.fget (rSp .spStat) spStat_LINK == 0 && t.spHdr.isEmpty) = true ∧
    gives (exec (.spLinkUp 3 4) st0) (fun t => t.fget (rSp .spStat) spStat_LINK == 1) = true ∧
    gives (exec (.hintSet .sbc 5) (stSp 0 1)) (fun t => t.rd (rSp .spHint) == 5) = true := by decide +kernel

/-- A read of core 0 for the card behind root port 2. -/
def rpPa : Nat := 0xD20000000040
def stRp (o : Opc) (up cont : Bool) : State :=
  { st0.fset (rRp .rpStat 2) rpStat_CONT (b2n cont) with rpUp := [(2, up)], net := [{ ncMsg o rpPa with world := false }] }
theorem witness_RootPorts : place rpPa = .rp 2 0x40 ∧ (stRp .ncRead true false).rpMerged 2 = false ∧ (ncMsg .ncRead rpPa).fromCore = true ∧
    (stRp .ncRead true false).heldAt (ncMsg .ncRead rpPa) = none ∧ (stRp .ncRead true false).linkActive 2 = true ∧
    (stRp .ncRead true true).contained 2 = true ∧ (stRp .ncRead true false).rpTag 2 = some 0 := by decide +kernel
/-- Every tag of port 2 is taken. -/
def stTags : State := { st0 with rpOut := (List.range 256).map (fun t => ((2, t), ⟨none, 4, 0⟩)) }
theorem witness_RootPorts_tags : stTags.rpTag 2 = none := by
  unfold State.rpTag
  rw [List.find?_eq_none]
  intro t ht
  have hl : ∀ l : Tab (Nat × Nat) RpOut, (2, t) ∈ l.map (·.1) → (tfind l (2, t)).isNone = false := by
    intro l
    induction l with
    | nil => intro h; simp at h
    | cons e l ih =>
      intro h
      simp only [tfind]
      split
      · rfl
      · next ne =>
        simp only [List.map_cons, List.mem_cons] at h
        rcases h with h | h
        · exact absurd h.symm ne
        · exact ih h
  rw [hl]
  · simp
  · simp only [stTags, List.map_map, List.mem_map]
    exact ⟨t, ht, rfl⟩
theorem test_rp_read : gives (exec (.rpOutboundRequest 2) (stRp .ncRead true false)) (fun t => decide (t.out = [.cardReq 2 0 false 0 0x40 8 0 false]) &&
      t.net.isEmpty) = true ∧
    gives (exec (.rpOutboundRequest 2) (stRp .ncRead false false)) (fun t => decide (t.net.map (fun m => (m.opc, m.data)) =
      [(.ncData, 0xFFFFFFFFFFFFFFFF)]) && t.out.isEmpty) = true := by decide +kernel
/-- The read waits for its completion since cycle 0. -/
def stRpWait (now : Nat) : State := { stRp .ncRead true false with net := [], rpOut := [((2, 0), ⟨some (ncMsg .ncRead rpPa), 8, 0⟩)], now := now }
theorem witness_RootPorts_completion : (tfind (stRpWait 0).rpOut (2, 0)).isSome = true ∧ (stRpWait 0).rpTimeout 2 = 10000000 := by decide +kernel
theorem test_rp_completion : gives (exec (.rpCompletion 2 0 .ok 0xABC) (stRpWait 0)) (fun t => decide (t.net.map (fun m => (m.opc, m.data)) =
      [(.ncData, 0xABC)]) && t.rpOut.isEmpty) = true ∧
    gives (exec (.rpCompletion 2 0 .ur 0) (stRpWait 0)) (fun t => decide (t.net.map (fun m => (m.opc, m.status)) = [(.ncErr, 3)])) = true ∧
    gives (exec (.completionTimeout 2) (stRpWait 10000000)) (fun t => t.rpOut.isEmpty && t.fget (rRp .rpStat 2) rpStat_CTOCNT == 1) = true ∧
    gives (exec (.completionTimeout 2) (stRpWait 9999999)) (fun t => !t.rpOut.isEmpty) = true := by decide +kernel
theorem test_rp_inbound : gives (exec (.rpInboundRequest 2 { kind := .intx 3 true, write := true, bus := 0, addr := 0, size := 0 })
      (stRpWait 0)) (fun t => tget 0 t.rpIntx 2 == 8) = true ∧
    gives (exec (.rpInboundRequest 2 { kind := .unsupported, write := false, bus := 0, addr := 0, size := 4 }) (stRpWait 0)) (fun t =>
      decide (t.out = [.cardCpl 2 1 false 4 0])) = true := by decide +kernel
theorem witness_RootPorts_rights : st3.mayWrite .sbc (rRp .rpStat 15) := mayWrite_window (by decide +kernel) rfl rfl (by decide +kernel)
/-- An empty slot that is powered and enabled, then with a card. -/
def stHot (card : Bool) : State := { (st0.fset (rRp .rpCtl 2) rpCtl_EN 1).setImg 2 0x16 0 with rpCard := [(2, card)] }
theorem witness_RootPorts_slot : (stHot true).rpMayTrain 2 = true ∧ (stHot false).rpMayTrain 2 = false ∧ tget false (stHot false).rpCard 2 ≠ true ∧
    (stHot true).imgBit 2 0x54 0 = false ∧ bits (((stHot true).setImg 2 0x53 0x10000).img 2 0x53).toNat 16 2 ≠ 0 := by decide +kernel
theorem test_hot_plug : gives (exec (.presenceChange 2 true) (stHot false)) (fun t => t.imgBit 2 0x16 19 && t.imgBit 2 0x16 22) = true ∧
    gives (exec (.rpLinkUp 2) (stHot true)) (fun t => t.linkActive 2) = true ∧
    gives (exec (.rpLinkUp 2) (stHot false)) (fun t => !t.linkActive 2) = true ∧
    gives (exec (.surpriseDown 2) { stRpWait 0 with rpOut := [] }) (fun t => t.contained 2 && !t.linkActive 2) = true := by decide +kernel

/-- Source 20 reacts to UC with a code, or is watched by slot 4. -/
def stFb (code : Nat) (watch : Bool) (safe : Option Nat) : State :=
  let s := { (st0.wr (rFbCfg 20) (setFld 0 fbSrcCfg_UCCODE code)) with safeAt := safe, cores := [(20, { run := .running })] }
  if watch then s.wr (rWatchCfg 4) (setFld (setFld (setFld (setFld (setFld 0 fbWatchCfg_EN 1) fbWatchCfg_CLASS 1) fbWatchCfg_LAST 4095) fbWatchCfg_TIMEOUT 3)
    fbWatchCfg_STAGE2 7) else s
theorem witness_Firebreak : fbRaises 20 .uc = true ∧ fbRaises 20 .ft = false ∧ (stFb 1 false none).fbq = [] ∧ (stFb 1 false none).watchOf 20 .uc = none ∧
    (stFb 1 true none).watchOf 20 .uc = some 4 ∧ (stFb 1 true none).fget (rWatchStat 4) fbWatchStat_STATE ≠ 1 ∧
    (stFb 1 false none).frozen = false ∧ (stFb 1 false none).ashQ.length < 64 ∧
    ((stFb 3 false none).core 20).run = .running ∧ (stFb 3 false none).leads 20 = false ∧ (stFb 4 false none).rst = none := by decide +kernel
theorem test_firebreak_codes : gives (exec (.firebreakEvent 20 .uc 0) (stFb 1 false none)) (fun t => t.fget (rFbStat 20) fbSrcStat_IP == 1 &&
      t.fget (rFbStat 20) fbSrcStat_UCCNT == 1) = true ∧
    gives (exec (.firebreakEvent 20 .uc 0) (stFb 3 false none)) (fun t => (t.core 20).run == .parking) = true ∧
    gives (exec (.firebreakEvent 20 .uc 0) (stFb 4 false none)) (fun t => decide (t.rst = some (4, 2))) = true ∧
    gives (exec (.firebreakEvent 20 .uc 0) (stFb 5 false none)) (fun t => t.fget rFbPin fbPin_ASSERTED == 1) = true ∧
    gives (exec (.firebreakEvent 20 .uc 0) (stFb 7 false none)) (fun t => decide (t.safeAt = some 0)) = true ∧
    gives (exec (.firebreakEvent 20 .uc 0) (stFb 7 true none)) (fun t => decide (t.safeAt = none) && t.fget (rWatchStat 4) fbWatchStat_STATE == 1) = true ∧
    gives (exec (.firebreakEvent 20 .uc 0) (stFb 4 false (some 0))) (fun t => decide (t.rst = none)) = true := by decide +kernel
/-- Events merged while nothing took them. -/
theorem witness_Firebreak_merged : ({ stFb 1 false (some 0) with fbq := [⟨20, .uc, 3, 0⟩] } : State).fbq = [⟨20, .uc, 3, 0⟩] := by decide +kernel
/-- Watch slot 4 is armed until cycle 600. -/
def stArmedW (now : Nat) : State := { (stFb 1 true none).fset (rWatchStat 4) fbWatchStat_STATE 1 with now := now, armed := [(4, ⟨600, 20, .uc, 0⟩)] }
theorem witness_Firebreak_watch : tfind (stArmedW 600).armed 4 = some ⟨600, 20, .uc, 0⟩ ∧ fbCodeOk 20 .uc 7 = true ∧ fbCodeOk 20 .uc 4 = true ∧
    st3.ledgFree = true := by decide +kernel
theorem witness_Firebreak_rights : st3.mayWrite .sbc (rWatchStat 31) ∧ st3.mayWrite .sbc rFbPin ∧ st3.mayWrite .sbc ⟨.fbCtl, 0, 0⟩ :=
  ⟨mayWrite_global (by decide +kernel) rfl rfl rfl, mayWrite_global (by decide +kernel) rfl rfl rfl, mayWrite_global (by decide +kernel) rfl rfl rfl⟩
theorem test_watch : gives (exec (.watchExpiry 4) (stArmedW 600)) (fun t => decide (t.safeAt = some 600) && t.fget (rWatchStat 4) fbWatchStat_STATE == 2) = true ∧
    gives (exec (.watchExpiry 4) (stArmedW 599)) (fun t => decide (t.safeAt = none)) = true ∧
    gives (exec (.watchAck .sbc 4 0) (stArmedW 0)) (fun t => t.fget (rWatchStat 4) fbWatchStat_STATE == 0 && t.armed.isEmpty) = true ∧
    gives (exec (.watchAck .sbc 4 1) (stArmedW 0)) (fun t => t.fget (rWatchStat 4) fbWatchStat_STATE == 1 &&
      t.fget (rWatchStat 4) fbWatchStat_ACKSTALE == 1) = true := by decide +kernel
/-- The error pin is asserted; its minimum pulse ends at cycle 200. -/
def stPin (done held now : Nat) : State :=
  { ((st0.fset rFbPin fbPin_ASSERTED 1).fset rFbPin fbPin_MINDONE done).fset rFbPin fbPin_HELD held with pinEnd := 200, now := now }
theorem test_pin : gives (exec (.pinRelease .sbc 0) (stPin 1 0 0)) (fun t => t.fget rFbPin fbPin_ASSERTED == 0) = true ∧
    gives (exec (.pinRelease .sbc 0) (stPin 0 0 0)) (fun t => t.fget rFbPin fbPin_ASSERTED == 1 && t.fget rFbPin fbPin_HELD == 1) = true ∧
    gives (exec (.pinRelease .sbc 9) (stPin 1 0 0)) (fun t => t.fget rFbPin fbPin_RELERR == 1) = true ∧
    gives (exec .pinMinEnd (stPin 0 1 200)) (fun t => t.fget rFbPin fbPin_ASSERTED == 0) = true ∧
    gives (exec .pinMinEnd (stPin 0 1 199)) (fun t => t.fget rFbPin fbPin_ASSERTED == 1) = true := by decide +kernel
/-- The safe state since cycle 5; then with nSAFE asserted and no write left in a channel. -/
def stSafe (now : Nat) (n : Bool) : State := { st0 with safeAt := some 5, now := now, nSafe := n, cores := [(20, { run := .running })] }
theorem witness_Firebreak_safe : (stSafe 2005 false).nSafe = false ∧ (stSafe 2005 true).chanLive 0 = true ∧ ((stSafe 2005 true).chan 0).queue = [] ∧
    (∀ j, j < 16 → j ≠ 0 → (stSafe 2005 true).chanLive j = false) ∧ (st3.accOf (.core 0)).sealed3 = true ∧
    ((stAt false 2).accOf (.core 0)).sealed3 = false := by decide +kernel
theorem test_safe : gives (exec .safeNsafeAssert (stSafe 2005 false)) (fun t => t.nSafe && (t.core 20).run == .safehalt) = true ∧
    gives (exec .safeNsafeAssert (stSafe 2004 false)) (fun t => !t.nSafe) = true ∧
    gives (exec (.safeSelfRefresh 0) (stSafe 2005 true)) (fun t => t.chanState 0 == 4 && t.frozen) = true ∧
    gives (exec (.safeRequest .sbc) st0) (fun t => decide (t.safeAt = some 0) && t.fget rFbSafe fbStat_SAFECAUSE == 3) = true := by decide +kernel
theorem witness_Firebreak_vote : st0.fbWordAt 8 = some rFbSafe ∧ st0.fbWordAt 0x18 = some ⟨.fbPinmin, 0, 0⟩ ∧ (1 : Word) &&& heldMask .fbPinmin ≠ 0 := by decide +kernel
theorem test_vote : gives (exec (.backgroundVoteCheck 0x18 1 2 4) st0) (fun t => decide (t.safeAt = some 0) && t.fget rFbSafe fbStat_SAFECAUSE == 2) = true ∧
    gives (exec (.backgroundVoteCheck 0x18 1 0 0) st0) (fun t => decide (t.safeAt = none) && t.fget rFbSafe fbStat_VOTECORR == 1 &&
      t.fget rFbSafe fbStat_LASTOFF == 0x18) = true ∧
    gives (exec (.backgroundVoteCheck 8 0 0 0) st0) (fun t => decide (t.safeAt = none) && t.fget rFbSafe fbStat_VOTECORR == 0) = true := by decide +kernel

/-! The records, resets and boot, Kindling, rails, and the block as a whole (R24, R51, R299, R538–R581). -/

def ashEv : AshEv := ⟨9, 0x50, 0x810, 0, 7, 0⟩
/-- Hypotheses of RecordAndLedger. The Ash Record with one event waiting. -/
def stAsh (frz : Nat) (q : List AshEv) : State :=
  { (st3.fset rAshStat ashStat_READY 1).fset rAshStat ashStat_FROZEN frz with ashQ := q }
theorem witness_AshRecord : (stAsh 0 [ashEv]).frozen = false ∧ (stAsh 1 []).frozen = true ∧ (stAsh 0 [ashEv]).ashTrig ≠ some 0 ∧
    (stAsh 0 []).flushTo = none ∧ ({ stAsh 0 [] with ashTrig := some 0 } : State).ashTrig = some 0 := by decide +kernel
theorem witness_AshRecord_rights : st3.mayWrite .sbc rAshCtl ∧ st3.mayWrite .sbc ⟨.ashSwevt, 0, 0⟩ :=
  ⟨mayWrite_global (by decide +kernel) rfl rfl rfl, mayWrite_global (by decide +kernel) rfl rfl rfl⟩
theorem test_ash : gives (exec .ashRecordEvent (stAsh 0 [ashEv])) (fun t => t.ashQ.isEmpty && t.fget rAshHead ashHead_SEQ == 1 &&
      tget 0 t.ash 0 == ashEv.enc 0) = true ∧
    gives (exec .ashRecordEvent (stAsh 1 [ashEv])) (fun t => decide (t.ashQ.length = 1)) = true ∧
    gives (exec (.softwareEvent .sbc 7) (stAsh 1 [])) (fun t => t.fget rAshStat ashStat_LOST == 1) = true ∧
    gives (exec (.softwareEvent .sbc 7) (stAsh 0 [])) (fun t => decide (t.ashQ.map (fun e => (e.typ, e.src, e.d0)) = [(0x50, 0x810, 7)])) = true ∧
    gives (exec (.ashUnfreeze (.core 0)) (stAsh 1 [])) (fun t => t.frozen && t.fget rAshStat ashStat_ERR == 1) = true ∧
    gives (exec (.ashUnfreeze .sbc) (stAsh 1 [])) (fun t => !t.frozen) = true := by decide +kernel
theorem test_power_fail : gives (exec .powerFailWarning (stAsh 0 [])) (fun t => t.frozen && t.fget rAshStat ashStat_FLUSHING == 1 &&
    t.flushTo.isSome) = true := by decide +kernel
/-- A write of `FB_PINMIN` waits for the Ledger. -/
def ledgReq : WriteReq := { who := .sbc, world := true, dom := 0, level := 0, bank := some 0, tgt := .reg ⟨.fbPinmin, 0, 0⟩ 0xE00038000018, val := 9 }
def stLedg : State := { st0 with ledgQ := [ledgReq] }
theorem witness_Ledger : stLedg.ledgRoom = true ∧ ledgReq.at_ ≤ stLedg.now ∧ stLedg.setNow = [] ∧ ledgReq.ack = none ∧ (stLedg.rd rLedgHead).toNat + 1 < 2 ^ 64 ∧ RegName.fbPinmin ∈ [RegName.coreEntry, .fbPinmin, .iotuSte] ∧
    ((({} : State).fset rLedgCtl ledgCtl_MEN 1).wr rLedgHead 8192).ledgRoom = false := by decide +kernel
theorem test_ledger : gives (exec .ledgerEntry stLedg) (fun t => t.ledgQ.isEmpty && t.rd ⟨.fbPinmin, 0, 0⟩ == 9 && t.rd rLedgHead == 2 &&
    ((tget 0 t.ledg 1 >>> 128).setWidth 64 : Word) == 0xE00038000018 && ((tget 0 t.ledg 1 >>> 256).setWidth 64 : Word) == 9) = true := by
  decide +kernel
/-- R549–R551: `CHAIN`, `KIND` and the agent of the start entry, which is chained over 64 zero bytes. -/
theorem test_ledger_start : (ledgStart >>> 448).setWidth 64 = chainOf 0 ledgStart ∧ ((ledgStart >>> 176).setWidth 16 : BitVec 16) = 3 ∧
    ((ledgStart >>> 320).setWidth 16 : BitVec 16) = 0x0810 := by decide +kernel
def stMirror (ref : Bool) : State := { st0.fset rLedgCtl ledgCtl_MEN 1 with mirRef := ref, mirOut := ref }
theorem witness_Mirror : (stMirror false).fget rLedgCtl ledgCtl_MEN = 1 ∧
    ((stMirror false).rd rLedgMseq).toNat < ((stMirror false).rd rLedgHead).toNat := by decide +kernel
theorem test_mirror : gives (exec .ledgerMirrorCopy (stMirror false)) (fun t => t.mirOut && decide (t.net.map (fun m => (m.opc, m.world)) =
      [(.writeUnique, true)])) = true ∧
    gives (exec .mirrorAbandon (stMirror true)) (fun t => t.fget rLedgCtl ledgCtl_MEN == 0 && !t.mirRef) = true := by decide +kernel

/-- A chip reset and an island reset wait; a slot of Kindling's image is good. -/
def stRst (code : Nat) : State := { st0 with rst := some (code, 1), mem := [(64, 5)] }
theorem witness_Resets : (stRst 4).ledgQ = [] ∧ (stRst 4).keysQuiet = true ∧ (∀ k, k < 16 → ((stRst 4).chan k).queue = []) ∧
    (stRst 4).frozen = false ∧ (stRst 4).ledgRoom = true ∧ st0.rst = none ∧ st0.ledgFree = true := by decide +kernel
theorem witness_Resets_bist (p : Nat) : ((stRst 4).core p).bistFailed = false := by
  have e : (stRst 4).cores = [] := rfl
  unfold State.core
  rw [e]
  rfl
theorem test_resets : gives (exec .resetEffect (stRst 4)) (fun t => decide (t.mem = [(64, 5)]) && decide (t.rst = none) &&
      t.fget rSbcStat sbcStat_LASTRST == 3) = true ∧
    gives (exec .supplyReset (stRst 4)) (fun t => t.mem.isEmpty && t.fget rSbcStat sbcStat_LASTRST == 1) = true ∧
    gives (exec .islandReset st0) (fun t => decide (t.rst = some (3, 0))) = true := by decide +kernel
/-- Images whose version is the lowest that the fuses admit, or that are not valid. -/
def slotsOf (ok : Bool) : Tab (Nat × Nat) ImgSlot :=
  [((1, 0), ⟨ok, 5, fuseMinVer 1⟩), ((1, 1), ⟨false, 6, 0⟩), ((2, 0), ⟨ok, 7, fuseMinVer 2⟩), ((2, 1), ⟨false, 6, 0⟩),
   ((3, 0), ⟨ok, 7, fuseMinVer 3⟩), ((3, 1), ⟨false, 6, 0⟩)]
def stBoot (n : Nat) (ok : Bool) : State :=
  { ((st0.fset rSbcStat sbcStat_STEP n).fset rPll clkPll_LOCK 1).fset (rKey 64) mcKeyslot_STATE (if n = 7 then 2 else 0) with slots := slotsOf ok, minVer := [], attempts := [] }
theorem slot_ok (c : Nat) (h : c = 1 ∨ c = 2 ∨ c = 3) (n : Nat) : (stBoot n true).chooseSlot c = some 0 := by
  have e1 : (stBoot n true).slots = slotsOf true := rfl
  have e2 : (stBoot n true).minVer = [] := rfl
  have e3 : (stBoot n true).attempts = [] := rfl
  rcases h with rfl | rfl | rfl <;>
    simp [State.chooseSlot, State.slotOk, State.minVersion, State.imgSlot, State.attemptsOf, e1, e2, e3, slotsOf, tget]
theorem slot_bad (n : Nat) : (stBoot n false).chooseSlot 1 = none := by
  have e1 : (stBoot n false).slots = slotsOf false := rfl
  simp [State.chooseSlot, State.slotOk, State.imgSlot, e1, slotsOf, tget]
/-- Hypotheses of ResetsBootAndKindling for the boot sequence: each step in turn. -/
theorem witness_Boot : (stBoot 2 true).setNow = [] ∧ (stBoot 2 true).fget rLedgCtl ledgCtl_MEN = 0 ∧ (stBoot 2 true).ledgQ = [] ∧ (stBoot 2 true).fget rPll clkPll_LOCK = 1 ∧
    ([2, 3, 4, 5, 6, 7, 8, 9].all (fun n => (stBoot n true).fget rSbcStat sbcStat_STEP == n)) = true ∧ (stBoot 5 true).slotState 64 ≠ 1 ∧
    (stBoot 7 true).slotState 64 = 2 := by decide +kernel
theorem test_boot_record : gives (exec (.bootSequence .record) (stBoot 3 true)) (fun t => t.fget rSbcStat sbcStat_STEP == 4 &&
    t.fget rAshStat ashStat_READY == 1) = true := by decide +kernel
theorem witness_Confirm : st3.mayWrite (.core 0) ⟨.sbcConfirm, 0, 0⟩ ∧ ({ st3 with updating := some 2 } : State).updating = some 2 :=
  ⟨mayWrite_global (by decide +kernel) rfl rfl rfl, rfl⟩
/-- Collier core 1 asks for an operation with an argument and a value. -/
def stCap (op arg val : Nat) : State :=
  { (stMap.wr (rCaparg 1) (BitVec.ofNat 64 arg)).wr (rCapval 1) (BitVec.ofNat 64 val) with capOp := [(1, op)], capNext := 2 }
theorem witness_Kindling : ([1, 2, 3, 4, 5, 6, 7, 8, 10].all (fun op => decide ((stCap op 3 1030).capTurn = some 1) &&
    decide (tfind (stCap op 3 1030).capOp 1 = some op) && (stCap op 3 1030).ledgFree)) = true ∧ (stCap 1 3 1030).capTurn ≠ some 0 ∧
    (stCap 1 3 1030).coreClaimed 3 = false ∧ (stCap 1 3 1030).coreClaimed 1030 = false ∧ (stCap 7 3 0).updating = none ∧
    (stCap 4 0 0).rst = none ∧ (stCap 4 0 0).setNow = [] ∧ (stCap 5 0 0).safeAt = none := by decide +kernel
theorem witness_Kindling_runs : ((stCap 8 3 0).fset rSbcStat sbcStat_STEP 9).runsImage 3 = true ∧ (stCap 8 3 0).runsImage 3 = false := by
  decide +kernel
theorem test_confirm : gives (exec (.confirm 1) ((stCap 8 3 0).fset rSbcStat sbcStat_STEP 9)) (fun t => t.fget (rCapstat 1) sbcCapstat_STATE == 2) = true ∧
    gives (exec (.confirm 1) (stCap 8 3 0)) (fun t => t.fget (rCapstat 1) sbcCapstat_REASON == 4) = true := by decide +kernel
theorem test_mapcore : gives (exec (.mapcore 1) (stCap 1 3 1030)) (fun t => t.pcnOf 3 == 1030 && t.fget (rCapstat 1) sbcCapstat_STATE == 2) = true ∧
    gives (exec (.mapcore 1) (stCap 1 1024 1030)) (fun t => t.fget (rCapstat 1) sbcCapstat_REASON == 4) = true ∧
    gives (exec (.mapcore 0) (stCap 1 3 1030)) (fun t => decide (tfind t.capOp 1 = some 1)) = true := by decide +kernel
theorem test_capabilities : gives (exec (.quietd0 1) (stCap 3 0 1)) (fun t => t.quiet false 0) = true ∧
    gives (exec (.reset 1) (stCap 4 1 0)) (fun t => decide (t.rst = some (3, 1))) = true ∧
    gives (exec (.safe 1) (stCap 5 0 0)) (fun t => t.safeAt.isSome) = true ∧
    gives (exec (.activate 1) (stCap 7 0 0)) (fun t => t.fget (rCapstat 1) sbcCapstat_REASON == 4) = true := by decide +kernel
/-- Hypotheses of the debug requests, where the request is not valid. -/
theorem not_debug (s : State) (l : List Byte) (h : (leAt l 0 8 == 0x4442475200000001) = false) : s.debugValid l = false := by
  unfold State.debugValid
  rw [h]
  simp only [Bool.and_false, Bool.false_and]
theorem witness_DebugRequest : (List.replicate 256 (0 : Byte)).length = 256 ∧ st0.debugValid (List.replicate 256 0) = false ∧
    st0.ledgRoomFor 1088 = true := ⟨List.length_replicate, not_debug _ _ (by decide +kernel), by decide +kernel⟩

/-- Hypotheses of RailsAndTemperatures. -/
theorem witness_Rails_rights : st3.mayWrite .sbc (rRail 15) := mayWrite_window (by decide +kernel) rfl rfl (by decide +kernel)
/-- Rail 0 on, settled, at 750 mV. -/
def stRail : State := (((st0.fset (rRailStat 0) pwrRailStat_ON 1).fset (rRailStat 0) pwrRailStat_SETTLED 1).fset (rRail 0) pwrRailCtl_SETV 20).fset
  (rRailStat 0) pwrRailStat_VMEAS 750
theorem witness_Rails : stRail.fget (rRailStat 0) pwrRailStat_ON = 1 ∧ tget false stRail.railRamp 0 = false ∧ stRail.railSet 0 = 750 ∧
    railOut 0 729 750 = true ∧ railOut 0 730 750 = false ∧ 689 + 60 < 750 ∧
    tget 0 ({ stRail with railBad := [(0, 9)], railFt := [(0, 1)] } : State).railBad 0 = 9 := by decide +kernel
theorem test_rail_sample : gives (exec (.railSample 0 740 12345) stRail) (fun t => t.fget (rRailStat 0) pwrRailStat_VMEAS == 740 &&
      t.fget (rRailStat 0) pwrRailStat_IMEAS == 12 && t.fget (rRailStat 0) pwrRailStat_SETTLED == 1) = true ∧
    gives (exec (.railSample 0 739 0) stRail) (fun t => t.fget (rRailStat 0) pwrRailStat_SETTLED == 0) = true := by decide +kernel
theorem test_temp : gives (exec (.tempSample 3 255) st0) (fun t => t.fget ⟨.pwrTemp, 3, 0⟩ pwrTemp_TEMP == 255 && t.fget rTherm pwrTherm_TMAX == 255 &&
    decide ((t.fbq.map (fun e => (e.src, e.cls))) = [(3394, .uc), (3394, .ft)])) = true := by decide +kernel

/-- Hypotheses of RegisterFile, StepRunsFront, MemoryStaysCanonical, CommandsAnswer and InstructionsStayInTheirCore. -/
theorem witness_RegisterFile : ∃ x s2, fetched 0 st3 = some (x, s2) ∧ quietB x s2 = true := fetched_witness (by decide +kernel)
theorem witness_MemoryStaysCanonical : Memory.wf (stChan [chReq true]).mem = true ∧
    gives (step { stChan [chReq true] with pending := [.channelServe 0 .none] }) (fun t => decide (t.mem.length = 64)) = true := by decide +kernel
theorem witness_CommandsAnswer : (Instr.add 0 1 2 3 false).wf = true ∧ (Instr.add 1092 1 2 3 false).wf = false := by decide +kernel
theorem witness_StepRunsFront : ({ st0 with pending := [.wfi 0 0 0] } : State).pending = [.wfi 0 0 0] ∧ st0.pending = [] ∧
    st0.armed = [] ∧ st0.safeAt = none := ⟨rfl, rfl, rfl, rfl⟩
/-- A watch slot whose expiry cycle is the present one. -/
def stDue : State := { st0 with now := 600, armed := [(4, ⟨600, 20, .uc, 0⟩)], pinEnd := 600 }
theorem witness_StepRunsFront_due : stDue.pending = [] ∧ stDue.armed = [(4, ⟨600, 20, .uc, 0⟩)] ∧ stDue.safeAt = none :=
  ⟨rfl, rfl, rfl⟩
theorem test_step_timers : gives (step stDue) (fun t => t.fget (rWatchStat 4) fbWatchStat_STATE == 2 && t.armed.isEmpty &&
    t.fget rFbPin fbPin_MINDONE == 1 && t.now == 601) = true := by decide +kernel
theorem witness_InstructionsStay : insnCore (.add 0 1 1 1 false) = some 0 ∧ gives (exec (.add 0 1 1 1 false) st3) (fun t => (t.core 0).g 1 == 128) = true := by
  decide +kernel
theorem test_step_idle : gives (step st0) (fun t => t.now == 1) = true := by decide +kernel

/-! The words of Rhali (R54–R106), written out field by field from their formats. -/

/-- R74's two words, and R55's canonical no-operation. -/
theorem test_decode_examples : rhaliInstr 0 0x84A0BFF8#32 = .bne 0 5 0 true false (BitVec.ofInt 14 (-8)) ∧
    rhaliInstr 0 0x08A5FFFF#32 = .addi 0 5 5 0xFFFF false ∧ rhaliInstr 7 0x10000000#32 = .ori 7 0 0 0 := by decide +kernel
theorem test_decode_illegal : rhaliInstr 0 0x00000000#32 = rhIllegal 0 ∧ rhaliInstr 0 0xFFFFFFFF#32 = rhIllegal 0 ∧
    rhaliInstr 0 0b001101_00000_00000_00000_00000000000#32 = rhIllegal 0 := by decide +kernel
theorem test_decode_alu : rhaliInstr 0 0b000001_00011_00100_00101_00000001011#32 = .ror 0 3 4 5 ∧
    rhaliInstr 0 0b000001_00011_00100_00101_00000000111#32 = .add 0 3 4 5 true ∧
    rhaliInstr 0 0b001010_00011_00100_0110_000000_011111#32 = .sraiw 0 3 4 0x601F := by decide +kernel
theorem test_decode_mul_div : rhaliInstr 0 0b001011_00011_00100_00101_00000000100#32 = .mhsu 0 3 4 5 ∧
    rhaliInstr 0 0b001100_00011_00100_00101_00000000111#32 = .remuw 0 3 4 5 := by decide +kernel
theorem test_decode_memory : rhaliInstr 0 0b010110_00011_00100_1111111111111000#32 = .ldd 0 3 4 0xFFF8 .none false ∧
    rhaliInstr 0 0b011011_00011_00100_0000000000001000#32 = .std 0 3 4 8 false ∧
    rhaliInstr 0 0b011100_00011_00100_11_00000000000010#32 = .fld 0 3 4 3 2 .none false ∧
    rhaliInstr 0 0b101100_00011_00100_00101_01101_10_1_1_00#32 = .atcas 0 3 4 5 2 true true 0 .none ∧
    rhaliInstr 0 0b101101_00011_00100_00101_00000000001#32 = .bfill 0 3 4 5 := by decide +kernel
theorem test_decode_jumps : rhaliInstr 0 0b101001_0_1111111111111111111111111#32 = .jal 0 false (BitVec.allOnes 25) ∧
    rhaliInstr 0 0b101010_11110_00100_00000_0_0000000001#32 = .jalr 0 30 4 0 false := by decide +kernel
theorem test_decode_maintenance : rhaliInstr 0 0b101110_00000_00100_00101_00000010101#32 = .rinvM 0 0 4 5 ∧
    rhaliInstr 0 0b101111_00000_00100_00000_00_1_00010010#32 = .tlbihva 0 0 4 0 true := by decide +kernel
theorem test_decode_fp : rhaliInstr 0 0b110000_00011_00100_00001_10_000100000#32 = .fcvtf 0 3 4 1 2 ∧
    rhaliInstr 0 0b110001_00011_00100_00101_01_001110010#32 = .vinsg 0 3 4 5 1 ∧
    rhaliInstr 0 0b110010_00011_00100_00101_00110_01_10_00#32 = .fnmsub 0 3 4 5 6 1 0 := by decide +kernel
theorem test_decode_system : rhaliInstr 0 0b111000_000001_0000_0000000000001010#32 = .fence 0 10 0 false ∧
    rhaliInstr 0 0b111001_00011_00100_0011_000100100000#32 = .mtco 0 3 4 0x120 ∧
    rhaliInstr 0 0b111010_000100_0000_0000000000000000#32 = .gate 0 0 0 false ∧
    rhaliInstr 0 0xEC5AA5C3#32 = .gatemark 0 false ∧ rhaliInstr 0 0xEC5AA5C2#32 = .gatemark 0 true := by decide +kernel

end Sys2Proof.Tests
end

section
/-! The integer operations on words: what each of the model's functions says of the numbers that its operands stand for
(R55, R58–R62). -/

namespace Sys2Proof.Machine

theorem ofBool_slt (a b : Word) : ofBool (a.slt b) = if a.toInt < b.toInt then 1 else 0 := by
  simp [ofBool, BitVec.slt]

theorem ofBool_ult (a b : Word) : ofBool (a.ult b) = if a.toNat < b.toNat then 1 else 0 := by
  simp [ofBool, BitVec.ult]

/-- Equal words may be taken from either side, so that `≤` chooses as `<` does. -/
theorem minS_eq (a b : Word) : minS a b = if a.toInt ≤ b.toInt then a else b := by
  rcases lt_trichotomy a.toInt b.toInt with h | h | h
  · simp [minS, BitVec.slt, h, h.le]
  · simp [minS, BitVec.toInt_inj.mp h]
  · simp [minS, BitVec.slt, h.not_ge, h.not_gt]

theorem maxS_eq (a b : Word) : maxS a b = if a.toInt ≤ b.toInt then b else a := by
  rcases lt_trichotomy a.toInt b.toInt with h | h | h
  · simp [maxS, BitVec.slt, h, h.le]
  · simp [maxS, BitVec.toInt_inj.mp h]
  · simp [maxS, BitVec.slt, h.not_ge, h.not_gt]

theorem toInt_simm (imm : BitVec 16) : (simm imm).toInt = imm.toInt :=
  BitVec.toInt_signExtend_of_le (by decide)


/-! Counts of bits. -/

theorem clz_le (a : Word) : clz a ≤ 64 := by
  unfold clz; split <;> omega

/-- The bits above the leading one are clear. -/
theorem getLsbD_of_clz_le (a : Word) {i : Nat} (hi : 64 - clz a ≤ i) : a.getLsbD i = false := by
  unfold clz at hi
  split at hi
  case isTrue h => simp [h]
  case isFalse h =>
    have hne : a.toNat ≠ 0 := fun e => h (BitVec.eq_of_toNat_eq (by simpa using e))
    have hlog : a.toNat < 2 ^ (Nat.log2 a.toNat + 1) := Nat.lt_log2_self
    have hlt : Nat.log2 a.toNat < 64 := (Nat.log2_lt hne).2 a.isLt
    exact Nat.testBit_lt_two_pow (hlog.trans_le (Nat.pow_le_pow_right (by decide) (by omega)))

theorem getLsbD_clz (a : Word) (h : clz a < 64) : a.getLsbD (63 - clz a) = true := by
  unfold clz at h ⊢
  split at h
  case isTrue => omega
  case isFalse hz =>
    have hne : a.toNat ≠ 0 := fun e => hz (BitVec.eq_of_toNat_eq (by simpa using e))
    have hlt : Nat.log2 a.toNat < 64 := (Nat.log2_lt hne).2 a.isLt
    rw [if_neg hz, show 63 - (63 - Nat.log2 a.toNat) = Nat.log2 a.toNat by omega]
    exact Nat.testBit_log2 hne

/-- What the search for the lowest one bit finds. -/
theorem ctz_spec (a : Word) :
    ctz a ≤ 64 ∧ (∀ i, i < ctz a → a.getLsbD i = false) ∧ (ctz a < 64 → a.getLsbD (ctz a) = true) := by
  unfold ctz
  cases hf : (List.range 64).find? (fun i => a.getLsbD i) with
  | none =>
    simp only [List.find?_range_eq_none] at hf
    refine ⟨le_rfl, fun i hi => by simpa using hf i hi, fun h => absurd h (lt_irrefl _)⟩
  | some n =>
    obtain ⟨hn, hmem, hlow⟩ := List.find?_range_eq_some.mp hf
    refine ⟨(List.mem_range.mp hmem).le, fun i hi => by simpa using hlow i hi, fun _ => by simpa using hn⟩

theorem popc_eq (a : Word) : popc a = (List.range 64).countP (fun i => a.getLsbD i) :=
  (List.countP_eq_length_filter).symm



theorem upper_eq (imm : BitVec 16) : upper imm = imm.signExtend 64 <<< 16 := by
  have hm : (imm.setWidth 32 <<< 16).msb = imm.msb := by
    simp [BitVec.msb_eq_getLsbD_last]
  apply BitVec.eq_of_getLsbD_eq
  intro i hi
  simp only [upper, BitVec.getLsbD_signExtend, BitVec.getLsbD_shiftLeft, BitVec.getLsbD_setWidth, hm, hi]
  rcases lt_or_ge i 16 with h16 | h16
  · simp [h16, show i < 32 by omega]
  · rcases lt_or_ge i 32 with h32 | h32
    · simp [h32, h16.not_gt, show i - 16 < 64 by omega, show i - 16 < 32 by omega, show i - 16 < 16 by omega]
    · simp [h32.not_gt, h16.not_gt, show i - 16 < 64 by omega, show ¬ i - 16 < 16 by omega]

/-- One byte moved to its place: bits of another place are clear. -/
theorem getLsbD_movedByte (a : Word) {i j : Nat} (k : Nat) (hj : j < 8) (hi : i < 8) (hk : k < 8) :
    ((((a >>> (8 * k)) &&& 0xFF) <<< (8 * (7 - k))).getLsbD (8 * i + j)) =
      (decide (k = 7 - i) && a.getLsbD (8 * (7 - i) + j)) := by
  have hFF : ∀ m, (0xFF : Word).getLsbD m = decide (m < 8) := fun m => by
    rw [show (0xFF : Word) = BitVec.ofNat 64 (2 ^ 8 - 1) by rfl, BitVec.getLsbD_ofNat, Nat.testBit_two_pow_sub_one]
    simp; omega
  simp only [BitVec.getLsbD_shiftLeft, BitVec.getLsbD_and, BitVec.getLsbD_ushiftRight, hFF]
  by_cases h : k = 7 - i
  · subst h
    have h1 : ¬ 8 * i + j < 8 * (7 - (7 - i)) := by omega
    have h2 : 8 * i + j - 8 * (7 - (7 - i)) = j := by omega
    simp [h1, h2, hj, show 8 * i + j < 64 by omega]
  · have h3 : 8 * i + j < 8 * (7 - k) ∨ 8 ≤ 8 * i + j - 8 * (7 - k) := by omega
    rcases h3 with h3 | h3
    · simp [h, h3]
    · simp [h, Nat.not_lt.2 h3]

/-- A bit of a fold of disjunctions is set where one of the words has it. -/
theorem getLsbD_foldl_or {α : Type} (f : α → Word) (l : List α) (z : Word) (n : Nat) :
    (l.foldl (fun a i => a ||| f i) z).getLsbD n = (z.getLsbD n || l.any (fun i => (f i).getLsbD n)) := by
  induction l generalizing z with
  | nil => simp
  | cons x l ih => simp [ih, Bool.or_assoc]

theorem extractLsb'_bswap (a : Word) {i : Nat} (hi : i < 8) :
    (bswap a).extractLsb' (8 * i) 8 = a.extractLsb' (8 * (7 - i)) 8 := by
  apply BitVec.eq_of_getLsbD_eq
  intro j hj
  have hb : (bswap a).getLsbD (8 * i + j) = a.getLsbD (8 * (7 - i) + j) := by
    unfold bswap
    rw [getLsbD_foldl_or (fun k => ((a >>> (8 * k)) &&& 0xFF) <<< (8 * (7 - k)))]
    rw [show (0 : Word).getLsbD (8 * i + j) = false by simp, Bool.eq_iff_iff, Bool.false_or, List.any_eq_true]
    constructor
    · rintro ⟨k, hk, h⟩
      rw [getLsbD_movedByte a k hj hi (List.mem_range.1 hk), Bool.and_eq_true] at h
      exact h.2
    · intro h
      have h7 : 7 - i < 8 := by omega
      exact ⟨7 - i, List.mem_range.2 h7, by rw [getLsbD_movedByte a (7 - i) hj hi h7]; simp [h]⟩
  simp [hj, hb]

/-- The bits 64–127 of an integer are those of its quotient by 2^64. -/
theorem extractLsb'_ofInt_128 (n : Int) : (BitVec.ofInt 128 n).extractLsb' 64 64 = BitVec.ofInt 64 (n / 2 ^ 64) := by
  apply BitVec.eq_of_toNat_eq
  simp [BitVec.extractLsb'_toNat, BitVec.toNat_ofInt, Nat.shiftRight_eq_div_pow]
  omega

theorem setWidth_128_eq_ofInt (a : Word) : a.setWidth 128 = BitVec.ofInt 128 a.toNat := by
  simp

theorem mulHigh_toNat_toNat (a b : Word) :
    mulHigh a.toNat b.toNat = (a.setWidth 128 * b.setWidth 128).extractLsb' 64 64 := by
  rw [setWidth_128_eq_ofInt, setWidth_128_eq_ofInt, ← BitVec.ofInt_mul, extractLsb'_ofInt_128]; rfl
theorem mulHigh_toInt_toInt (a b : Word) :
    mulHigh a.toInt b.toInt = (a.signExtend 128 * b.signExtend 128).extractLsb' 64 64 := by
  rw [BitVec.signExtend, BitVec.signExtend, ← BitVec.ofInt_mul, extractLsb'_ofInt_128]; rfl
theorem mulHigh_toInt_toNat (a b : Word) :
    mulHigh a.toInt b.toNat = (a.signExtend 128 * b.setWidth 128).extractLsb' 64 64 := by
  rw [BitVec.signExtend, setWidth_128_eq_ofInt, ← BitVec.ofInt_mul, extractLsb'_ofInt_128]; rfl

section
variable {w : Nat}

theorem quotS_of_ne (a : BitVec w) {b : BitVec w} (hb : b ≠ 0) : quotS a b = BitVec.ofInt w (a.toInt.tdiv b.toInt) := if_neg hb
theorem remS_of_ne (a : BitVec w) {b : BitVec w} (hb : b ≠ 0) : remS a b = BitVec.ofInt w (a.toInt.tmod b.toInt) := if_neg hb
theorem quotU_of_ne (a : BitVec w) {b : BitVec w} (hb : b ≠ 0) : quotU a b = BitVec.ofNat w (a.toNat / b.toNat) := by
  rw [quotU, if_neg hb, BitVec.udiv_def]
theorem remU_of_ne (a : BitVec w) {b : BitVec w} (hb : b ≠ 0) : remU a b = BitVec.ofNat w (a.toNat % b.toNat) := by
  rw [remU, if_neg hb, BitVec.umod_def]

@[simp] theorem quotS_zero (a : BitVec w) : quotS a 0 = if a.toInt < 0 then BitVec.intMin w else BitVec.intMax w := by
  simp [quotS, BitVec.msb_eq_toInt]
@[simp] theorem remS_zero (a : BitVec w) : remS a 0 = a := if_pos rfl
@[simp] theorem quotU_zero (a : BitVec w) : quotU a 0 = BitVec.allOnes w := if_pos rfl
@[simp] theorem remU_zero (a : BitVec w) : remU a 0 = a := if_pos rfl

end



/-! What an integer instruction leaves once it is fetched. -/

section
variable {p : Nat} {s s2 : State} {x : Ctx} (h : fetched p s = some (x, s2))
include h

theorem aluRR_fetched (rd ra rb : RegNo) (f : Word → Word → Word) :
    aluRR p rd ra rb false f s =
      .next (s2.after x (fun c => c.setG rd (f ((s2.core p).g ra) ((s2.core p).g rb))) .seq) :=
  regOp_fetched h rd false _

theorem aluRR_illegal (rd ra rb : RegNo) (f : Word → Word → Word) : aluRR p rd ra rb true f s = s2.illegal x :=
  regOp_fetched h rd true _

theorem aluR_fetched (rd ra : RegNo) (f : Word → Word) :
    aluR p rd ra 0 f s = .next (s2.after x (fun c => c.setG rd (f ((s2.core p).g ra))) .seq) :=
  regOp_fetched h rd false _

theorem aluR_illegal (rd ra : RegNo) {rb : RegNo} (hb : rb ≠ 0) (f : Word → Word) : aluR p rd ra rb f s = s2.illegal x := by
  rw [aluR, regOp_fetched h, if_pos (by simpa using hb)]

theorem aluRI_fetched (rd ra : RegNo) (f : Word → Word) :
    aluRI p rd ra false f s = .next (s2.after x (fun c => c.setG rd (f ((s2.core p).g ra))) .seq) :=
  regOp_fetched h rd false _

theorem shiftImm_fetched (rd ra : RegNo) {imm : BitVec 16} {wForm : Bool} (ok : shiftOk wForm imm = true)
    (f : Word → Nat → Word) :
    shiftImm p rd ra imm false wForm f s =
      .next (s2.after x (fun c => c.setG rd (f ((s2.core p).g ra) (imm.toNat % 64))) .seq) := by
  rw [shiftImm, regOp_fetched h, ok]; rfl

theorem shiftImm_illegal (rd ra : RegNo) {imm : BitVec 16} {ill wForm : Bool} (bad : (ill || !shiftOk wForm imm) = true)
    (f : Word → Nat → Word) : shiftImm p rd ra imm ill wForm f s = s2.illegal x := by
  rw [shiftImm, regOp_fetched h, if_pos bad]

end

theorem shiftOk_full_iff (imm : BitVec 16) : shiftOk false imm = true ↔ imm.toNat / 64 % 64 = 0 := by
  simp [shiftOk, bits]

/-- A W form takes an amount below 32 (R59): bit 5 is the upper bit of the six that give it. -/
theorem shiftOk_w_iff (imm : BitVec 16) :
    shiftOk true imm = true ↔ imm.toNat / 64 % 64 = 0 ∧ imm.toNat % 64 < 32 := by
  have h5 : imm.getLsbD 5 = decide (imm.toNat / 32 % 2 = 1) := by
    simp [BitVec.getLsbD, Nat.testBit_eq_decide_div_mod_eq]
  simp only [shiftOk, bits, h5, Bool.true_and, Bool.and_eq_true, beq_iff_eq, Bool.not_eq_true', decide_eq_false_iff_not]
  omega

/-- Settles O1: each form writes its function of the operands; the values of the counts and of BSWAP are those of the lemmas on
words above. -/
theorem aluRegisterResults : Obligations.AluRegisterResults := by
  unfold Obligations.AluRegisterResults
  intro p rd ra rb s s2 x h a b gets
  have rr (f : Word → Word → Word) : aluRR p rd ra rb false f s = gets (f a b) := aluRR_fetched h rd ra rb f
  have r (f : Word → Word) : aluR p rd ra 0 f s = gets (f a) := aluR_fetched h rd ra f
  simp only [exec_add, exec_sub, exec_and, exec_or, exec_xor, exec_andn, exec_orn, exec_sll, exec_srl, exec_sra, exec_ror,
    exec_slt, exec_sltu, exec_min, exec_max, exec_addw, exec_subw, exec_sllw, exec_srlw, exec_sraw, exec_clz, exec_ctz,
    exec_popc, exec_bswap, exec_sextb, exec_sexth, exec_sextw]
  refine ⟨rr _, rr _, rr _, rr _, rr _, rr _, rr _, rr _, rr _, rr _, rr _,
    (rr _).trans (congrArg gets (ofBool_slt a b)), (rr _).trans (congrArg gets (ofBool_ult a b)),
    (rr _).trans (congrArg gets (minS_eq a b)), (rr _).trans (congrArg gets (maxS_eq a b)),
    rr _, rr _, rr _, rr _, rr _, ?clz, ?ctz, (r _).trans (congrArg _ (congrArg _ (popc_eq a))),
    ⟨bswap a, r _, fun i hi => extractLsb'_bswap a hi⟩, r _, r _, r _, aluRR_illegal h rd ra rb _, ?illegal⟩
  case clz => exact ⟨clz a, r _, clz_le a, fun i hi _ => getLsbD_of_clz_le a hi, getLsbD_clz a⟩
  case ctz => exact ⟨ctz a, r _, ctz_spec a⟩
  case illegal =>
    intro hb
    have bad (f : Word → Word) : aluR p rd ra rb f s = s2.illegal x := aluR_illegal h rd ra hb f
    exact ⟨bad _, bad _, bad _, bad _, bad _, bad _, bad _⟩

/-- Settles O2: by the immediate's value, and for the shifts by the check of their encoding. -/
theorem immediateResults : Obligations.ImmediateResults := by
  unfold Obligations.ImmediateResults
  intro p rd ra imm s s2 x h a n gets
  have ri (f : Word → Word) : aluRI p rd ra false f s = gets (f a) := aluRI_fetched h rd ra f
  simp only [exec_addi, exec_andi, exec_ori, exec_xori, exec_slti, exec_sltiu, exec_lui, exec_addpci, exec_slli, exec_srli,
    exec_srai, exec_rori, exec_slliw, exec_srliw, exec_sraiw]
  refine ⟨ri _, ri _, ri _, ri _, (ri _).trans (congrArg gets ?slti), (ri _).trans (congrArg gets (ofBool_ult a _)),
    (regOp_fetched h rd false _).trans (congrArg gets (upper_eq imm)),
    (regOp_fetched h rd false _).trans (congrArg (fun v => gets (x.pc + v)) (upper_eq imm)), ?nonzeroRa, ?legal, ?illegal,
    ?illegalW, shiftImm_illegal h rd ra rfl _⟩
  case slti => rw [ofBool_slt, toInt_simm]
  case nonzeroRa =>
    intro hra
    have bad (f : Core → Word → Word) : regOp p rd (ra != 0) f s = s2.illegal x := by
      rw [regOp_fetched h, if_pos (by simpa using hra)]
    exact ⟨bad _, bad _⟩
  case legal =>
    intro h6
    have full (f : Word → Nat → Word) : shiftImm p rd ra imm false false f s = gets (f a n) :=
      shiftImm_fetched h rd ra ((shiftOk_full_iff imm).2 h6) f
    refine ⟨full _, full _, full _, full _, fun hn => ?_⟩
    have wForm (f : Word → Nat → Word) : shiftImm p rd ra imm false true f s = gets (f a n) :=
      shiftImm_fetched h rd ra ((shiftOk_w_iff imm).2 ⟨h6, hn⟩) f
    exact ⟨wForm _, wForm _, wForm _⟩
  case illegal =>
    intro h6
    have bad (f : Word → Nat → Word) : shiftImm p rd ra imm false false f s = s2.illegal x :=
      shiftImm_illegal h rd ra (by simpa using mt (shiftOk_full_iff imm).1 h6) f
    exact ⟨bad _, bad _, bad _, bad _⟩
  case illegalW =>
    intro h6
    have hbad : ¬ shiftOk true imm = true := fun ok => by
      obtain ⟨h0, hn⟩ := (shiftOk_w_iff imm).1 ok
      exact h6.elim (fun h => h h0) (fun h => absurd hn h.not_gt)
    have bad (f : Word → Nat → Word) : shiftImm p rd ra imm false true f s = s2.illegal x :=
      shiftImm_illegal h rd ra (by simpa using hbad) f
    exact ⟨bad _, bad _, bad _⟩

/-- Settles O3: by the value of the divisor: not zero, zero, and −1 under the most negative dividend. -/
theorem multiplyDivideResults : Obligations.MultiplyDivideResults := by
  unfold Obligations.MultiplyDivideResults
  intro p rd ra rb s s2 x h a b a32 b32 gets
  have rr (f : Word → Word → Word) {v : Word} (hv : f a b = v) : aluRR p rd ra rb false f s = gets v :=
    hv ▸ aluRR_fetched h rd ra rb f
  have rrW (f : BitVec 32 → BitVec 32 → BitVec 32) {v : BitVec 32} (hv : f a32 b32 = v) :
      aluRR p rd ra rb false (fun a b => (f (w32 a) (w32 b)).signExtend 64) s = gets (v.signExtend 64) :=
    rr _ (congrArg _ hv)
  simp only [exec_mlo, exec_mlow, exec_mhuu, exec_mhss, exec_mhsu, exec_div, exec_rem, exec_divu, exec_remu, exec_divw,
    exec_remw, exec_divuw, exec_remuw]
  refine ⟨rr _ rfl, rr _ rfl, rr _ (mulHigh_toNat_toNat a b), rr _ (mulHigh_toInt_toInt a b), rr _ (mulHigh_toInt_toNat a b),
    ?nonzero, ?nonzeroW, ?zero, ?zeroW, ?overflow, ?overflowW, aluRR_illegal h rd ra rb _, aluRR_illegal h rd ra rb _⟩
  case nonzero =>
    intro hb
    exact ⟨rr _ (quotS_of_ne a hb), rr _ (remS_of_ne a hb), rr _ (quotU_of_ne a hb), rr _ (remU_of_ne a hb)⟩
  case nonzeroW =>
    intro hb
    exact ⟨rrW _ (quotS_of_ne a32 hb), rrW _ (remS_of_ne a32 hb), rrW _ (quotU_of_ne a32 hb), rrW _ (remU_of_ne a32 hb)⟩
  case zero =>
    intro hb
    exact ⟨rr _ (by rw [hb, quotS_zero]), rr _ (by rw [hb, remS_zero]), rr _ (by rw [hb, quotU_zero]),
      rr _ (by rw [hb, remU_zero])⟩
  case zeroW =>
    intro hb
    have hones : (BitVec.allOnes 32).signExtend 64 = BitVec.allOnes 64 := by decide
    exact ⟨rrW _ (by rw [hb, quotS_zero]), rrW _ (by rw [hb, remS_zero]),
      hones ▸ rrW quotU (v := BitVec.allOnes 32) (by rw [hb, quotU_zero]), rrW _ (by rw [hb, remU_zero])⟩
  case overflow =>
    intro ha hb
    have hv : quotS a b = a ∧ remS a b = 0 := by rw [ha, hb]; decide
    exact ⟨rr _ hv.1, rr _ hv.2⟩
  case overflowW =>
    intro ha hb
    have hv : quotS a32 b32 = a32 ∧ remS a32 b32 = 0 := by rw [ha, hb]; decide
    exact ⟨rrW _ hv.1, rrW remS (v := 0) hv.2⟩

end Sys2Proof.Machine
end

section
/-! Jumps and the general registers (R51, R53, R67, R69, R119), and how an instruction that only changes its own core, or
raises an exception, ends. -/

namespace Sys2Proof.Machine

section
variable {p : Nat} {s s2 : State} {x : Ctx} {slotOk : Bool} {kind : Busy} {body : Ctx → InsnM Flow}

/-- A fetched instruction whose body changes its core by `g` retires. -/
theorem runInsn_after {f : Flow} (g : Core → Core) (h : fetched p s = some (x, s2)) (hs : slotOk = true ∨ s2.noSlot p)
    (hb : body x s2 = .ok f (s2.modCore x.p g)) : runInsn p slotOk kind body s = .next (s2.after x g f) := by
  rw [runInsn_done h hs hb, State.after_modCore]
  rfl

/-- A fetched instruction whose body raises an exception before it changes anything takes it. -/
theorem runInsn_takes {e : Exc} (h : fetched p s = some (x, s2)) (hs : slotOk = true ∨ s2.noSlot p)
    (hb : body x s2 = .error (.exc e) s2) : runInsn p slotOk kind body s = s2.takes x e :=
  runInsn_exc h hs hb

end

/-! The parts of a body. -/

@[simp] theorem getCore_run (p : Nat) (s : State) : getCore p s = .ok (s.core p) s := rfl
@[simp] theorem getG_run (p : Nat) (r : RegNo) (s : State) : getG p r s = .ok ((s.core p).g r) s := rfl
@[simp] theorem getF_run (p : Nat) (r : RegNo) (s : State) : getF p r s = .ok ((s.core p).fr r) s := rfl
@[simp] theorem modCore_run (p : Nat) (f : Core → Core) (s : State) : modCore p f s = .ok () (s.modCore p f) := rfl
@[simp] theorem modify_run (f : State → State) (s : State) : (modify f : InsnM Unit) s = .ok () (f s) := rfl
@[simp] theorem setG_run (p : Nat) (r : RegNo) (v : Word) (s : State) : setG p r v s = .ok () (s.modCore p (·.setG r v)) := rfl
@[simp] theorem setF_run (p : Nat) (r : RegNo) (v : BitVec 128) (s : State) :
    setF p r v s = .ok () (s.modCore p (·.setF r v)) := rfl
@[simp] theorem raise_run {α : Type} (c ea i acc : Nat) (s : State) :
    (raise c ea i acc : InsnM α) s = .error (.exc { cause := c, eaddr := ea, info := i, acc := acc }) s := rfl
@[simp] theorem illIf_false_run (s : State) : illIf false s = .ok () s := rfl
@[simp] theorem illIf_true_run (s : State) : illIf true s = .error (.exc { cause := 0x00 }) s := rfl
@[simp] theorem pure_run {α : Type} (a : α) (s : State) : (pure a : InsnM α) s = .ok a s := rfl

/-- An instruction whose first check fails is illegal. -/
theorem runInsn_illegal {p : Nat} {s s2 : State} {x : Ctx} {slotOk : Bool} {kind : Busy} {bad : Ctx → Bool}
    {rest : Ctx → InsnM Flow} (h : fetched p s = some (x, s2)) (hs : slotOk = true ∨ s2.noSlot p) (hbad : bad x = true) :
    runInsn p slotOk kind (fun x => do illIf (bad x); rest x) s = s2.illegal x :=
  runInsn_takes h hs (by simp [bind, EStateM.bind, hbad])

/-! Jumps. -/

theorem disp25_eq (d : BitVec 25) : disp25 d = d.signExtend 64 * 4 := by
  rw [disp25, BitVec.shiftLeft_eq_mul_twoPow]; rfl

theorem jumpTarget_aligned {x : Ctx} {ra : RegNo} {s : State} (h : ((s.core x.p).g ra).toNat % 4 = 0) :
    jumpTarget x ra s = .ok ((s.core x.p).g ra) s := by
  simp [jumpTarget, bind, EStateM.bind, bits, h]

theorem jumpTarget_misaligned {x : Ctx} {ra : RegNo} {s : State} (h : ((s.core x.p).g ra).toNat % 4 ≠ 0) :
    jumpTarget x ra s = .error (.exc { cause := 0x02, eaddr := ((s.core x.p).g ra).toNat }) s := by
  simp [jumpTarget, bind, EStateM.bind, bits, h]

/-- The prediction of a RET from the return-address stack is wrong (R119). -/
def retMissed (ras : List Word) (t : Word) : Bool :=
  match ras with
  | [] => false
  | top :: _ => top != t

/-- An indirect jump changes of its core only whether fetch restarts. -/
theorem indirect_run (x : Ctx) (t : Word) (s : State) :
    ∃ w b, indirect x t s = .ok b (s.modCore x.p (fun c => { c with redirect := w })) := by
  simp only [indirect, resolved, bind, EStateM.bind, getCore_run, modCore_run, pure_run]
  exact ⟨_, _, rfl⟩

/-- JAL pushes its return address and links g30 (R67, R119). -/
theorem execJal_fetched {p : Nat} {s s2 : State} {x : Ctx} (h : fetched p s = some (x, s2)) (hslot : s2.noSlot p)
    (disp : BitVec 25) :
    execJal p false disp s =
      .next (s2.after x (fun c => { c with redirect := false, ras := ((x.pc + 8) :: c.ras).take 16 })
        (.branch (x.pc + disp.signExtend 64 * 4) (some 30) none (s2.core p).ras)) := by
  have hp : x.p = p := fetched_core h
  subst hp
  refine runInsn_after (fun c => { c with redirect := false, ras := ((x.pc + 8) :: c.ras).take 16 }) h (.inr hslot) ?_
  simp [bind, EStateM.bind, resolved, goes, pushRas, disp25_eq]

/-- Settles O5: each jump's body, evaluated under its target's alignment. -/
theorem jumpResults : Obligations.JumpResults := by
  unfold Obligations.JumpResults
  intro p rd ra rb disp s s2 x h hslot c t
  have hp : x.p = p := fetched_core h
  subst hp
  have bad (rest : Ctx → InsnM Flow) {b : Bool} (hb : b = true) :
      runInsn x.p false .idle (fun x => do illIf b; rest x) s = s2.illegal x := runInsn_illegal h (.inr hslot) hb
  simp only [exec_j, exec_jal, exec_jr, exec_jalr, exec_ret]
  refine ⟨?j, execJal_fetched h hslot disp, ?aligned, ?misaligned, bad _ rfl, bad _ rfl, bad _ rfl, bad _ rfl, bad _ rfl,
    bad _ (by simp), ?nonzeroRb⟩
  case nonzeroRb =>
    intro hrb
    have hb : (rb != 0) = true := bne_iff_ne.2 hrb
    exact ⟨bad _ (by rw [hb]; rfl), bad _ (by rw [hb]; rfl), bad _ (by rw [hb]; rfl)⟩
  case j =>
    refine runInsn_after (fun c => { c with redirect := false }) h (.inr hslot) ?_
    simp [bind, EStateM.bind, resolved, goes, disp25_eq, c]
  case aligned =>
    intro ht
    obtain ⟨w, b, hi⟩ := indirect_run x t s2
    refine ⟨⟨w, b, runInsn_after _ h (.inr hslot) ?jr⟩, fun hne h30 => ⟨w, b, runInsn_after _ h (.inr hslot) ?jalr⟩,
      fun h30 => runInsn_after (fun c => { c with redirect := false, ras := ((x.pc + 8) :: c.ras).take 16 }) h (.inr hslot) ?call,
      ⟨_, runInsn_after (fun d => { d with redirect := retMissed c.ras t, ras := d.ras.tail }) h (.inr hslot) ?ret⟩⟩
    case jr => simp [bind, EStateM.bind, jumpTarget_aligned ht, goes, hi, t, c]
    case jalr =>
      have hlink : rd ≠ 30#5 := h30
      simp [bind, EStateM.bind, jumpTarget_aligned ht, goes, hi, t, c, beq_false_of_ne hne, hlink]
    case call =>
      have hne : (30#5 == ra) = false := beq_false_of_ne (Ne.symm h30)
      simp [bind, EStateM.bind, jumpTarget_aligned ht, goes, resolved, pushRas, t, c, hne]
    case ret =>
      simp [bind, EStateM.bind, jumpTarget_aligned ht, goes, resolved, t, c]
      rfl
  case misaligned =>
    intro ht
    have hj := jumpTarget_misaligned (x := x) ht
    refine ⟨runInsn_takes h (.inr hslot) ?_, fun hne => runInsn_takes h (.inr hslot) ?_, runInsn_takes h (.inr hslot) ?_⟩
    · simp [bind, EStateM.bind, hj, t, c]
    · simp [bind, EStateM.bind, hj, t, c, beq_false_of_ne hne]
    · simp [bind, EStateM.bind, hj, t, c]

/-! The registers after a retirement. -/

@[simp] theorem Core.arch_lastArch (c : Core) : c.lastArch.arch = c.arch := by
  unfold Core.lastArch; split <;> rfl

@[simp] theorem Core.arch_agreeAct (c : Core) (twin : Bool) : (c.agreeAct twin).arch = c.arch := by
  unfold Core.agreeAct; split <;> rfl

@[simp] theorem Core.arch_stepped (c : Core) : c.stepped.arch = c.arch := by
  unfold Core.stepped; split <;> rfl

/-- A jump that links changes one g register. -/
theorem Core.g_finish_link (c : Core) (x : Ctx) (twin : Bool) (t : Word) (l : RegNo) (b : Option (Nat × TgtEnt))
    (st : List Word) (r : RegNo) : (c.finish x twin (.branch t (some l) b st)).g r = (c.setG l (x.pc + 8)).g r := by
  simp only [Core.finish, Core.g, Core.arch_stepped, Core.arch_agreeAct, Core.arch_lastArch]
  simp only [Core.retireFlow, Core.setG, Core.retired, Arch.gset]
  split_ifs <;> rfl

theorem State.g_after_link (s : State) (x : Ctx) (f : Core → Core) (t : Word) (l : RegNo) (b : Option (Nat × TgtEnt))
    (st : List Word) (r : RegNo) :
    ((s.after x f (.branch t (some l) b st)).core x.p).g r = ((f (s.core x.p)).setG l (x.pc + 8)).g r := by
  rw [State.after, State.core_modCore_same, Core.g_finish_link]

/-- A level and world other than those of a write of g31 read their own copy. -/
theorem Arch.gget_31_gset_31_ne (a : Arch) (v : Word) {lv : Nat} {w : Bool} (h : lv ≠ a.level ∨ w ≠ a.world) :
    ({ a.gset 31 v with level := lv, world := w } : Arch).gget 31 = ({ a with level := lv, world := w } : Arch).gget 31 := by
  have hk : (w, lv) ≠ (a.world, a.level) := fun e => by
    obtain ⟨hw, hl⟩ := Prod.mk.inj e
    exact h.elim (fun n => n hl) (fun n => n hw)
  exact tget_tput_ne _ _ _ hk

/-- Settles O55, by the laws of reads and writes of a register; JAL by how a jump that links retires. -/
theorem registerFile : Obligations.RegisterFile := by
  unfold Obligations.RegisterFile
  refine ⟨fun c v => ⟨rfl, rfl⟩, fun c r q v hr => ⟨c.g_setG_same v hr, fun hq => c.g_setG_ne v hq⟩, ?oneCopy,
    fun c v lv w h => c.arch.gget_31_gset_31_ne v h, ?jal⟩
  case oneCopy =>
    intro c r lv w hr
    simp only [Core.g, Arch.gget, if_neg hr]
  case jal =>
    intro p disp s s2 x h hslot
    refine ⟨_, (exec_jal ..).trans (execJal_fetched h hslot disp), ?_⟩
    have hp : x.p = p := fetched_core h
    subst hp
    exact ⟨(State.g_after_link ..).trans (Core.g_setG_same _ _ (by decide)),
      fun r hr => (State.g_after_link ..).trans (Core.g_setG_ne _ _ hr)⟩

end Sys2Proof.Machine
end

section
/-! Fields of numbers and of words: what a field reads after a field is written. -/

namespace Sys2Proof

/-- A number with a field replaced: what stands below, in and above the field. -/
theorem setBits_eq (v lo w x : Nat) :
    setBits v lo w x = 2 ^ lo * (2 ^ w * (v / 2 ^ lo / 2 ^ w) + x % 2 ^ w) + v % 2 ^ lo := by
  have h1 := Nat.div_add_mod v (2 ^ lo)
  have h2 := Nat.div_add_mod (v / 2 ^ lo) (2 ^ w)
  have h3 : v = 2 ^ lo * (2 ^ w * (v / 2 ^ lo / 2 ^ w)) + bits v lo w * 2 ^ lo + v % 2 ^ lo := by
    rw [bits, Nat.mul_comm (_ % _), ← Nat.mul_add, h2, h1]
  rw [setBits, Nat.mul_add, Nat.mul_comm (2 ^ lo) (x % 2 ^ w)]
  omega

theorem testBit_bits (v lo w i : Nat) : (bits v lo w).testBit i = (decide (i < w) && v.testBit (lo + i)) := by
  rw [bits, Nat.testBit_mod_two_pow, Nat.testBit_div_two_pow, Nat.add_comm]

theorem testBit_setBits (v lo w x i : Nat) :
    (setBits v lo w x).testBit i = if lo ≤ i ∧ i < lo + w then x.testBit (i - lo) else v.testBit i := by
  rw [setBits_eq, Nat.testBit_two_pow_mul_add _ (Nat.mod_lt _ (by positivity)),
    Nat.testBit_two_pow_mul_add _ (Nat.mod_lt _ (by positivity))]
  rcases lt_or_ge i lo with h | h
  · simp [h, h.not_ge, Nat.testBit_mod_two_pow]
  · rcases lt_or_ge i (lo + w) with h' | h'
    · simp [h.not_gt, h, h', show i - lo < w by omega, Nat.testBit_mod_two_pow]
    · have : i - lo - w + w + lo = i := by omega
      simp [h.not_gt, h'.not_gt, show ¬ i - lo < w by omega, Nat.testBit_div_two_pow, this]

theorem bits_setBits_same (v lo w x : Nat) : bits (setBits v lo w x) lo w = x % 2 ^ w := by
  apply Nat.eq_of_testBit_eq
  intro i
  rw [testBit_bits, testBit_setBits, Nat.testBit_mod_two_pow]
  by_cases h : i < w <;> simp [h]

/-- A field beside the one that is written keeps its value. -/
theorem bits_setBits_ne (v x : Nat) {lo w lo' w' : Nat} (h : lo' + w' ≤ lo ∨ lo + w ≤ lo') :
    bits (setBits v lo w x) lo' w' = bits v lo' w' := by
  apply Nat.eq_of_testBit_eq
  intro i
  rw [testBit_bits, testBit_bits, testBit_setBits]
  by_cases hi : i < w'
  · rw [if_neg (by omega)]
  · simp [hi]

/-- A field within the low bits of a number is one of its residue. -/
theorem bits_mod_two_pow (v : Nat) {lo w n : Nat} (h : lo + w ≤ n) : bits (v % 2 ^ n) lo w = bits v lo w := by
  apply Nat.eq_of_testBit_eq
  intro i
  rw [testBit_bits, testBit_bits, Nat.testBit_mod_two_pow]
  by_cases hi : i < w
  · simp [show lo + i < n by omega]
  · simp [hi]

end Sys2Proof

namespace Sys2Proof.Machine

theorem fld_setFld_same (v : Word) {f : Fld} (x : Nat) (h : f.lo + f.w ≤ 64) : fld (setFld v f x) f = x % 2 ^ f.w := by
  rw [fld, setFld, BitVec.toNat_ofNat, bits_mod_two_pow _ h, bits_setBits_same]

theorem fld_setFld_ne (v : Word) {f g : Fld} (x : Nat) (h : f.lo + f.w ≤ 64)
    (hd : f.lo + f.w ≤ g.lo ∨ g.lo + g.w ≤ f.lo) : fld (setFld v g x) f = fld v f := by
  rw [fld, setFld, BitVec.toNat_ofNat, bits_mod_two_pow _ h, bits_setBits_ne _ _ hd, fld]

end Sys2Proof.Machine
end

section
/-! Lanes of a 128-bit register, and the SIMD operations on them (R87). -/

namespace Sys2Proof.Machine

/-! The lanes of a register. -/

theorem lane_lt (v : BitVec 128) (w i : Nat) : lane v w i < 2 ^ w := Nat.mod_lt _ (by positivity)

@[simp] theorem length_lanes (v : BitVec 128) (w : Nat) : (lanes v w).length = 128 / w := by simp [lanes]

theorem getD_lanes (v : BitVec 128) (w i : Nat) : (lanes v w).getD i 0 = if i < 128 / w then lane v w i else 0 := by
  by_cases h : i < 128 / w <;> simp [lanes, List.getD, h]

theorem getD_take_lanes (v : BitVec 128) {w k i : Nat} (hk : k ≤ 128 / w) (h : i < k) :
    ((lanes v w).take k).getD i 0 = lane v w i := by
  have hi : i < 128 / w := by omega
  simp [lanes, List.getD, h, hi]

theorem getD_drop_lanes (v : BitVec 128) {w k i : Nat} (h : k + i < 128 / w) :
    ((lanes v w).drop k).getD i 0 = lane v w (k + i) := by
  simp [lanes, List.getD, h]

/-- Lane `i` lies within the register. -/
theorem lane_within {w i : Nat} (h : i < 128 / w) : w * i + w ≤ 128 := by
  have h1 : w * (i + 1) ≤ w * (128 / w) := Nat.mul_le_mul_left _ h
  have h2 : w * (128 / w) ≤ 128 := Nat.mul_div_le 128 w
  rw [Nat.mul_add] at h1
  omega

theorem lane_ofNat (n : Nat) {w i : Nat} (h : i < 128 / w) : lane (BitVec.ofNat 128 n) w i = bits n (w * i) w := by
  rw [lane, BitVec.toNat_ofNat, bits_mod_two_pow _ (lane_within h)]

/-- The digits of the number that a list of lanes spells. -/
theorem bits_foldr_lanes (w : Nat) (l : List Nat) (i : Nat) :
    bits (l.foldr (fun x a => a * 2 ^ w + x % 2 ^ w) 0) (w * i) w = l.getD i 0 % 2 ^ w := by
  induction l generalizing i with
  | nil => simp [bits]
  | cons x l ih =>
    rw [List.foldr_cons]
    have hx : x % 2 ^ w < 2 ^ w := Nat.mod_lt _ (by positivity)
    cases i with
    | zero => simp [bits]
    | succ i =>
      rw [List.getD_cons_succ, ← ih i, bits, bits, Nat.mul_succ, Nat.pow_add, Nat.mul_comm (2 ^ (w * i)),
        ← Nat.div_div_eq_div_mul, Nat.mul_comm _ (2 ^ w), Nat.mul_add_div (by positivity), Nat.div_eq_of_lt hx, Nat.add_zero]

theorem lane_fromLanes {w i : Nat} (l : List Nat) (h : i < 128 / w) : lane (fromLanes w l) w i = l.getD i 0 % 2 ^ w := by
  rw [fromLanes, lane_ofNat _ h, bits_foldr_lanes]

/-- An operation lane by lane gives the list of its results. -/
theorem zipWith_lanes {α : Type} (f : Nat → Nat → α) (a b : BitVec 128) (w : Nat) :
    List.zipWith f (lanes a w) (lanes b w) = (List.range (128 / w)).map (fun i => f (lane a w i) (lane b w i)) := by
  simp [lanes, List.zipWith_map, List.zipWith_self]

theorem lane_fromLanes_map {w i : Nat} (g : Nat → Nat) (h : i < 128 / w) :
    lane (fromLanes w ((List.range (128 / w)).map g)) w i = g i % 2 ^ w := by
  rw [lane_fromLanes _ h]
  simp [List.getD, h]

theorem two_pow_half (z : BitVec 2) : 2 ^ laneW z / 2 = 2 ^ (laneW z - 1) := by
  have h : 0 < laneW z := by unfold laneW; positivity
  obtain ⟨k, hk⟩ := Nat.exists_eq_add_of_lt h
  simp [hk, Nat.pow_succ]

/-- A signed lane value, with half the modulus as its bound. -/
theorem laneS_eq (z : BitVec 2) (v : Nat) :
    laneS (laneW z) v = if v < 2 ^ laneW z / 2 then (v : Int) else (v : Int) - ((2 ^ laneW z : Nat) : Int) := by
  rw [laneS, two_pow_half]; push_cast; rfl

/-- The format of a floating-point lane is as wide as the lane, so that a comparison fills it. -/
theorem width_fmtOf_lane {z : BitVec 2} (hz : z ≠ 0) : (fmtOf (z.toNat - 1)).width = laneW z := by
  revert z; decide

theorem half_lanes (z : BitVec 2) : 2 * (128 / laneW z / 2) = 128 / laneW z := by
  revert z; decide

/-! Permutations. -/

theorem getD_zipLanes (a b : List Nat) (h : a.length = b.length) (i : Nat) :
    (zipLanes a b).getD i 0 = if i % 2 = 0 then a.getD (i / 2) 0 else b.getD (i / 2) 0 := by
  induction a generalizing b i with
  | nil => simp [List.eq_nil_of_length_eq_zero h.symm, zipLanes]
  | cons x a ih =>
    cases b with
    | nil => simp at h
    | cons y b =>
      have hz : zipLanes (x :: a) (y :: b) = x :: y :: zipLanes a b := rfl
      match i with
      | 0 => simp [hz]
      | 1 => simp [hz]
      | i + 2 =>
        rw [hz, List.getD_cons_succ, List.getD_cons_succ, ih b (by simpa using h)]
        simp [Nat.add_div_right]

theorem getD_everyOther (r : Nat) (l : List Nat) {i : Nat} (h : i < l.length / 2) :
    (everyOther r l).getD i 0 = l.getD (2 * i + r) 0 := by
  simp [everyOther, List.getD, h]

/-- The lanes at every other place of two registers, those of the first before those of the second. -/
theorem getD_everyOther_lanes (u v : BitVec 128) (z : BitVec 2) {r i : Nat} (hr : r < 2) (hi : i < 128 / laneW z) :
    (everyOther r (lanes u (laneW z)) ++ everyOther r (lanes v (laneW z))).getD i 0 =
      if i < 128 / laneW z / 2 then lane u (laneW z) (2 * i + r) else lane v (laneW z) (2 * (i - 128 / laneW z / 2) + r) := by
  have hn := half_lanes z
  have hl : (everyOther r (lanes u (laneW z))).length = 128 / laneW z / 2 := by simp [everyOther]
  by_cases h : i < 128 / laneW z / 2
  · rw [List.getD_append _ _ _ _ (by omega), getD_everyOther _ _ (by simpa using h), getD_lanes, if_pos (by omega), if_pos h]
  · rw [List.getD_append_right _ _ _ _ (by omega), hl, getD_everyOther _ _ (by rw [length_lanes]; omega), getD_lanes,
      if_pos (by omega), if_neg h]

section
variable {p : Nat} {s s2 : State} {x : Ctx} (h : fetched p s = some (x, s2))
include h

/-- An instruction whose body only writes an f register. -/
theorem runInsn_setF {fd : RegNo} {v : BitVec 128} {body : Ctx → InsnM Flow}
    (hb : body x s2 = .ok .seq (s2.modCore x.p (·.setF fd v))) :
    runInsn p true .idle body s = .next (s2.after x (fun c => c.setF fd v) .seq) :=
  runInsn_after _ h (.inl rfl) hb

/-- An integer operation gives in each lane its function of the operands' lanes, modulo the lane. -/
theorem simd_fetched (fd fa fb : RegNo) (z : BitVec 2) (f : Nat → Nat → Nat → Nat) (g : Nat → Nat → Nat)
    (hfg : ∀ a b, a < 2 ^ laneW z → b < 2 ^ laneW z → f (laneW z) a b % 2 ^ laneW z = g a b % 2 ^ laneW z) :
    ∃ v, simd p fd fa fb z false f s = .next (s2.after x (fun c => c.setF fd v) .seq) ∧
      ∀ i, i < 128 / laneW z → lane v (laneW z) i =
        g (lane ((s2.core p).fr fa) (laneW z) i) (lane ((s2.core p).fr fb) (laneW z) i) % 2 ^ laneW z := by
  have hp : x.p = p := fetched_core h
  subst hp
  refine ⟨_, runInsn_setF h rfl, fun i hi => ?_⟩
  rw [zipWith_lanes, lane_fromLanes_map _ hi]
  exact hfg _ _ (lane_lt ..) (lane_lt ..)

theorem simdBits_fetched (fd fa fb : RegNo) (f : BitVec 128 → BitVec 128 → BitVec 128) :
    simdBits p fd fa fb 0 f s =
      .next (s2.after x (fun c => c.setF fd (f (c.fr fa) (c.fr fb))) .seq) :=
  runInsn_after (fun c => c.setF fd (f (c.fr fa) (c.fr fb))) h (.inl rfl) rfl

theorem simdBits_illegal (fd fa fb : RegNo) {z : BitVec 2} (hz : z ≠ 0) (f : BitVec 128 → BitVec 128 → BitVec 128) :
    simdBits p fd fa fb z f s = s2.illegal x :=
  runInsn_illegal h (.inl rfl) (bne_iff_ne.2 hz)

theorem simdFp_illegal (fd fa fb : RegNo) (f : Fmt → Nat → Nat → Nat → Nat × FpFlags) :
    simdFp p fd fa fb 0 f s = s2.illegal x :=
  runInsn_illegal h (.inl rfl) rfl

end

/-- A flag of a sequence of operations is up where one of them raises it. -/
theorem foldl_join_nv (l : List FpFlags) (a : FpFlags) : (l.foldl FpFlags.join a).nv = (a.nv || l.any (·.nv)) := by
  induction l generalizing a with
  | nil => simp
  | cons b l ih => simp [ih, FpFlags.join, Bool.or_assoc]

theorem foldl_join_nx (l : List FpFlags) (a : FpFlags) : (l.foldl FpFlags.join a).nx = (a.nx || l.any (·.nx)) := by
  induction l generalizing a with
  | nil => simp
  | cons b l ih => simp [ih, FpFlags.join, Bool.or_assoc]

/-- A floating-point operation gives in each lane its function of the operands' lanes, and raises a flag that some lane
raises. -/
theorem simdFp_fetched {p : Nat} {s s2 : State} {x : Ctx} (h : fetched p s = some (x, s2)) (fd fa fb : RegNo) {z : BitVec 2}
    (hz : z ≠ 0) (f : Fmt → Nat → Nat → Nat → Nat × FpFlags) (g : Nat → Nat → Nat × FpFlags)
    (hfg : f (fmtOf (z.toNat - 1)) (s2.core p).rm = g) :
    ∃ v fl, simdFp p fd fa fb z f s = .next (s2.after x (fun c => (c.raiseFlags fl).setF fd v) .seq) ∧
      (∀ i, i < 128 / laneW z → lane v (laneW z) i =
        (g (lane ((s2.core p).fr fa) (laneW z) i) (lane ((s2.core p).fr fb) (laneW z) i)).1 % 2 ^ laneW z) ∧
      (fl.nv = true ↔ ∃ i, i < 128 / laneW z ∧
        (g (lane ((s2.core p).fr fa) (laneW z) i) (lane ((s2.core p).fr fb) (laneW z) i)).2.nv = true) ∧
      (fl.nx = true ↔ ∃ i, i < 128 / laneW z ∧
        (g (lane ((s2.core p).fr fa) (laneW z) i) (lane ((s2.core p).fr fb) (laneW z) i)).2.nx = true) := by
  have hp : x.p = p := fetched_core h
  subst hp hfg
  let r := List.zipWith (f (fmtOf (z.toNat - 1)) (s2.core x.p).rm) (lanes ((s2.core x.p).fr fa) (laneW z))
    (lanes ((s2.core x.p).fr fb) (laneW z))
  have hr : r = _ := zipWith_lanes ..
  refine ⟨fromLanes (laneW z) (r.map (·.1)), (r.map (·.2)).foldl FpFlags.join {},
    runInsn_after _ h (.inl rfl) ?_, ?_, ?_, ?_⟩
  · have hz : (z == 0#2) = false := beq_false_of_ne hz
    simp [bind, EStateM.bind, hz, r]
  · intro i hi
    rw [hr, List.map_map, lane_fromLanes_map _ hi]
    rfl
  · rw [foldl_join_nv, hr]; simp
  · rw [foldl_join_nx, hr]; simp

/-- A permutation gives the lanes of its list. -/
theorem simdPerm_fetched {p : Nat} {s s2 : State} {x : Ctx} (h : fetched p s = some (x, s2)) (fd fa fb : RegNo) (z : BitVec 2)
    (f : List Nat → List Nat → List Nat) (g : Nat → Nat)
    (hfg : ∀ i, i < 128 / laneW z →
      (f (lanes ((s2.core p).fr fa) (laneW z)) (lanes ((s2.core p).fr fb) (laneW z))).getD i 0 = g i)
    (hlt : ∀ i, g i < 2 ^ laneW z) :
    ∃ v, simdPerm p fd fa fb z f s = .next (s2.after x (fun c => c.setF fd v) .seq) ∧
      ∀ i, i < 128 / laneW z → lane v (laneW z) i = g i := by
  have hp : x.p = p := fetched_core h
  subst hp
  refine ⟨_, runInsn_setF h rfl, fun i hi => ?_⟩
  rw [lane_fromLanes _ hi, hfg i hi, Nat.mod_eq_of_lt (hlt i)]

theorem getD_map_lanes (f : Nat → Nat) (v : BitVec 128) {w i : Nat} (h : i < 128 / w) :
    ((lanes v w).map f).getD i 0 = f (lane v w i) := by
  simp [lanes, List.getD, h]

/-- Different lanes have no bit in common. -/
theorem lane_disjoint (w : Nat) {i j : Nat} (h : i ≠ j) : w * i + w ≤ w * j ∨ w * j + w ≤ w * i := by
  rcases lt_or_gt_of_ne h with h | h
  · exact .inl (Nat.mul_le_mul_left w h)
  · exact .inr (Nat.mul_le_mul_left w h)

section
variable {p : Nat} {s s2 : State} {x : Ctx} (h : fetched p s = some (x, s2)) (fd fa fb : RegNo)
include h

theorem execVtbl_fetched :
    ∃ v, execVtbl p fd fa fb 0 s = .next (s2.after x (fun c => c.setF fd v) .seq) ∧
      ∀ i, i < 128 / 8 → lane v 8 i =
        if lane ((s2.core p).fr fb) 8 i < 16 then lane ((s2.core p).fr fa) 8 (lane ((s2.core p).fr fb) 8 i) else 0 := by
  have hp : x.p = p := fetched_core h
  subst hp
  refine ⟨_, runInsn_setF h rfl, fun i hi => ?_⟩
  rw [lane_fromLanes _ hi, getD_map_lanes _ _ hi, getD_lanes]
  apply Nat.mod_eq_of_lt
  split
  · exact lane_lt ..
  · decide

theorem execVdupg_fetched (z : BitVec 2) :
    ∃ v, execVdupg p fd fa fb z s = .next (s2.after x (fun c => c.setF fd v) .seq) ∧
      ∀ i, i < 128 / laneW z → lane v (laneW z) i = ((s2.core p).g fa).toNat % 2 ^ laneW z := by
  have hp : x.p = p := fetched_core h
  subst hp
  refine ⟨_, runInsn_setF h rfl, fun i hi => ?_⟩
  rw [lane_fromLanes _ hi, List.getD_eq_getElem?_getD, List.getElem?_replicate_of_lt hi, Option.getD_some]

theorem execVmovgl_fetched {z : BitVec 2} (hb : fb.toNat < 128 / laneW z) :
    execVmovgl p fd fa fb z s =
      .next (s2.after x (fun c => c.setG fd (BitVec.ofNat 64 (lane ((s2.core p).fr fa) (laneW z) fb.toNat))) .seq) := by
  have hp : x.p = p := fetched_core h
  subst hp
  refine runInsn_after (fun c => c.setG fd _) h (.inl rfl) ?_
  simp [bind, EStateM.bind, hb.not_ge, lane]

/-- VINSG replaces one lane and keeps the others. -/
theorem execVinsg_fetched {z : BitVec 2} (hb : fb.toNat < 128 / laneW z) :
    ∃ v, execVinsg p fd fa fb z s = .next (s2.after x (fun c => c.setF fd v) .seq) ∧
      ∀ i, i < 128 / laneW z → lane v (laneW z) i =
        if i = fb.toNat then ((s2.core p).g fa).toNat % 2 ^ laneW z else lane ((s2.core p).fr fd) (laneW z) i := by
  have hp : x.p = p := fetched_core h
  subst hp
  refine ⟨BitVec.ofNat 128 (setBits ((s2.core x.p).fr fd).toNat (laneW z * fb.toNat) (laneW z) ((s2.core x.p).g fa).toNat),
    runInsn_setF h ?_, fun i hi => ?_⟩
  · simp [bind, EStateM.bind, hb.not_ge]
  · rw [lane_ofNat _ hi]
    by_cases hk : i = fb.toNat
    · rw [hk, bits_setBits_same, if_pos rfl]
    · rw [bits_setBits_ne _ _ (lane_disjoint _ hk), if_neg hk, lane]

end

/-! The integer functions of a lane. -/

theorem min_lane (a b : Nat) : min a b = if a < b then a else b := by
  split <;> omega

theorem max_lane (a b : Nat) : max a b = if a < b then b else a := by
  split <;> omega

/-- The signed sum limited to the values of a lane, `h` being the bound of its positive ones. -/
theorem clamp_lane (h t : Int) (hpos : 0 < h) :
    max (-h) (min (h - 1) t) = if t < -h then -h else if h ≤ t then h - 1 else t := by
  split
  · omega
  · split <;> omega

/-- The sum limited to the greatest value of a lane. -/
theorem limit_lane (m t : Nat) : min (m - 1) t = if t < m then t else m - 1 := by
  split <;> omega

/-- Settles O24: the operations lane by lane, then the permutations and moves. -/
theorem simdResults : Obligations.SimdResults := by
  unfold Obligations.SimdResults
  refine ⟨?lanewise, ?permute⟩
  case lanewise =>
    intro p fd fa fb z s s2 x h c w m lane' sgn rm f gives fgives all
    have int (o : Nat → Nat → Nat → Nat) (g : Nat → Nat → Nat) (hg : ∀ a b, a < m → b < m → o w a b = g a b) :
        gives (simd p fd fa fb z false o s) g :=
      simd_fetched h fd fa fb z o g fun a b ha hb => congrArg (· % m) (hg a b ha hb)
    have fp (hz : z ≠ 0) (o : Fmt → Nat → Nat → Nat → Nat × FpFlags) (g : Nat → Nat → Nat × FpFlags) (hg : o f rm = g) :
        fgives (simdFp p fd fa fb z o s) g := simdFp_fetched h fd fa fb hz o g hg
    clear_value gives fgives
    have sg (v : Nat) : laneS w v = sgn v := laneS_eq z v
    have half : ((m / 2 : Nat) : Int) = 2 ^ (w - 1) := by
      rw [show m / 2 = 2 ^ (w - 1) from two_pow_half z]; push_cast; rfl
    have hm (t : Int) : laneOf w t = (t % (m : Int)).toNat := by
      rw [laneOf, show (m : Int) = 2 ^ w from Nat.cast_pow 2 w]
    simp only [exec_vadd, exec_vsub, exec_vmul, exec_vmins, exec_vminu, exec_vmaxs, exec_vmaxu, exec_vsll, exec_vsrl,
      exec_vsra, exec_vaddss, exec_vaddus, exec_vceq, exec_vcgts, exec_vcgtu, exec_vand, exec_vor, exec_vxor, exec_vandn,
      exec_vfadd, exec_vfsub, exec_vfmul, exec_vfdiv, exec_vfmin, exec_vfmax, exec_vfceq, exec_vfclt, exec_vtbl]
    refine ⟨int _ _ fun _ _ _ _ => rfl, int _ _ fun a b _ hb => (Nat.add_sub_assoc hb.le a).symm,
      int _ _ fun _ _ _ _ => rfl, int _ _ fun a b _ _ => by simp only [sg],
      int _ _ fun a b _ _ => min_lane a b, int _ _ fun a b _ _ => by simp only [sg],
      int _ _ fun a b _ _ => max_lane a b, int _ _ fun _ _ _ _ => rfl, int _ _ fun _ _ _ _ => rfl,
      int _ _ fun a b _ _ => by simp only [sg, hm],
      int _ _ fun a b _ _ => by rw [sg, sg, ← half, clamp_lane _ _ (by rw [half]; positivity), hm],
      int _ _ fun a b _ _ => limit_lane m (a + b), int _ _ fun _ _ _ _ => rfl, int _ _ fun a b _ _ => by simp only [sg]; rfl,
      int _ _ fun _ _ _ _ => rfl, ?bits, ?fp, ?fp8, ?illegal⟩
    case bits =>
      rintro rfl
      exact ⟨simdBits_fetched h .., simdBits_fetched h .., simdBits_fetched h .., simdBits_fetched h ..⟩
    case fp =>
      intro hz
      have hw (b : Bool) : ones f.width b = all b := by rw [width_fmtOf_lane hz]; rfl
      have bad (o : BitVec 128 → BitVec 128 → BitVec 128) : simdBits p fd fa fb z o s = s2.illegal x :=
        simdBits_illegal h fd fa fb hz o
      exact ⟨fp hz _ _ rfl, fp hz _ _ rfl, fp hz _ _ rfl, fp hz _ _ rfl, fp hz _ _ rfl, fp hz _ _ rfl,
        fp hz _ _ (by simp only [hw]), fp hz _ _ (by simp only [hw]), bad _, bad _, bad _, bad _,
        runInsn_illegal h (.inl rfl) (bne_iff_ne.2 hz)⟩
    case fp8 =>
      rintro rfl
      have bad (o : Fmt → Nat → Nat → Nat → Nat × FpFlags) : simdFp p fd fa fb 0 o s = s2.illegal x :=
        simdFp_illegal h fd fa fb o
      exact ⟨bad _, bad _, bad _, bad _, bad _, bad _, bad _, bad _⟩
    case illegal => exact runInsn_illegal h (.inl rfl) rfl
  case permute =>
    intro p fd fa fb z s s2 x h c w n lane' a b gives
    have hp : x.p = p := fetched_core h
    subst hp
    have hn : 2 * (n / 2) = n := half_lanes z
    have perm (o : List Nat → List Nat → List Nat) (g : Nat → Nat)
        (hg : ∀ i, i < n → (o (lanes (c.fr fa) w) (lanes (c.fr fb) w)).getD i 0 = g i) (hlt : ∀ i, g i < 2 ^ w) :
        gives (simdPerm x.p fd fa fb z o s) g := simdPerm_fetched h fd fa fb z o g hg hlt
    have two {q : Prop} (_ : Decidable q) (i j : Nat) : (if q then a i else b j) < 2 ^ w := by
      split
      · exact lane_lt ..
      · exact lane_lt ..
    simp only [exec_vzipl, exec_vziph, exec_vuzpe, exec_vuzpo, exec_vdupg, exec_vtbl, exec_vmovgl, exec_vinsg]
    refine ⟨perm _ _ ?zipl fun i => two _ _ _, perm _ _ ?ziph fun i => two _ _ _,
      perm _ _ (fun i hi => getD_everyOther_lanes _ _ z (by decide) hi) fun i => two _ _ _,
      perm _ _ (fun i hi => getD_everyOther_lanes _ _ z (by decide) hi) fun i => two _ _ _,
      execVdupg_fetched h fd fa fb z, ?tbl, ?inRange, ?illegal⟩
    case zipl =>
      intro i hi
      rw [getD_zipLanes _ _ (by simp), length_lanes, length_lanes,
        getD_take_lanes _ (Nat.div_le_self _ _) (show i / 2 < n / 2 by omega),
        getD_take_lanes _ (Nat.div_le_self _ _) (show i / 2 < n / 2 by omega)]
      rfl
    case ziph =>
      intro i hi
      rw [getD_zipLanes _ _ (by simp), length_lanes, length_lanes, getD_drop_lanes _ (show n / 2 + i / 2 < n by omega),
        getD_drop_lanes _ (show n / 2 + i / 2 < n by omega)]
      rfl
    case tbl =>
      rintro rfl
      exact execVtbl_fetched h fd fa fb
    case inRange => exact fun hb => ⟨execVmovgl_fetched h fd fa fb hb, execVinsg_fetched h fd fa fb hb⟩
    case illegal =>
      intro hb
      have bad : decide (fb.toNat ≥ 128 / laneW z) = true := decide_eq_true hb
      exact ⟨runInsn_illegal h (.inl rfl) bad, runInsn_illegal h (.inl rfl) bad⟩

end Sys2Proof.Machine
end

section
/-! What reading memory leaves alone: a translation, a walk, a line read or asked for, a message sent or a storage error found
changes nothing of the architectural state of any core. -/

namespace Sys2Proof.Machine

/-- Every core has the same architectural state. -/
structure SameArch (s t : State) : Prop where
  arch (p : Nat) : (t.core p).arch = (s.core p).arch

theorem SameArch.refl (s : State) : SameArch s s := ⟨fun _ => rfl⟩

theorem SameArch.trans {s t u : State} (h : SameArch s t) (k : SameArch t u) : SameArch s u :=
  ⟨fun p => (k.arch p).trans (h.arch p)⟩

theorem SameArch.of_cores {s t : State} (h : t.cores = s.cores) : SameArch s t :=
  ⟨fun p => by rw [State.core, State.core, h]⟩

theorem SameArch.ite {q : Prop} [Decidable q] {s t u : State} (ht : SameArch s t) (hu : SameArch s u) :
    SameArch s (if q then t else u) := by
  split
  · exact ht
  · exact hu

theorem SameArch.setCore {s : State} {p : Nat} {c : Core} (h : c.arch = (s.core p).arch) : SameArch s (s.setCore p c) := by
  constructor
  intro q
  by_cases hq : q = p
  · rw [hq, State.core_setCore_same, h]
  · rw [State.core_setCore_ne _ _ hq]

theorem SameArch.modCore (s : State) (p : Nat) {f : Core → Core} (h : ∀ c, (f c).arch = c.arch) :
    SameArch s (s.modCore p f) :=
  .setCore (h _)

theorem SameArch.foldl {α : Type} {f : State → α → State} (h : ∀ s a, SameArch s (f s a)) (l : List α) (s : State) :
    SameArch s (l.foldl f s) := by
  induction l generalizing s with
  | nil => exact .refl s
  | cons a l ih => exact (h s a).trans (ih _)

/-! Messages and reports. -/

theorem State.put_cores (s : State) (m : Msg) : (s.put m).cores = s.cores := by
  simp only [State.put, State.routeErr]
  split
  · rfl
  · split <;> simp

theorem State.fenceDrop_cores (s : State) (m : Msg) : (s.fenceDrop m).cores = s.cores := by
  simp only [State.fenceDrop]
  split
  · exact s.put_cores _
  · simp

@[simp] theorem State.send_cores (s : State) (m : Msg) : (s.send m).cores = s.cores := by
  unfold State.send
  split
  · exact s.fenceDrop_cores m
  · exact s.put_cores m

@[simp] theorem State.request_cores (s : State) (p : Nat) (o : Opc) (pa : Nat) (w : Bool) (d : Nat) (sp : Bool) (data : Line)
    (po : BitVec 4) (op : Nat) (pt : Bool) (tag : Nat) : (s.request p o pa w d sp data po op pt tag).cores = s.cores :=
  s.send_cores _

@[simp] theorem State.gateFault_cores (s : State) (i : Nat) (sp wr w : Bool) (d a r pa : Nat) :
    (s.gateFault i sp wr w d a r pa).cores = s.cores := by
  unfold State.gateFault
  split
  · rfl
  · simp only [State.report_frame]
    split <;> simp

@[simp] theorem State.answerI_cores (s : State) (id : Nat) (m : Msg) : (s.answerI id m).cores = s.cores := by
  unfold State.answerI
  split <;> simp

/-! Lines of a core. -/

@[simp] theorem Core.arch_setLine (c : Core) (pa : Nat) (l : PLine) : (c.setLine pa l).arch = c.arch := rfl
@[simp] theorem Core.arch_l1Drop (c : Core) (pa : Nat) : (c.l1Drop pa).arch = c.arch := rfl

@[simp] theorem Core.arch_loseWrite (c : Core) (pa : Nat) : (c.loseWrite pa).arch = c.arch := by
  unfold Core.loseWrite
  split
  · split <;> rfl
  · rfl

@[simp] theorem Core.arch_l1dClean (c : Core) (pa : Nat) : (c.l1dClean pa).arch = c.arch := by
  unfold Core.l1dClean
  split
  · rfl
  · split
    · rfl
    · dsimp only
      split
      · rfl
      · split <;> rfl

@[simp] theorem Core.arch_tlbFill (c : Core) (f : Bool) (va : Nat) (e : TlbEnt) : (c.tlbFill f va e).arch = c.arch := by
  cases f <;> rfl

theorem Core.arch_l1dFill {c d : Core} {pa : Nat} {w : Bool} {dom : Nat} (h : c.l1dFill pa w dom = some d) :
    d.arch = c.arch := by
  obtain ⟨v, -, rfl⟩ := Option.map_eq_some_iff.1 h
  dsimp only
  split <;> simp

/-! Storage errors, evictions and snoops. -/

theorem SameArch.report {s t : State} (h : SameArch s t) (n : Nat) (k : FbClass) (d : Nat) : SameArch s (t.report n k d) :=
  h.trans (.of_cores rfl)

theorem State.upset_sameArch (s : State) (p pa : Nat) (e : Upset) : SameArch s (s.upset p pa e) := by
  have drop : SameArch s (s.modCore p (·.l1iDrop pa)) := .modCore s p fun _ => rfl
  cases e with
  | none => exact .refl s
  | arise f => exact .refl s
  | ariseSl f => exact .refl s
  | ce st =>
    exact (SameArch.ite drop (.refl s)).report ..
  | uc st u =>
    simp only [State.upset]
    split
    · exact drop.report ..
    · refine (SameArch.setCore ?_).report ..
      dsimp only
      split
      · rfl
      · split
        · rfl
        · split <;> rfl

theorem State.findFlaws_sameArch (s : State) (p : Nat) (f : Flaw → Bool) : SameArch s (s.findFlaws p f) := by
  unfold State.findFlaws
  dsimp only
  split
  · exact .refl s
  · refine SameArch.trans ?_ (SameArch.foldl (fun t y => .ite ((SameArch.refl t).report ..) (t.upset_sameArch ..)) _ _)
    exact .setCore rfl

theorem State.readFlaws_sameArch (s : State) (p st pa : Nat) : SameArch s (s.readFlaws p st pa) := s.findFlaws_sameArch ..
theorem State.lookFlaws_sameArch (s : State) (p st k : Nat) : SameArch s (s.lookFlaws p st k) := s.findFlaws_sameArch ..

theorem State.outFlaws_sameArch (s : State) (p pa : Nat) : SameArch s (s.outFlaws p pa) := by
  unfold State.outFlaws
  dsimp only
  split
  · exact .refl s
  · split
    · refine SameArch.trans ?_ (State.readFlaws_sameArch ..)
      split
      · exact .ite (s.readFlaws_sameArch ..) (.refl s)
      · exact .refl s
    · split
      · exact .ite (s.readFlaws_sameArch ..) (.refl s)
      · exact .refl s

theorem State.evict_sameArch (s : State) (p pa : Nat) : SameArch s (s.evict p pa) := by
  have out (t : State) (l : PLine) : SameArch t ((t.setCore p (((t.core p).l1Drop pa).setLine pa l))) := .setCore rfl
  unfold State.evict
  dsimp only
  split
  · exact .refl s
  · split
    · exact .setCore rfl
    · exact (s.outFlaws_sameArch p pa).trans ((out _ _).trans (.of_cores (State.request_cores ..)))
    · exact (s.outFlaws_sameArch p pa).trans ((out _ _).trans (.of_cores (State.request_cores ..)))
    · exact (s.outFlaws_sameArch p pa).trans ((out _ _).trans (.of_cores (State.request_cores ..)))
    · exact .refl s

/-- A snoop changes the line and the monitor of its core. -/
theorem State.snoop_sameArch (s : State) (p : Nat) (m : Msg) (e : Upset) : SameArch s (s.snoop p m e) := by
  refine (s.lookFlaws_sameArch p 2 (l2Set m.pa)).trans ?_
  unfold State.snoop
  dsimp only
  generalize s.lookFlaws p 2 (l2Set m.pa) = t
  split
  · exact .of_cores (State.answerI_cores ..)
  · next l0 _ =>
    split
    · have read : SameArch t (if snoopReads m.opc l0.st then t.outFlaws p m.pa else t) :=
        .ite (t.outFlaws_sameArch ..) (.refl t)
      refine (read.trans (State.upset_sameArch _ p m.pa e)).trans (SameArch.trans (.of_cores (State.send_cores ..)) (.setCore ?_))
      simp only [apply_ite Core.arch, Core.arch_loseWrite, ite_self]
      split
      · rfl
      · simp only [apply_ite Core.arch, Core.arch_setLine, Core.arch_l1dClean, Core.arch_l1Drop, ite_self]
    · exact .of_cores (State.answerI_cores ..)

theorem State.endDefer_sameArch (s : State) (p ln : Nat) : SameArch s (s.endDefer p ln) := by
  refine SameArch.trans ?_ (SameArch.foldl (fun t m => t.snoop_sameArch p m .none) _ _)
  exact .setCore rfl

theorem State.endDefers_sameArch (s : State) (p : Nat) : SameArch s (s.endDefers p) :=
  SameArch.foldl (fun t ln => t.endDefer_sameArch p ln) _ _

theorem State.evictAll_sameArch (s : State) (p : Nat) (l : List Nat) : SameArch s (s.evictAll p l) := by
  refine SameArch.foldl (fun t ln => ?_) _ _
  exact .ite (.refl t) (t.evict_sameArch ..)

theorem State.failed_sameArch (s : State) (p : Nat) (w : Bool) (d pa : Nat) (wr : Bool) (e : WErr) :
    SameArch s (s.failed p w d pa wr e) := by
  cases e with
  | unpop => exact (SameArch.refl s).report ..
  | refused r => exact .of_cores (State.gateFault_cores ..)
  | poison => exact .refl s
  | miss => exact .refl s
  | abort =>
    exact SameArch.modCore s p (f := fun c => { c with refused := c.refused.erase (lineOf pa) }) fun _ => rfl

/-- A translation installs an entry or reports what failed. -/
theorem State.xlate_sameArch (s : State) (x : Ctx) (w : Bool) (lv : Nat) (f : Bool) (n : Need) (va : Nat) :
    SameArch s (s.xlate x w lv f n va).1 := by
  unfold State.xlate
  split
  · exact .refl s
  · dsimp only
    split
    · split
      · exact s.failed_sameArch ..
      · exact .refl s
      · split
        · exact .refl s
        · exact .modCore s _ fun c => c.arch_tlbFill ..
    · next e0 r _ =>
      have drawn : SameArch s (if r.isEmpty then s else s.draw) :=
        .ite (.refl s) (.of_cores rfl)
      split
      · exact drawn
      · exact drawn

/-! Operations of a core that keep every architectural state, however they end. -/

/-- The state in which an operation ends. -/
def endState {α : Type} (m : InsnM α) (s : State) : State :=
  match m s with
  | .ok _ t => t
  | .error _ t => t

/-- Wherever the operation starts and however it ends, every architectural state is the same. -/
structure KeepsArch {α : Type} (m : InsnM α) : Prop where
  same (s : State) : SameArch s (endState m s)

section
variable {α β : Type}

theorem endState_ok {m : InsnM α} {s t : State} {a : α} (h : m s = .ok a t) : endState m s = t := by
  rw [endState, h]

theorem endState_error {m : InsnM α} {s t : State} {e : Stop} (h : m s = .error e t) : endState m s = t := by
  rw [endState, h]

/-- A sequence of operations, the second seen from the state and the value that the first leaves. -/
theorem SameArch.bind_at {m : InsnM α} {f : α → InsnM β} {s : State} (hm : SameArch s (endState m s))
    (hf : ∀ a t, m s = .ok a t → SameArch t (endState (f a) t)) : SameArch s (endState (m >>= f) s) := by
  cases h : m s with
  | ok a t =>
    have hb : endState (m >>= f) s = endState (f a) t := by
      simp only [endState, bind, EStateM.bind, h]
    rw [endState_ok h] at hm
    rw [hb]
    exact hm.trans (hf a t h)
  | error e t =>
    rw [endState_error h] at hm
    rw [endState_error (e := e) (t := t) (by simp only [bind, EStateM.bind, h])]
    exact hm

theorem KeepsArch.bind {m : InsnM α} {f : α → InsnM β} (hm : KeepsArch m) (hf : ∀ a, KeepsArch (f a)) : KeepsArch (m >>= f) :=
  ⟨fun s => .bind_at (hm.same s) fun a t _ => (hf a).same t⟩

theorem KeepsArch.pure (a : α) : KeepsArch (pure a : InsnM α) := ⟨fun s => .refl s⟩
theorem KeepsArch.throw (e : Stop) : KeepsArch (throw e : InsnM α) := ⟨fun s => .refl s⟩
theorem KeepsArch.stall : KeepsArch (stall : InsnM α) := ⟨fun s => .refl s⟩
theorem KeepsArch.raise (c ea i acc : Nat) : KeepsArch (raise c ea i acc : InsnM α) := ⟨fun s => .refl s⟩
theorem KeepsArch.get : KeepsArch (get : InsnM State) := ⟨fun s => .refl s⟩
theorem KeepsArch.getCore (p : Nat) : KeepsArch (getCore p) := ⟨fun s => .refl s⟩
theorem KeepsArch.modify {f : State → State} (h : ∀ s, SameArch s (f s)) : KeepsArch (modify f : InsnM Unit) := ⟨h⟩
theorem KeepsArch.modCore (p : Nat) {f : Core → Core} (h : ∀ c, (f c).arch = c.arch) : KeepsArch (modCore p f) :=
  ⟨fun s => .modCore s p h⟩

theorem KeepsArch.ite {q : Prop} [Decidable q] {m n : InsnM α} (hm : KeepsArch m) (hn : KeepsArch n) :
    KeepsArch (if q then m else n) := by
  split
  · exact hm
  · exact hn

theorem KeepsArch.stallIf (b : Bool) : KeepsArch (stallIf b) := .ite .stall (.pure ())

theorem KeepsArch.failAt (x : Ctx) (w : Bool) (d pa : Nat) (wr : Bool) (va acc : Nat) (e : WErr) :
    KeepsArch (failAt x w d pa wr va acc e : InsnM α) :=
  .bind (.modify fun s => s.failed_sameArch ..) fun _ => .throw _

end

theorem twinHold_keepsArch (p : Nat) : KeepsArch (twinHold p) :=
  .bind .get fun _ => .ite (.bind (.stallIf _) fun _ => .modCore p fun _ => rfl) (.pure ())

theorem romCheck_keepsArch (w : Bool) (pa va acc : Nat) : KeepsArch (romCheck w pa va acc) := by
  unfold romCheck
  split
  · exact .ite (.pure ()) (.bind (.modify fun s => (SameArch.refl s).report ..) fun _ => .raise ..)
  · exact .pure ()

theorem missFor_keepsArch (x : Ctx) (pa : Nat) (o : Opc) (l : PLine) (tag : Nat) : KeepsArch (missFor x pa o l tag) :=
  .bind (.getCore _) fun _ => .bind (.stallIf _) fun _ => .bind (.modCore _ fun _ => rfl) fun _ =>
    .modify fun s => .of_cores (s.request_cores ..)

theorem takeRefusal_keepsArch (x : Ctx) (va pa acc : Nat) : KeepsArch (takeRefusal x va pa acc) :=
  .bind (.modCore _ fun _ => rfl) fun _ => .bind (.getCore _) fun _ =>
    .ite (.bind (.modCore _ fun _ => rfl) fun _ => .raise ..) (.pure ())

theorem otherTags_keepsArch (x : Ctx) (pa : Nat) (l : PLine) : KeepsArch (otherTags x pa l) :=
  .bind (.getCore _) fun _ => .ite (.modify fun s => s.evict_sameArch ..) (.pure ())

theorem wbLine_keepsArch (x : Ctx) (write w : Bool) (d va pa acc : Nat) (k : L1Miss) :
    KeepsArch (wbLine x write w d va pa acc k) := by
  refine .bind (takeRefusal_keepsArch ..) fun _ => .bind (.getCore _) fun _ =>
    .ite (.bind (.modify fun s => s.lookFlaws_sameArch ..) fun _ => ?_) ?_
  all_goals
    refine .bind (.getCore _) fun _ => ?_
    split
    · exact .bind (missFor_keepsArch ..) fun _ => .stall
    · refine .ite (.bind (otherTags_keepsArch ..) fun _ => .stall)
        (.ite (.ite (.bind (.modCore _ fun _ => rfl) fun _ => .stall) .stall)
          (.ite (.ite (.pure _) .stall) (.ite (.pure _) ?_)))
      split
      · exact .bind (missFor_keepsArch ..) fun _ => .stall
      · exact .bind (missFor_keepsArch ..) fun _ => .stall
      · exact .stall

theorem walkMiss_keepsArch (x : Ctx) (w : Bool) (d va pa acc : Nat) : KeepsArch (walkMiss x w d va pa acc) :=
  .bind (.getCore _) fun _ => .ite (.modify fun s => s.readFlaws_sameArch ..)
    (.bind (wbLine_keepsArch ..) fun _ => .pure ())

theorem translate_keepsArch (x : Ctx) (w : Bool) (lv : Nat) (f : Bool) (n : Need) (va acc : Nat) :
    KeepsArch (translate x w lv f n va acc) := by
  constructor
  intro s
  have hx := s.xlate_sameArch x w lv f n va
  refine .bind_at (.refl s) fun a t h => ?_
  cases h
  generalize s.xlate x w lv f n va = q at hx
  obtain ⟨s', r⟩ := q
  refine .bind_at hx fun _ t h => ?_
  cases h
  split
  · exact .refl s'
  · exact (KeepsArch.bind (walkMiss_keepsArch ..) fun _ => .stall).same s'
  · exact .refl s'

theorem pieces_keepsArch (x : Ctx) (n : Need) (acc va size : Nat) (strict : Bool) :
    KeepsArch (pieces x n acc va size strict) := by
  unfold pieces
  have joined (ps : List Piece) : KeepsArch (do
      let ps ← pure ps
      if va % size ≠ 0 ∧ (strict || ps.any (fun p => decide (p.mt ≥ 2))) then raise 0x03 va 0 acc
      else pure (ps.flatMap halves)) :=
    .bind (.pure _) fun _ => .ite (.raise ..) (.pure _)
  exact .bind (translate_keepsArch ..) fun _ => .ite (joined _)
    (.ite (.bind (translate_keepsArch ..) fun _ => joined _) (.bind (.pure _) fun _ => joined _))

theorem peatCheck_keepsArch (x : Ctx) (n : Need) (va pa size acc : Nat) : KeepsArch (peatCheck x n va pa size acc) := by
  refine .bind .get fun s => ?_
  split
  · exact .pure ()
  · exact .failAt ..

theorem l1dGet_keepsArch (p : Nat) (w : Bool) (d pa : Nat) : KeepsArch (l1dGet p w d pa) := by
  refine .bind (.modify fun s => s.lookFlaws_sameArch ..) fun _ => .bind (.getCore _) fun _ => .ite ?_ (.pure ())
  refine .bind (.modify fun s => s.readFlaws_sameArch ..) fun _ => ⟨fun s => .bind_at (.refl s) fun c t h => ?_⟩
  cases h
  split
  · next hd => exact SameArch.setCore (Core.arch_l1dFill hd)
  · exact .refl s

theorem consume_keepsArch (d : Line × BitVec 8) (va pa size acc : Nat) : KeepsArch (consume d va pa size acc) :=
  .ite (.raise ..) (.pure _)

theorem lineRead_keepsArch (x : Ctx) (e : Upset) (va pa size acc : Nat) : KeepsArch (lineRead x e va pa size acc) :=
  .bind (l1dGet_keepsArch ..) fun _ => .bind (.modCore _ fun _ => rfl) fun _ =>
    .bind (.modify fun s => (s.readFlaws_sameArch ..).trans (State.upset_sameArch ..)) fun _ =>
      .bind (.getCore _) fun _ => consume_keepsArch ..

theorem peatRead_keepsArch (x : Ctx) (e : Upset) (mt va pa size acc : Nat) : KeepsArch (peatRead x e mt va pa size acc) :=
  .ite (lineRead_keepsArch ..)
    (.bind (.modify fun s => (s.readFlaws_sameArch ..).trans (State.upset_sameArch ..)) fun _ =>
      .bind (.getCore _) fun _ => consume_keepsArch ..)

theorem deviceHold_keepsArch (x : Ctx) (mt : Nat) : KeepsArch (deviceHold x mt) := .ite (twinHold_keepsArch _) (.pure ())

/-- The part of an uncached access that sends a piece of it (R305), with the answers that are there. -/
def ncSend (x : Ctx) (o : Opc) (dev : Bool) (pa size : Nat) (data : Line) (got : List Line) : InsnM Line := do
  stallIf ((← getCore x.p).sq.any (·.overlaps pa size))
  let tag := (← getCore x.p).ncSeq
  modify (fun s => s.send { s.ncMsg x o pa size data with aux := tag })
  modCore x.p (fun c => { c with wait := some { got := got, pa := pa, size := size, dev := dev, tag := tag }, ncSeq := tag + 1 })
  stall

theorem ncAccess_keepsArch (x : Ctx) (o : Opc) (dev : Bool) (n va pa size acc : Nat) (data : Line) :
    KeepsArch (ncAccess x o dev n va pa size acc data) := by
  have send (got : List Line) : KeepsArch (ncSend x o dev pa size data got) :=
    .bind (.getCore _) fun _ => .bind (.stallIf _) fun _ => .bind (.getCore _) fun _ =>
      .bind (.modify fun s => .of_cores (s.send_cores _)) fun _ => .bind (.modCore _ fun _ => rfl) fun _ => .stall
  have drop : KeepsArch (modCore x.p fun c => { c with wait := none }) := .modCore _ fun _ => rfl
  refine .bind (.getCore _) fun c => ?_
  split
  · exact send []
  · exact .ite (.pure _) (.ite (send _) (.ite .stall (.ite (.bind drop fun _ => .raise ..)
      (.ite (.bind drop fun _ => .raise ..) (.bind (.modCore _ fun _ => rfl) fun _ => .pure _)))))

theorem takeEarly_keepsArch (x : Ctx) (base : Option RegNo) (pa : Nat) : KeepsArch (takeEarly x base pa) := by
  refine .bind (.getCore _) fun c => ?_
  split
  · exact .pure _
  · refine .bind (.modCore _ fun _ => rfl) fun _ => ?_
    split
    · exact .pure _
    · exact .pure _

theorem readPiece_keepsArch (x : Ctx) (acc : Nat) (e : Upset) (base : Option RegNo) (n : Nat) (q : Piece) :
    KeepsArch (readPiece x acc e base n q) := by
  have direct : KeepsArch (do
      deviceHold x q.mt
      ncAccess x .ncRead (decide (q.mt ≥ 2)) n q.va q.pa q.size acc 0) :=
    .bind (deviceHold_keepsArch ..) fun _ => ncAccess_keepsArch ..
  unfold readPiece
  split
  · refine .bind .get fun _ => .ite (.failAt ..) (.ite (.bind (takeEarly_keepsArch ..) fun v => ?_) direct)
    split
    · exact consume_keepsArch ..
    · exact .bind (wbLine_keepsArch ..) fun _ => lineRead_keepsArch ..
  · exact .ite (.bind (peatCheck_keepsArch ..) fun _ => peatRead_keepsArch ..) direct
  · exact .failAt ..
  · exact .ite (.failAt ..) direct
  · exact .bind (romCheck_keepsArch ..) fun _ => direct

theorem readPieces_keepsArch (x : Ctx) (acc : Nat) (e : Upset) (base : Option RegNo) (n : Nat) (ps : List Piece) :
    KeepsArch (readPieces x acc e base n ps) := by
  induction ps generalizing n with
  | nil => exact .pure _
  | cons q r ih => exact .bind (readPiece_keepsArch ..) fun _ => .bind (ih _) fun _ => .pure _

theorem loadPieces_keepsArch (x : Ctx) (acc : Nat) (e : Upset) (base : Option RegNo) (n : Nat) (ps : List Piece) :
    KeepsArch (loadPieces x acc e base n ps) := by
  refine .bind (.getCore _) fun c => ?_
  split
  · exact .pure _
  · exact .stall
  · exact readPieces_keepsArch ..

/-- The read of a vector's entry (R144), before its exceptions are taken for a failure of the vector. -/
def readEntry (x : Ctx) (va : Nat) : InsnM (Option Word) := do
  let ps ← pieces x needLoad 2 va 8 true
  if ps.any (fun q => decide (q.mt ≥ 2)) then pure none
  else
    let (v, _) ← loadPieces x 2 .none none 0 ps
    let w := v.setWidth 64
    pure (if bits w.toNat 0 2 = 0 ∧ bits w.toNat 48 16 = 0 then some w else none)

theorem readEntry_keepsArch (x : Ctx) (va : Nat) : KeepsArch (readEntry x va) :=
  .bind (pieces_keepsArch ..) fun _ => .ite (.pure _) (.bind (loadPieces_keepsArch ..) fun _ => .pure _)

/-- An operation whose exceptions stand for no value. -/
def noneOnExc (m : InsnM (Option Word)) : InsnM (Option Word) := fun s =>
  match m s with
  | .ok v t => .ok v t
  | .error .stall t => .error .stall t
  | .error (.exc _) t => .ok none t

theorem readVector_eq (p lv cause : Nat) : readVector p lv cause = (do
    let c ← getCore p
    let x : Ctx := { p := p, eff := c.arch.cr, level := lv, world := c.arch.world, pc := c.arch.pc }
    noneOnExc (readEntry x (fld (x.cr (lvKey x.world lv 0)) vtb_BASE * 512 + 8 * cause))) := rfl

theorem noneOnExc_keepsArch {m : InsnM (Option Word)} (h : KeepsArch m) : KeepsArch (noneOnExc m) := by
  constructor
  intro s
  have hs := h.same s
  unfold endState noneOnExc at *
  cases hm : m s with
  | ok v t => simpa only [hm] using hs
  | error e t => cases e <;> simpa only [hm] using hs

theorem readVector_keepsArch (p lv cause : Nat) : KeepsArch (readVector p lv cause) := by
  rw [readVector_eq]
  exact .bind (.getCore _) fun _ => noneOnExc_keepsArch (readEntry_keepsArch ..)

/-! Exception entry. -/

theorem State.vecHalt_sameArch (s : State) (p : Nat) : SameArch s (s.vecHalt p) :=
  (SameArch.modCore s p fun c => by split <;> rfl).report ..

/-- The vector names the program counter or stops the core: level, world and control registers stay. -/
theorem takeVector_arch (p : Nat) (s : State) : ∃ en pc,
    ((endState (takeVector p) s).core p).arch = { (s.core p).arch with entering := en, pc := pc } := by
  cases hen : (s.core p).arch.entering with
  | none =>
    refine ⟨_, _, congrArg (fun t : State => (t.core p).arch) (endState_ok (a := ()) (t := s) ?_)⟩
    simp [takeVector, bind, EStateM.bind, hen]
  | some e =>
    obtain ⟨lv, cause⟩ := e
    have hr := (readVector_keepsArch p lv cause).same s
    cases hv : readVector p lv cause s with
    | error st t =>
      rw [endState_error hv] at hr
      have ht : endState (takeVector p) s = t :=
        endState_error (e := st) (by simp [takeVector, bind, EStateM.bind, hen, hv])
      exact ⟨_, _, by rw [ht, hr.arch p]⟩
    | ok v t =>
      rw [endState_ok hv] at hr
      rw [← hr.arch p]
      cases v with
      | none =>
        refine ⟨none, (t.core p).arch.pc, ?_⟩
        simp [takeVector, bind, EStateM.bind, hen, hv, endState, (State.vecHalt_sameArch _ p).arch]
      | some a =>
        refine ⟨none, a, ?_⟩
        simp [takeVector, bind, EStateM.bind, hen, hv, endState]

theorem settle_eq (m : InsnM Unit) (s : State) : settle m s = .next (endState m s) := by
  unfold settle endState
  cases m s <;> rfl

theorem bind_ok {α β : Type} {m : InsnM α} {f : α → InsnM β} {s t : State} {b : β} (h : (m >>= f) s = .ok b t) :
    ∃ a u, m s = .ok a u ∧ f a u = .ok b t := by
  simp only [bind, EStateM.bind] at h
  cases hm : m s with
  | ok a u =>
    rw [hm] at h
    exact ⟨a, u, rfl, h⟩
  | error e u =>
    rw [hm] at h
    cases h

theorem KeepsArch.of_ok {α : Type} {m : InsnM α} (hm : KeepsArch m) {s t : State} {a : α} (h : m s = .ok a t) :
    SameArch s t :=
  endState_ok h ▸ hm.same s

/-- A conversion of Peat ways writes control registers, and no other part of the architectural state (R230). -/
theorem convertPeat_world {p : Nat} {s t : State} (h : convertPeat p s = .ok () t) :
    (t.core p).arch.world = (s.core p).arch.world := by
  obtain ⟨c, u, hc, h⟩ := bind_ok h
  cases hc
  dsimp only at h
  split at h
  · cases h
    rfl
  · obtain ⟨_, u1, h1, h⟩ := bind_ok h
    obtain ⟨_, u2, h2, h⟩ := bind_ok h
    obtain ⟨_, u3, h3, h⟩ := bind_ok h
    obtain ⟨_, u4, h4, h⟩ := bind_ok h
    obtain ⟨_, u5, h5, h⟩ := bind_ok h
    obtain ⟨_, u6, h6, h⟩ := bind_ok h
    cases h
    have keep : SameArch s u6 :=
      ((KeepsArch.modCore p (f := fun c => { c with converting := true }) fun _ => rfl).of_ok h1).trans <|
        ((KeepsArch.stallIf _).of_ok h2).trans <|
        ((KeepsArch.modify fun s => s.evictAll_sameArch ..).of_ok h3).trans <| ((KeepsArch.getCore p).of_ok h4).trans <|
        ((KeepsArch.stallIf _).of_ok h5).trans ((KeepsArch.modify fun s => s.findFlaws_sameArch ..).of_ok h6)
    simp [Core.setCrFld, keep.arch]

theorem syncContext_world {p : Nat} {s t : State} (h : syncContext p s = .ok () t) :
    (t.core p).arch.world = (s.core p).arch.world := by
  obtain ⟨_, u, hc, h⟩ := bind_ok h
  cases h
  rw [← convertPeat_world hc, State.core_modCore_same]
  unfold Core.syncedWith
  dsimp only
  split <;> rfl

theorem twinHold_of_not_leads {p : Nat} {s : State} (h : s.leads p = false) : twinHold p s = .ok () s := by
  simp [twinHold, bind, EStateM.bind, get, getThe, MonadStateOf.get, EStateM.get, h]

theorem State.disarmed_sameArch (s : State) (p : Nat) :
    SameArch s ((s.modCore p (fun c => { c with monitor := none })).endDefers p) :=
  SameArch.trans (SameArch.modCore s p (f := fun c => { c with monitor := none }) fun _ => rfl) (State.endDefers_sameArch ..)

/-- The last part of an entry, after the registers of steps 2–6 of R145. -/
def enterVector (p : Nat) (e : Entry) (again : Bool) : InsnM Unit :=
  if e.sync && again then do
    modify (·.vecHalt p)
    modCore p (·.agreeAct true)
  else do
    modCore p (fun c => { c with fresh := e.level :: c.fresh, arch := { c.arch with entering := some (e.level, e.cause) } })
    orWait (takeVector p)

theorem enter_eq (p : Nat) (e : Entry) : enter p e = (do
    let c0 ← getCore p
    let rest : InsnM Unit := do
      syncContext p
      disarm p
      modCore p (·.enterRegs e)
      enterVector p e (c0.fresh.contains e.level)
    if e.level = 3 ∧ c0.arch.world = false ∧ !c0.acted then do
      twinHold p
      rest
    else rest) := rfl

theorem enter_run {p : Nat} {e : Entry} {s s3 s4 : State} (hl : s.leads p = false) (hs : syncContext p s = .ok () s3)
    (hd : disarm p s3 = .ok () s4) :
    enter p e s = enterVector p e ((s.core p).fresh.contains e.level) (s4.modCore p (·.enterRegs e)) := by
  rw [enter_eq]
  simp only [bind, EStateM.bind, getCore_run]
  split
  · simp only [EStateM.bind, twinHold_of_not_leads hl, hs, hd, modCore_run]
  · simp only [EStateM.bind, hs, hd, modCore_run]

theorem enterVector_arch (p : Nat) (e : Entry) (again : Bool) (s : State) : ∃ en pc,
    ((endState (enterVector p e again) s).core p).arch = { (s.core p).arch with entering := en, pc := pc } := by
  unfold enterVector
  split
  · refine ⟨(s.core p).arch.entering, (s.core p).arch.pc, ?_⟩
    simp [bind, EStateM.bind, endState, (State.vecHalt_sameArch _ p).arch]
  · let u : State := s.modCore p (fun c =>
      { c with fresh := e.level :: c.fresh, arch := { c.arch with entering := some (e.level, e.cause) } })
    obtain ⟨en, pc, h⟩ := takeVector_arch p u
    have hu : endState (orWait (takeVector p)) u = endState (takeVector p) u := by
      unfold endState orWait
      cases takeVector p u <;> rfl
    refine ⟨en, pc, ?_⟩
    have : (u.core p).arch = { (s.core p).arch with entering := some (e.level, e.cause) } := by simp [u]
    rw [this, ← hu] at h
    exact h

/-- What the entry for a synchronous exception outside a delay slot records (R145, R146). -/
def excEntry (x : Ctx) (e : Exc) : Entry :=
  { level := takenAt x e.cause, cause := e.cause, epc := x.pc, eaddr := e.eaddr, info := e.info, acc := e.acc, ipa := e.ipa }

/-- What an entry leaves of the architectural state of its core: the registers of steps 2–6 of R145, with the program counter
that the vector gives. -/
theorem takeExc_arch {x : Ctx} {s s3 : State} (e : Exc) (hl : s.leads x.p = false) (hslot : s.noSlot x.p)
    (hs : syncContext x.p s = .ok () s3) :
    ∃ (c : Core) (en : Option (Nat × Nat)) (pc : Word), c.arch.world = (s.core x.p).arch.world ∧
      ((endState (takeExc x e) s).core x.p).arch = { (c.enterRegs (excEntry x e)).arch with entering := en, pc := pc } := by
  obtain ⟨s4, hdis, hd⟩ : ∃ s4, disarm x.p s3 = .ok () s4 ∧ SameArch s3 s4 := ⟨_, rfl, s3.disarmed_sameArch x.p⟩
  have hslot : (s.core x.p).arch.slot = none := hslot
  have hrun : takeExc x e s = enter x.p (excEntry x e) s := by
    simp [takeExc, excEntry, bind, EStateM.bind, hslot]
  obtain ⟨en, pc, h⟩ := enterVector_arch x.p (excEntry x e) ((s.core x.p).fresh.contains (takenAt x e.cause))
    (s4.modCore x.p (·.enterRegs (excEntry x e)))
  rw [State.core_modCore_same] at h
  refine ⟨s4.core x.p, en, pc, by rw [hd.arch, syncContext_world hs], ?_⟩
  rw [endState, hrun, enter_run hl hs hdis]
  exact h

/-! Control registers. -/

@[simp] theorem Core.crv_setCr_same (c : Core) (k : CrKey) (v : Word) : (c.setCr k v).crv k = v := tget_tput_same ..

theorem Core.crv_setCr_ne (c : Core) {k j : CrKey} (v : Word) (h : j ≠ k) : (c.setCr k v).crv j = c.crv j :=
  tget_tput_ne _ _ _ h

theorem Core.crv_of_cr {c d : Core} (h : d.arch.cr = c.arch.cr) (k : CrKey) : d.crv k = c.crv k := by
  rw [Core.crv, Core.crv, h]

/-- The banked registers of a level are different ones. -/
theorem lvKey_ne (w : Bool) (lv : Nat) {a b : Nat} (h : a % 256 ≠ b % 256) : lvKey w lv a ≠ lvKey w lv b := by
  intro e
  have hn : (BitVec.ofNat 12 (lv * 0x100 + a)).toNat = (BitVec.ofNat 12 (lv * 0x100 + b)).toNat :=
    congrArg BitVec.toNat (CrKey.mk.inj e).2
  rw [BitVec.toNat_ofNat, BitVec.toNat_ofNat] at hn
  omega

/-- The control registers that an entry without an IPA writes (R145 step 3). -/
theorem Core.enterRegs_cr (c : Core) {e : Entry} (hu : e.undo = none) (hi : e.ipa = none) :
    let w : Bool := c.arch.world || e.level == 3
    let k : Nat → CrKey := fun o => lvKey w e.level o
    let c1 := c.setCr (k 2) (setFld (c.crv (k 2)) epc_PC (bits e.epc.toNat 2 46))
    let c2 := c1.setCr (k 3) (estatEntry (c1.crv (k 3)) c.arch.level c.arch.world e)
    (c.enterRegs e).arch.level = e.level ∧
      (c.enterRegs e).arch.cr = (c2.setCr (k 4) (BitVec.ofNat 64 (bits e.eaddr 0 48))).arch.cr := by
  simp only [Core.enterRegs, hu, hi]
  refine ⟨trivial, ?_⟩
  split <;> rfl

theorem Core.enterRegs_epc (c : Core) {e : Entry} (hu : e.undo = none) (hi : e.ipa = none) :
    fld ((c.enterRegs e).crv (lvKey (c.arch.world || e.level == 3) e.level 2)) epc_PC = bits e.epc.toNat 2 46 := by
  obtain ⟨-, hcr⟩ := c.enterRegs_cr hu hi
  rw [Core.crv_of_cr hcr, Core.crv_setCr_ne _ _ (lvKey_ne _ _ (by decide)), Core.crv_setCr_ne _ _ (lvKey_ne _ _ (by decide)),
    Core.crv_setCr_same, fld_setFld_same _ _ (by decide)]
  exact Nat.mod_mod _ _

theorem Core.enterRegs_estat (c : Core) {e : Entry} (hu : e.undo = none) (hi : e.ipa = none) :
    ∃ old, (c.enterRegs e).crv (lvKey (c.arch.world || e.level == 3) e.level 3) =
      estatEntry old c.arch.level c.arch.world e := by
  obtain ⟨-, hcr⟩ := c.enterRegs_cr hu hi
  rw [Core.crv_of_cr hcr, Core.crv_setCr_ne _ _ (lvKey_ne _ _ (by decide)), Core.crv_setCr_same]
  exact ⟨_, rfl⟩

theorem estatEntry_cause (old : Word) (lv : Nat) (w : Bool) (e : Entry) :
    fld (estatEntry old lv w e) estat_CAUSE = e.cause % 64 := by
  simp (disch := decide) only [estatEntry, fld_setFld_ne, fld_setFld_same]
  rfl

theorem estatEntry_info (old : Word) (lv : Nat) (w : Bool) (e : Entry) :
    fld (estatEntry old lv w e) estat_INFO = e.info % 2 ^ 16 := by
  simp (disch := decide) only [estatEntry, fld_setFld_ne, fld_setFld_same]
  rfl

/-- Settles O10: what the entry records is what BRK raises, and neither the vector's read nor the program counter that it gives
touches those registers. -/
theorem breakpointTaken : Obligations.BreakpointTaken := by
  unfold Obligations.BreakpointTaken
  intro p imm s s2 s3 x h hslot hl hs
  have hp : x.p = p := fetched_core h
  subst hp
  let e : Exc := { cause := 0x0D, info := imm.toNat }
  have hrun : exec (.brk x.p imm 0) s = s2.takes x e := (exec_brk ..).trans (runInsn_takes h (.inr hslot) rfl)
  refine ⟨_, hrun.trans (settle_eq ..), ?_⟩
  obtain ⟨c, en, pc, hw, ha⟩ := takeExc_arch e hl hslot hs
  have hlevel := (c.enterRegs_cr (e := excEntry x e) rfl rfl).1
  obtain ⟨old, hes⟩ := c.enterRegs_estat (e := excEntry x e) rfl rfl
  have hepc := c.enterRegs_epc (e := excEntry x e) rfl rfl
  generalize (endState (takeExc x e) s2).core x.p = d at ha
  have hcr (k : CrKey) : d.crv k = (c.enterRegs (excEntry x e)).crv k := Core.crv_of_cr (by rw [ha]) k
  intro d' lv w
  have hk : (c.arch.world || (excEntry x e).level == 3) = w := by rw [hw]; rfl
  rw [hk] at hes hepc
  refine ⟨?_, ?_, ?_, ?_⟩
  · rw [ha]; exact hlevel
  · exact (congrArg (fld · epc_PC) (hcr _)).trans hepc
  · exact (congrArg (fld · estat_CAUSE) ((hcr _).trans hes)).trans (estatEntry_cause ..)
  · exact (congrArg (fld · estat_INFO) ((hcr _).trans hes)).trans
      ((estatEntry_info ..).trans (Nat.mod_eq_of_lt imm.isLt))

end Sys2Proof.Machine
end
